-- ==== Sys2Proof/Word.lean ====
section
/-!
DEFINITION. The byte that crosses the UL440's I2C target port and the pack link (spec 09, R176 and R192).
Every other quantity of the manual is a number with a stated range, and the model holds it as a number.
-/
namespace Sys2Proof

/-- One byte on the I2C target port or on a pack link. -/
abbrev Byte := BitVec 8

end Sys2Proof
end

