-- ==== Sys2Proof/Syntax.lean ====
section
/-!
DEFINITION. The commands of the UL440: one constructor of `Instr` for each row of spec/opcode_table.json, in the table's order,
with the operands that the rule of the row names. A request of the host carries its arguments as the frame carries them
(R188): plain numbers, checked by the rule of the request. A claim or notice that one block hands to another carries what
the rule hands over. An event of an input, a sensor or a timer names the bay, line or slot it happens at, and carries the
level or the reading.
-/
namespace Sys2Proof

/-- R1: one of the 24 positions of the Load Table. -/
abbrev Slot := Fin 24

/-- R156: one of the four park lines. -/
abbrev Line := Fin 4

/-- R64: the two battery bays. -/
inductive Bay where
  | bayA
  | bayB
  deriving DecidableEq, Repr

/-- R65: the level of a lever input. -/
inductive Lever where
  | locked
  | opened
  deriving DecidableEq, Repr

/-- R76: the bay policy, in the order of the profile codes of R200. -/
inductive Policy where
  | act
  | refer
  deriving DecidableEq, Repr

/-- R193: the four system states. -/
inductive SystemState where
  | dark
  | starting
  | run
  | stopping
  deriving DecidableEq, Repr

/-- R139: an impact class. -/
inductive ImpactClass where
  | none
  | light
  | hard
  deriving DecidableEq, Repr

/-- R149: the class an IMPACT declaration carries, LIGHT or HARD. -/
inductive Strike where
  | light
  | hard
  deriving DecidableEq, Repr

/-- R189: a handle, the slot byte and the generation byte. The slot byte of a request may name no slot. -/
structure Handle where
  slot : Nat
  generation : Nat
  deriving DecidableEq, Repr

/-- R121: a curve point, a lux value and a level. -/
structure Point where
  lux : Nat
  level : Nat
  deriving DecidableEq, Repr

/-- The eight arguments of ADMIT in layout order (9.4, R188). An absent rail is 0xFF, an absent minimum 0xFFFF, an absent
fall action 0x00 and an absent lease 0. -/
structure AdmitArgs where
  kind : Nat
  rank : Nat
  requested : Nat
  tag : Nat
  rail : Nat
  minimum : Nat
  fallAction : Nat
  leasePeriod : Nat
  deriving DecidableEq, Repr

/-- The nine arguments of REVISE in layout order (9.4, R188). `named` is the named-field set: bit 0 rank, 1 requested,
2 minimum, 3 tag, 4 fall action, 5 lease, 6 rail. -/
structure ReviseArgs where
  handle : Handle
  named : Byte
  rank : Nat
  requested : Nat
  minimum : Nat
  tag : Nat
  fallAction : Nat
  leasePeriod : Nat
  rail : Nat
  deriving DecidableEq, Repr

/-- R188: the six mask bytes, one reason-set byte for each kind of source. A set bit masks the reason. -/
structure MaskBytes where
  entry : Byte
  bay : Byte
  supply : Byte
  light : Byte
  fall : Byte
  part : Byte
  deriving DecidableEq, Repr

/-- R141: the three axis values of a motion sensor answer, in mg. -/
structure Axes where
  x : Int
  y : Int
  z : Int
  deriving DecidableEq, Repr

/-- The levels that the inputs hold at a power-on reset (R65, R67, R95, R161, R176, R199). -/
structure ResetInputs where
  strapHigh : Bool
  leverA : Lever
  leverB : Lever
  contactA : Bool
  contactB : Bool
  inletPresent : Bool
  done : Vector Bool 4
  buttonDown : Bool
  deriving DecidableEq, Repr

/-- The commands of the block, one for each row of the operation table. -/
inductive Instr where
  /-- R177: a write transfer of these bytes ends at its stop condition. -/
  | frame (bytes : List Byte)
  /-- R178: a frame of this code and these argument bytes, its length byte carrying the more-follows mark. -/
  | moreFollowsFrame (code : Byte) (args : List Byte)
  /-- R16. -/
  | admitEntry (a : AdmitArgs)
  /-- R51. -/
  | stagedAdmit (a : AdmitArgs)
  /-- R17. -/
  | revise (a : ReviseArgs)
  /-- R51. -/
  | stagedRevise (a : ReviseArgs)
  /-- R18. -/
  | release (h : Handle)
  /-- R51. -/
  | stagedRelease (h : Handle)
  /-- R19. -/
  | query (h : Handle)
  /-- R20. -/
  | findTag (tag : Nat)
  /-- R21. -/
  | findRail (rail : Nat)
  /-- R22. -/
  | order
  /-- R44. -/
  | confirm (h : Handle)
  /-- R59. -/
  | renew (h : Handle)
  /-- R52. -/
  | commit
  /-- R55. -/
  | discard
  /-- R56. -/
  | draftRead
  /-- R87: the bay code of R188. -/
  | bayStatus (bay : Nat)
  /-- R86: the bay code of R188. -/
  | reprobe (bay : Nat)
  /-- R104: the bay code of R188. -/
  | eject (bay : Nat)
  /-- R113. -/
  | supplyStatus
  /-- R96. -/
  | setInlet (capability : Nat)
  /-- R136: the part code of R188. -/
  | lightStatus (part : Nat)
  /-- R122. -/
  | curveSet (points : List Point)
  /-- R123. -/
  | curveAdd (p : Point)
  /-- R124. -/
  | curveRemove (lux : Nat)
  /-- R127: the panel code of R188. -/
  | panel (value : Nat)
  /-- R128: a level and a duration in s, 0 for indefinite. -/
  | pin (level duration : Nat)
  /-- R128. -/
  | unpin
  /-- R154. -/
  | fallStatus
  /-- R150. -/
  | arm
  /-- R151. -/
  | disarm
  /-- R152. -/
  | simulateFall
  /-- R166. -/
  | resume
  /-- R196. -/
  | ready
  /-- R197. -/
  | powerOff
  /-- R203. -/
  | partReset
  /-- R201: a setting number. -/
  | profileRead (setting : Nat)
  /-- R201: a setting number and the bytes of its value. -/
  | profileWrite (setting : Nat) (value : List Byte)
  /-- R202. -/
  | profileStore
  /-- R184. -/
  | summary
  /-- R185: a source number and a reason set. -/
  | acknowledge (source : Nat) (reasons : Byte)
  /-- R182: no argument, or the six mask bytes. -/
  | mask (bytes : Option MaskBytes)
  /-- R26: the Load Manager takes a planning ceiling. -/
  | ceilingHandover (ceiling : Nat)
  /-- R7: the Load Manager takes a requested and a minimum power for slot 0. -/
  | slot0Claim (requested minimum : Nat)
  /-- R45. -/
  | graceExpiry (slot : Slot)
  /-- R40. -/
  | holdoffExpiry (slot : Slot)
  /-- R61. -/
  | lapse (slot : Slot)
  /-- R159. -/
  | protectClaim
  /-- R164. -/
  | lineDoneClaim (line : Line)
  /-- R164. -/
  | lineFailedClaim (line : Line)
  /-- R165. -/
  | lateClaim
  /-- R169. -/
  | cutReturnClaim
  /-- R169. -/
  | lineReturnClaim (line : Line)
  /-- R33. -/
  | liftClaim
  /-- R24. -/
  | loadManagerPartReset
  /-- R25. -/
  | loadManagerSystemOffClear
  /-- R93: the Supply Controller takes a counted total. -/
  | countedTotalHandover (total : Nat)
  /-- R95: the filtered inlet input becomes present, or absent. -/
  | inletEvent (present : Bool)
  /-- R107. -/
  | drainTimerExpiry
  /-- R110. -/
  | refillTimerExpiry
  /-- R170. -/
  | deferClaim
  /-- R170 and R66. -/
  | releaseClaim
  /-- R111: the notice of a new system state. -/
  | supplyStateNotice (state : SystemState)
  /-- R92, R90, R99 and R100: from PROFILE_WRITE or the reload of PART_RESET. -/
  | supplyProfileChange
  /-- R76: the policy the profile now gives the bay. -/
  | policyChange (bay : Bay) (policy : Policy)
  /-- R195. -/
  | forcedOff
  /-- R65: a debounced change of the lever input to this level. -/
  | leverEvent (bay : Bay) (level : Lever)
  /-- R77. -/
  | contactMade (bay : Bay)
  /-- R67. -/
  | contactLoss (bay : Bay)
  /-- R69. -/
  | conditionQuery (bay : Bay)
  /-- R69 and R192: the bytes of an answer that arrived within the window. -/
  | goodAnswer (bay : Bay) (bytes : List Byte)
  /-- R70 and R192: the bytes of an answer that arrived within the window. -/
  | badAnswer (bay : Bay) (bytes : List Byte)
  /-- R69. -/
  | missedAnswer (bay : Bay)
  /-- R78. -/
  | probeTimerExpiry (bay : Bay)
  /-- R73. -/
  | linkStepTimerExpiry (bay : Bay)
  /-- R81 and R82. -/
  | ejectWindowExpiry (bay : Bay)
  /-- R84. -/
  | requalify (bay : Bay)
  /-- R85. -/
  | requalifyExpiry (bay : Bay)
  /-- R116: what each ambient sensor answered, or nothing. -/
  | readEvent (front rear : Option Nat)
  /-- R131 and R130: a slot 0 grant, and whether it answers a claim. -/
  | slot0GrantHandoff (grant : Nat) (answer : Bool)
  /-- R133. -/
  | rampStep
  /-- R128. -/
  | pinExpiry
  /-- R134. -/
  | episodeActiveNotice
  /-- R134. -/
  | episodeEndedNotice
  /-- R137: the notice of a new system state. -/
  | backlightStateNotice (state : SystemState)
  /-- R135: the number of the changed setting. -/
  | backlightProfileChange (setting : Nat)
  /-- R138. -/
  | backlightPartReset
  /-- R141: what the motion sensor answered before the next sample fell due, or nothing. -/
  | sampleEvent (reading : Option Axes)
  /-- R153: the notice of a new system state. -/
  | motionStateNotice (state : SystemState)
  /-- R155. -/
  | motionPartReset
  /-- R158. -/
  | fallStart
  /-- R165: the class declared. -/
  | impact (strike : Strike)
  /-- R166: the class declared. -/
  | settled (cls : ImpactClass)
  /-- R171. -/
  | disarmNotice
  /-- R160: the lines the answer names. -/
  | protectAnswer (lines : List Line)
  /-- R162: the done input of the line becomes ACTIVE, or INACTIVE. -/
  | doneInputChange (line : Line) (active : Bool)
  /-- R163. -/
  | parkTimerExpiry (line : Line)
  /-- R168. -/
  | unparkTimerExpiry (line : Line)
  /-- R173. -/
  | sequencerSystemOffClear
  /-- R174. -/
  | sequencerPartReset
  /-- R186. -/
  | attentionSystemOffClear
  /-- R194: the button goes DOWN, or UP. -/
  | buttonChange (down : Bool)
  /-- R194. -/
  | pressTimerExpiry
  /-- R195. -/
  | holdTimerExpiry
  /-- R196. -/
  | startTimerExpiry
  /-- R197. -/
  | stopTimerExpiry
  /-- R202: whether the copy read back passes its check. -/
  | storeTimerExpiry (passes : Bool)
  /-- R199: a power-on reset while the inputs hold these levels. -/
  | powerOnReset (inputs : ResetInputs)
  deriving DecidableEq, Repr

end Sys2Proof
end

