-- ==== Sys2Proof/Decode.lean ====
section
/-!
DEFINITION. The word decoder of the host's interface. spec/opcode_table.json gives none of its rows any bits: a command of
this block is a request frame, an input, a sensor reading, a timer event or a claim between blocks, and no word spells
one. The bytes of a request frame are decoded in Machine/Port.lean (R177, R178, 9.4).
-/
namespace Sys2Proof

/-- The command that a word of `nbits` bits spells by the table's bits: none, since no row of the table gives bits. -/
def decodeTableWord (_nbits _w : Nat) : Option Instr := none

end Sys2Proof
end

