-- ==== Sys2Proof/Machine/Records.lean ====
section
/-!
DEFINITION. The records of the UL440's ten blocks, as plain data: every field the manual's record tables name, and the few
pieces of state its rules imply. Times remaining are held in half milliseconds, the finest step of any timer of the manual
(R141: a sample falls every 2.5 ms). Powers are in pu, levels, lux, mg and counts are plain numbers.
-/
namespace Sys2Proof.Machine

/-! ### The Load Manager (chapters 1 to 3) -/

/-- R2: the kind of an entry. -/
inductive Kind where
  | switched
  | throttled
  | backlight
  deriving DecidableEq, Repr

/-- R8: the six states of a live entry, in the order of the codes of R190. -/
inductive EntryState where
  | pending
  | granted
  | reduced
  | shed
  | lapsed
  | held
  deriving DecidableEq, Repr

/-- R2: what fall protection does to an entry. -/
inductive FallAction where
  | park (line : Line)
  | cut
  deriving DecidableEq, Repr

/-- R2: where fall protection stands with an entry, in the order of the codes of R190. -/
inductive Mark where
  | clear
  | parking
  | parked
  | parkFailed
  deriving DecidableEq, Repr

/-- R58: a lease, its period in s and its time remaining in half ms. -/
structure Lease where
  period : Nat
  remaining : Nat
  deriving DecidableEq, Repr

/-- R42: a grace, its value in pu and its time remaining in half ms. -/
structure Grace where
  value : Nat
  remaining : Nat
  deriving DecidableEq, Repr

/-- R2: the load record of a live slot. Its slot and generation belong to the slot itself. -/
structure Entry where
  tag : Nat
  kind : Kind
  rail : Option (Fin 12)
  rank : Nat
  requested : Nat
  minimum : Nat
  granted : Nat
  counted : Nat
  state : EntryState
  sequence : Nat
  fallAction : Option FallAction
  mark : Mark
  lease : Option Lease
  holdoff : Option Nat
  grace : Option Grace
  deriving DecidableEq, Repr

/-- R1: a slot keeps its generation always, and a load record while it is live. -/
structure SlotRec where
  generation : Nat
  entry : Option Entry
  deriving DecidableEq, Repr

/-- R50: a staged change, exactly as the staged request carried it. -/
inductive Change where
  | admitEntry (a : AdmitArgs)
  | revise (a : ReviseArgs)
  | release (h : Handle)
  deriving DecidableEq, Repr

/-- What the Load Manager owns (R1, R9, R13, R26, R33, R37, R47, R50). `grantHanded` is the slot 0 grant last handed to the
Backlight Controller (R37). -/
structure LoadRec where
  slots : Vector SlotRec 24
  order : List Slot
  draft : List Change
  counter : Nat
  ceiling : Nat
  freeze : Bool
  overcommit : Bool
  grantHanded : Nat
  deriving DecidableEq, Repr

/-! ### The Bay Units (chapter 4) and the Supply Controller (chapter 5) -/

/-- R64: the seven bay states. -/
inductive BayState where
  | empty
  | probing
  | qualified
  | online
  | withdrawing
  | released
  | faulted
  deriving DecidableEq, Repr

/-- R67: the filtered contact input. -/
inductive Contact where
  | made
  | lost
  deriving DecidableEq, Repr

/-- R73: how well a pack is answering. -/
inductive LinkStep where
  | seeking
  | inStep
  | outOfStep
  | lost
  deriving DecidableEq, Repr

/-- R70: the state a pack reports. -/
inductive PackState where
  | ready
  | fault
  deriving DecidableEq, Repr

/-- R70: what a pack asks for. -/
inductive PackRequest where
  | none
  | reduce
  | disconnect
  deriving DecidableEq, Repr

/-- R72: the three values that two good answers in a row must agree on. -/
structure Condition where
  state : PackState
  capability : Nat
  request : PackRequest
  deriving DecidableEq, Repr

/-- R98: what started a withdrawal. -/
inductive Cause where
  | lever
  | eject
  | disconnect
  deriving DecidableEq, Repr

/-- R84: a running requalify, its time remaining and its held capability. -/
structure Requalify where
  remaining : Nat
  held : Nat
  deriving DecidableEq, Repr

/-- R64: a bay record, with the deferred lever state the Supply Controller holds for the bay (R66) and the two times the
polling of R69 implies: the time to the next query and the open answer window. The path, the lamp and the query sent on the pack
link are pins (`Pins`). -/
structure BayRec where
  state : BayState
  leverInput : Lever
  leverTaken : Lever
  contact : Contact
  link : Option LinkStep
  goodRun : Nat
  missRun : Nat
  candidate : Option Condition
  accepted : Option Condition
  charge : Option Nat
  exhausted : Bool
  counted : Nat
  policy : Policy
  cause : Option Cause
  ejectWindow : Option Nat
  probeTimer : Option Nat
  stepTimer : Option Nat
  requalify : Option Requalify
  deferred : Option Lever
  queryTimer : Option Nat
  answerWindow : Option Nat
  deriving DecidableEq, Repr

/-- R112: whether the part has supply. A power-on reset leaves it `gained` (R199): a pack that is seated, and whose path is still OPEN, keeps it
alive until something of R112 does. It is then `supplied`, is `failing` from the event that leaves it no closed path, no inlet and no reserve
until the claims handed over by then have been taken (R109: the system is moved to DARK), and has then `stopped` (notes/assumptions/9.md). -/
inductive Power where
  | gained
  | supplied
  | failing
  | stopped
  deriving DecidableEq, Repr

/-- R94: the supply mode. -/
inductive SupplyMode where
  | steady
  | withdrawal
  | bridging
  deriving DecidableEq, Repr

/-- R97: where the withdrawal under way stands. -/
inductive Phase where
  | blocked
  | clearing
  | opened
  deriving DecidableEq, Repr

/-- R89: why a bay waits for the withdrawal slot. -/
inductive WaitReason where
  | lever
  | disconnect
  deriving DecidableEq, Repr

/-- R89: the supply record. The inlet path and the bridge path are pins (`Pins`). -/
structure SupplyRec where
  mode : SupplyMode
  sourceSum : Nat
  bridgeCounted : Bool
  ceiling : Nat
  totalHeld : Nat
  slot : Option Bay
  phase : Option Phase
  waiting : Option Bay
  waitReason : Option WaitReason
  inletPresent : Bool
  inletSet : Option Nat
  reserve : Nat
  carrying : Bool
  drainTimer : Option Nat
  refillTimer : Option Nat
  deferral : Bool
  deriving DecidableEq, Repr

/-! ### The Backlight Controller (chapter 6) -/

/-- R117: an ambient sensor. -/
structure Sensor where
  failed : Bool
  failedReads : Nat
  last : Option Nat
  deriving DecidableEq, Repr

/-- R128: the pin; no time remaining is an indefinite pin. -/
structure Pin where
  level : Nat
  remaining : Option Nat
  deriving DecidableEq, Repr

/-- R125: where the target comes from. -/
inductive TargetSource where
  | off
  | pin
  | failsafe
  | curve
  deriving DecidableEq, Repr

/-- R133: the ramp. -/
inductive Ramp where
  | idle
  | rising
  | falling
  deriving DecidableEq, Repr

/-- R130: a requested power and a minimum. -/
structure Claim where
  requested : Nat
  minimum : Nat
  deriving DecidableEq, Repr

/-- R129 and R135: the settings whose change the Backlight Controller takes as its own event, as it last took them. -/
structure LightSettings where
  p0 : Nat
  pfull : Nat
  minLevel : Nat
  failsafeLevel : Nat
  deriving DecidableEq, Repr

/-- R115: the backlight record. `readTimer` is the time to the next read event (R116), and `settings` what R135 has the controller
take (notes/assumptions/26.md). -/
structure LightRec where
  panelOn : Bool
  front : Sensor
  rear : Sensor
  window : List Nat
  estimate : Option Nat
  curve : List Point
  pin : Option Pin
  target : Nat
  source : TargetSource
  claimSent : Claim
  inFlight : Bool
  nextClaim : Option Claim
  grantTaken : Nat
  cap : Nat
  capped : Bool
  destination : Nat
  output : Nat
  ramp : Ramp
  stepTimer : Option Nat
  freeze : Bool
  readTimer : Option Nat
  settings : LightSettings
  deriving DecidableEq, Repr

/-! ### The Motion Monitor (chapter 7) and the Protection Sequencer (chapter 8) -/

/-- R139: the motion state. -/
inductive MotionState where
  | off
  | level
  | suspect
  | falling
  | impact
  | settling
  | fault
  deriving DecidableEq, Repr

/-- R139: the motion record. -/
structure MotionRec where
  armed : Bool
  state : MotionState
  lowCount : Nat
  quietCount : Nat
  missedCount : Nat
  cls : ImpactClass
  faultInFall : Bool
  lastMagnitude : Option Nat
  sampleTimer : Option Nat
  deriving DecidableEq, Repr

/-- R156: the episode state. -/
inductive EpisodeState where
  | idle
  | protecting
  | holding
  | recovering
  deriving DecidableEq, Repr

/-- R161: the state of a park line. -/
inductive LineState where
  | idle
  | requested
  | done
  | failed
  deriving DecidableEq, Repr

/-- R156: a park line: its state, its request output, its done input and its timers. -/
structure LineRec where
  state : LineState
  requestOn : Bool
  doneActive : Bool
  parkTimer : Option Nat
  unparkTimer : Option Nat
  deriving DecidableEq, Repr

/-- R156: the episode record. -/
structure EpisodeRec where
  state : EpisodeState
  cls : ImpactClass
  protectPending : Bool
  settleHeld : Bool
  disarmHeld : Bool
  lines : Vector LineRec 4
  deriving DecidableEq, Repr

/-! ### The Request Port and the Attention Unit (chapter 9) -/

/-- R180: the statuses of a reply, with NO_REPLY for a read with no reply held. -/
inductive Status where
  | ok
  | partialDone
  | unknownRequest
  | badLength
  | badArgument
  | staleHandle
  | tableFull
  | railTaken
  | wrongState
  | draftFull
  | draftEmpty
  | curveFull
  | curveOrder
  | busy
  | notRunning
  | noReply
  deriving DecidableEq, Repr

/-- R179: a reply: a status and its payload. -/
structure Reply where
  status : Status
  payload : List Byte
  deriving DecidableEq, Repr

/-- R178: the assembly of a long request: its code and the argument bytes received so far. -/
structure Assembly where
  code : Byte
  args : List Byte
  deriving DecidableEq, Repr

/-- R176, R178, R179: the sampled address strap, the held reply and the held assembly. -/
structure PortRec where
  strapHigh : Bool
  reply : Option Reply
  assembly : Option Assembly
  deriving DecidableEq, Repr

/-- R181 and R182: the reason set of each of the 30 sources, one bit a reason in the order of its row, and the masks. -/
structure AttentionRec where
  sets : Vector Byte 30
  masks : MaskBytes
  deriving DecidableEq, Repr

/-! ### System Power Control and the Profile Store (chapter 10) -/

/-- R193: the system record. The system-on output is a pin (`Pins`). -/
structure SystemRec where
  state : SystemState
  buttonDown : Bool
  pressReady : Bool
  pressTimer : Option Nat
  holdTimer : Option Nat
  startTimer : Option Nat
  stopTimer : Option Nat
  deriving DecidableEq, Repr

/-- R156: the protection mode. -/
inductive ProtectionMode where
  | auto
  | hold
  deriving DecidableEq, Repr

/-- R200: the settings of the profile, in the order of their numbers. Powers in pu, times in the unit of the table. -/
structure Profile where
  allowance : Nat
  margin : Nat
  startThreshold : Nat
  throttleGrace : Nat
  holdoff : Nat
  inletDefault : Nat
  policyA : Policy
  policyB : Policy
  lowCharge : Nat
  bridgeMinimum : Nat
  p0 : Nat
  pfull : Nat
  minLevel : Nat
  failsafeLevel : Nat
  rearFactor : Nat
  upStep : Nat
  downStep : Nat
  defaultCurve : List Point
  lowThreshold : Nat
  quietFloor : Nat
  quietCeiling : Nat
  lightThreshold : Nat
  hardThreshold : Nat
  qualifyCount : Nat
  settleCount : Nat
  parkTimeout : Nat
  protectionMode : ProtectionMode
  armedAtStart : Bool
  masks : MaskBytes
  deriving DecidableEq, Repr

/-- R135: the settings that the Backlight Controller takes as an event. -/
def Profile.lightSettings (p : Profile) : LightSettings :=
  { p0 := p.p0, pfull := p.pfull, minLevel := p.minLevel, failsafeLevel := p.failsafeLevel }

/-- R202: a store in progress: the snapshot and the store timer. -/
structure Storing where
  snapshot : Profile
  timer : Nat
  deriving DecidableEq, Repr

/-- R200 and R202: the working profile, the stored copy with whether its check passes, and the store in progress. -/
structure StoreRec where
  working : Profile
  stored : Profile
  storedOk : Bool
  storing : Option Storing
  deriving DecidableEq, Repr

/-! ### The outputs -/

/-- The output pins of the signal table (spec 00) that follow a record: the alert line (R183), the twelve rail switches
(R12), each bay's path switch and lamp (R68), the byte each bay has sent on its pack link and whose answer it awaits (R69, R192),
the inlet path (R95), the bridge path (R106), the four park request outputs (R161), the backlight drive (R115) and the system-on
output (R193). `true` is low for the alert line, on or CLOSED for the others; the backlight drive is a level, and a pack link is
`none` while no query awaits its answer (DESIGN CHOICE, notes/assumptions/36.md). -/
structure Pins where
  alertLow : Bool
  rails : Vector Bool 12
  pathA : Bool
  pathB : Bool
  lampA : Bool
  lampB : Bool
  linkA : Option Byte
  linkB : Option Byte
  inletPath : Bool
  bridgePath : Bool
  parkRequests : Vector Bool 4
  backlight : Nat
  systemOn : Bool
  deriving DecidableEq, Repr

end Sys2Proof.Machine
end

