-- ==== Sys2Proof/Machine/Defaults.lean ====
section
/-!
DEFINITION. The default profile (R200) and the value each block's record takes at power-on reset (R23, R88, R114, R138, R155,
R175, R179, R186, R193, R199), given the profile loaded and the levels the inputs hold.
-/
namespace Sys2Proof.Machine

/-- R200: the six mask bytes of the default profile: RAISED (entry bit 0) and CEILING (supply bit 4) are masked. -/
def defaultMasks : MaskBytes :=
  { entry := 0x01, bay := 0x00, supply := 0x10, light := 0x00, fall := 0x00, part := 0x00 }

/-- 6.1: the default curve. -/
def defaultCurvePoints : List Point :=
  [⟨0, 120⟩, ⟨500, 260⟩, ⟨5000, 520⟩, ⟨30000, 860⟩, ⟨80000, 1023⟩]

/-- R200: the default of every setting. -/
def defaultProfile : Profile where
  allowance := 150
  margin := 20
  startThreshold := 100
  throttleGrace := 1000
  holdoff := 2
  inletDefault := 900
  policyA := .act
  policyB := .act
  lowCharge := 5
  bridgeMinimum := 10
  p0 := 5
  pfull := 120
  minLevel := 40
  failsafeLevel := 700
  rearFactor := 12
  upStep := 8
  downStep := 1
  defaultCurve := defaultCurvePoints
  lowThreshold := 350
  quietFloor := 800
  quietCeiling := 1200
  lightThreshold := 3000
  hardThreshold := 8000
  qualifyCount := 24
  settleCount := 200
  parkTimeout := 300
  protectionMode := .auto
  armedAtStart := true
  masks := defaultMasks

/-- R23: slot 0 as power-on reset creates it. -/
def slot0AtReset : Entry where
  tag := 0
  kind := .backlight
  rail := none
  rank := 1
  requested := 0
  minimum := 0
  granted := 0
  counted := 0
  state := .pending
  sequence := 0
  fallAction := none
  mark := .clear
  lease := none
  holdoff := none
  grace := none

/-- R23 and R49: the Load Manager at power-on reset. -/
def loadAtReset : LoadRec where
  slots := (Vector.replicate 24 { generation := 0, entry := none }).set 0 { generation := 0, entry := some slot0AtReset }
  order := [0]
  draft := []
  counter := 1
  ceiling := 0
  freeze := false
  overcommit := false
  grantHanded := 0

/-- R88: a bay record at power-on reset, the lever input at `lever` and the policy that of the profile. -/
def bayAtReset (lever : Lever) (policy : Policy) : BayRec where
  state := .empty
  leverInput := lever
  leverTaken := lever
  contact := .lost
  link := none
  goodRun := 0
  missRun := 0
  candidate := none
  accepted := none
  charge := none
  exhausted := false
  counted := 0
  policy := policy
  cause := none
  ejectWindow := none
  probeTimer := none
  stepTimer := none
  requalify := none
  deferred := none
  queryTimer := none
  answerWindow := none

/-- R114: the supply record at power-on reset. -/
def supplyAtReset : SupplyRec where
  mode := .steady
  sourceSum := 0
  bridgeCounted := false
  ceiling := 0
  totalHeld := 0
  slot := none
  phase := none
  waiting := none
  waitReason := none
  inletPresent := false
  inletSet := none
  reserve := 0
  carrying := false
  drainTimer := none
  refillTimer := none
  deferral := false

/-- R138: an ambient sensor at power-on reset. -/
def sensorAtReset : Sensor := { failed := false, failedReads := 0, last := none }

/-- R138: the backlight record at power-on reset, the curve being the profile's default curve and the settings those of the
profile (R199 step 3). -/
def lightAtReset (p : Profile) : LightRec where
  panelOn := true
  front := sensorAtReset
  rear := sensorAtReset
  window := []
  estimate := none
  curve := p.defaultCurve
  pin := none
  target := 0
  source := .off
  claimSent := { requested := 0, minimum := 0 }
  inFlight := false
  nextClaim := none
  grantTaken := 0
  cap := 0
  capped := false
  destination := 0
  output := 0
  ramp := .idle
  stepTimer := none
  freeze := false
  readTimer := none
  settings := p.lightSettings

/-- R155: the motion record at power-on reset. -/
def motionAtReset (p : Profile) : MotionRec where
  armed := p.armedAtStart
  state := .off
  lowCount := 0
  quietCount := 0
  missedCount := 0
  cls := .none
  faultInFall := false
  lastMagnitude := none
  sampleTimer := none

/-- R161 and R175: a park line at power-on reset; its done input field takes the level the input holds. -/
def lineAtReset (doneActive : Bool) : LineRec :=
  { state := .idle, requestOn := false, doneActive := doneActive, parkTimer := none, unparkTimer := none }

/-- R175: the episode record at power-on reset. -/
def episodeAtReset (done : Vector Bool 4) : EpisodeRec where
  state := .idle
  cls := .none
  protectPending := false
  settleHeld := false
  disarmHeld := false
  lines := Vector.ofFn fun i => lineAtReset done[i]

/-- R176, R178, R179: the port at power-on reset. -/
def portAtReset (strapHigh : Bool) : PortRec :=
  { strapHigh := strapHigh, reply := none, assembly := none }

/-- R186: the attention state at power-on reset, the masks being the profile's, before PROFILE_DEFAULTED. -/
def attentionAtReset (p : Profile) : AttentionRec :=
  { sets := Vector.replicate 30 0, masks := p.masks }

/-- R193 and R199: the system record at power-on reset; press ready is no when the button is DOWN. -/
def systemAtReset (buttonDown : Bool) : SystemRec where
  state := .dark
  buttonDown := buttonDown
  pressReady := !buttonDown
  pressTimer := none
  holdTimer := none
  startTimer := none
  stopTimer := none

/-- Every output at power-on reset: released, off, OPEN and at level 0, and no query sent (R12, R68, R69, R95, R138, R161, R183, R193). -/
def pinsAtReset : Pins where
  alertLow := false
  rails := Vector.replicate 12 false
  pathA := false
  pathB := false
  lampA := false
  lampB := false
  linkA := none
  linkB := none
  inletPath := false
  bridgePath := false
  parkRequests := Vector.replicate 4 false
  backlight := 0
  systemOn := false

/-- The levels that the inputs hold at `State.reset`, and the stored copy: DESIGN CHOICE (notes/assumptions/2.md). The manual
gives the rule that takes them, not the levels. -/
def inputsAtReset : ResetInputs where
  strapHigh := false
  leverA := .locked
  leverB := .locked
  contactA := false
  contactB := false
  inletPresent := false
  done := Vector.replicate 4 false
  buttonDown := false

/-- R199 step 2 with a stored copy that passes its check and holds the defaults (notes/assumptions/2.md). -/
def storeAtReset : StoreRec where
  working := defaultProfile
  stored := defaultProfile
  storedOk := true
  storing := none

end Sys2Proof.Machine
end

