-- ==== Sys2Proof/Machine/State.lean ====
section
/-!
DEFINITION. The state of the UL440: the record of each block, its outputs, the claims and notices its blocks have handed to one
another and not yet taken, and the queue of commands that wait. Plain data.
-/
namespace Sys2Proof.Machine

/-- The state of the part. `handed` holds, oldest first, every claim, notice and answer that a block has handed over and its
receiver has not yet taken (the claims table of spec 00, R157, R193). `bridgeTests` says of each profile
change handed to the Supply Controller, in the same order, whether a PROFILE_WRITE of the bridge minimum handed it (R99,
notes/assumptions/28.md). `power` says whether the part has supply (R112). `freeCount` is the model's own counter, from which a free
choice is read (Config.releaseTakesAFirst).
`pending` is the queue of commands that wait to be taken, first in, first out. -/
structure State where
  port : PortRec
  attention : AttentionRec
  load : LoadRec
  supply : SupplyRec
  bayA : BayRec
  bayB : BayRec
  light : LightRec
  motion : MotionRec
  episode : EpisodeRec
  system : SystemRec
  store : StoreRec
  pins : Pins
  power : Power
  freeCount : Nat
  handed : List Instr
  bridgeTests : List Bool
  pending : List Instr
  deriving DecidableEq, Repr

/-- Why the machine stops. The manual names no condition that stops the part with an error: a request that cannot be carried
out is refused by its reply (R180), and an event that finds nothing to act on changes nothing. The type has no constructor,
so no command of the model faults. -/
inductive Fault where
  deriving DecidableEq, Repr

/-- Why a command has no meaning. -/
inductive Refusal where
  /-- Raised by the dispatcher for a command that has no meaning yet; the string is its row's mnemonic. Safe: the model stops
  where the part goes on. No command of this model raises it. -/
  | notModelled (mnemonic : String)
  deriving DecidableEq, Repr

/-- What a step of the machine answers. -/
abbrev Result := Host.Outcome State Fault Refusal

/-- The machine right after a power-on reset (R199) at which the inputs hold `inputsAtReset` and the stored copy passes its
check and holds the defaults. No claim is handed and no command waits. Its power is gained: nothing of R112 feeds it yet (DESIGN CHOICE,
notes/assumptions/9.md). -/
def State.reset : State where
  port := portAtReset inputsAtReset.strapHigh
  attention := attentionAtReset storeAtReset.working
  load := loadAtReset
  supply := supplyAtReset
  bayA := bayAtReset inputsAtReset.leverA storeAtReset.working.policyA
  bayB := bayAtReset inputsAtReset.leverB storeAtReset.working.policyB
  light := lightAtReset storeAtReset.working
  motion := motionAtReset storeAtReset.working
  episode := episodeAtReset inputsAtReset.done
  system := systemAtReset inputsAtReset.buttonDown
  store := storeAtReset
  pins := pinsAtReset
  power := .gained
  freeCount := 0
  handed := []
  bridgeTests := []
  pending := []

end Sys2Proof.Machine
end

