-- ==== Sys2Proof/Machine/Flags.lean ====
section
/-!
DEFINITION. The Attention Unit's reasons, masks and alert line (R181 to R186): which bit of which source's set a reason is, how a
reason is raised and cleared, and when the alert line is low.
-/
namespace Sys2Proof.Machine

/-- R181: the reasons of an entry source, in the order of its row. -/
inductive EntryReason where
  | raised | lowered | shed | lapsed | overdue | held | parkFailed | parkLate
  deriving DecidableEq, Repr

/-- R181: the reasons of a bay source. -/
inductive BayReason where
  | inserted | qualified | readyToRemove | removed | lost | fault | packRequest | linkOut
  deriving DecidableEq, Repr

/-- R181: the reasons of the supply source. -/
inductive SupplyReason where
  | bridging | bridgeLow | overcommit | withdrawBlocked | ceiling
  deriving DecidableEq, Repr

/-- R181: the reasons of the backlight source. -/
inductive LightReason where
  | sensorFail | capped | pinExpired
  deriving DecidableEq, Repr

/-- R181: the reasons of the fall source. -/
inductive FallReason where
  | fall | impactLight | impactHard | hold | recovered | sensorFault
  deriving DecidableEq, Repr

/-- R181: the reasons of the part source. -/
inductive PartReason where
  | profileDefaulted | storeDone | storeFail
  deriving DecidableEq, Repr

/-- A reason at a source. -/
inductive Attention where
  | entry (slot : Slot) (r : EntryReason)
  | bay (bay : Bay) (r : BayReason)
  | supply (r : SupplyReason)
  | light (r : LightReason)
  | fall (r : FallReason)
  | part (r : PartReason)
  deriving DecidableEq, Repr

/-- R188: the bit of a reason in its source's reason set, bit 0 for the first reason of the row. -/
def EntryReason.bit : EntryReason → Byte
  | .raised => 0x01
  | .lowered => 0x02
  | .shed => 0x04
  | .lapsed => 0x08
  | .overdue => 0x10
  | .held => 0x20
  | .parkFailed => 0x40
  | .parkLate => 0x80

/-- R188. -/
def BayReason.bit : BayReason → Byte
  | .inserted => 0x01
  | .qualified => 0x02
  | .readyToRemove => 0x04
  | .removed => 0x08
  | .lost => 0x10
  | .fault => 0x20
  | .packRequest => 0x40
  | .linkOut => 0x80

/-- R188. -/
def SupplyReason.bit : SupplyReason → Byte
  | .bridging => 0x01
  | .bridgeLow => 0x02
  | .overcommit => 0x04
  | .withdrawBlocked => 0x08
  | .ceiling => 0x10

/-- R188. -/
def LightReason.bit : LightReason → Byte
  | .sensorFail => 0x01
  | .capped => 0x02
  | .pinExpired => 0x04

/-- R188. -/
def FallReason.bit : FallReason → Byte
  | .fall => 0x01
  | .impactLight => 0x02
  | .impactHard => 0x04
  | .hold => 0x08
  | .recovered => 0x10
  | .sensorFault => 0x20

/-- R188. -/
def PartReason.bit : PartReason → Byte
  | .profileDefaulted => 0x01
  | .storeDone => 0x02
  | .storeFail => 0x04

/-- R181: the attention source of a slot is the slot's number. -/
def entrySource (i : Slot) : Fin 30 := ⟨i.val, by omega⟩

/-- R181: 24 is Bay A and 25 Bay B. -/
def baySource : Bay → Fin 30
  | .bayA => 24
  | .bayB => 25

/-- R181: the supply source. -/
def supplySource : Fin 30 := 26
/-- R181: the backlight source. -/
def lightSource : Fin 30 := 27
/-- R181: the fall source. -/
def fallSource : Fin 30 := 28
/-- R181: the part source. -/
def partSource : Fin 30 := 29

/-- R181: where a reason is pending. -/
def Attention.source : Attention → Fin 30
  | .entry i _ => entrySource i
  | .bay b _ => baySource b
  | .supply _ => supplySource
  | .light _ => lightSource
  | .fall _ => fallSource
  | .part _ => partSource

/-- R188: the bit of a reason. -/
def Attention.bit : Attention → Byte
  | .entry _ r => r.bit
  | .bay _ r => r.bit
  | .supply r => r.bit
  | .light r => r.bit
  | .fall r => r.bit
  | .part r => r.bit

/-- R181: the reasons that a source's kind may hold. -/
def sourceReasons (i : Fin 30) : Byte :=
  if i.val < 26 then 0xFF
  else if i.val = 26 then 0x1F
  else if i.val = 27 then 0x07
  else if i.val = 28 then 0x3F
  else 0x07

/-- R182: the mask byte that applies at a source. -/
def maskAt (m : MaskBytes) (i : Fin 30) : Byte :=
  if i.val < 24 then m.entry
  else if i.val < 26 then m.bay
  else if i.val = 26 then m.supply
  else if i.val = 27 then m.light
  else if i.val = 28 then m.fall
  else m.part

/-- R182 and R188: no mask byte sets a bit that no reason kind occupies. -/
def masksValid (m : MaskBytes) : Bool :=
  m.supply &&& ~~~(0x1F : Byte) == 0 && m.light &&& ~~~(0x07 : Byte) == 0 && m.fall &&& ~~~(0x3F : Byte) == 0 &&
  m.part &&& ~~~(0x07 : Byte) == 0

namespace AttentionRec

/-- R181: a reason joins its source's set; one already pending stays pending as one. -/
def raise (a : Attention) (r : AttentionRec) : AttentionRec :=
  { r with sets := r.sets.set a.source (r.sets[a.source] ||| a.bit) }

/-- R185: the reasons of a byte leave a source's set. -/
def acknowledge (i : Fin 30) (reasons : Byte) (r : AttentionRec) : AttentionRec :=
  { r with sets := r.sets.set i (r.sets[i] &&& ~~~reasons) }

/-- R181: a source's set is emptied. -/
def empty (i : Fin 30) (r : AttentionRec) : AttentionRec :=
  { r with sets := r.sets.set i 0 }

/-- R186: every source's set is emptied. -/
def emptyAll (r : AttentionRec) : AttentionRec :=
  { r with sets := Vector.replicate 30 0 }

/-- R186: the sets of the entry sources 0 to 23 are emptied. -/
def emptyEntries (r : AttentionRec) : AttentionRec :=
  { r with sets := Vector.ofFn fun i => if i.val < 24 then 0 else r.sets[i] }

/-- R183: the alert line is low while some source holds a pending reason whose kind is not masked. -/
def alertLow (r : AttentionRec) : Bool :=
  (List.finRange 30).any fun i => r.sets[i] &&& ~~~(maskAt r.masks i) != 0

/-- R184: the sources that hold pending reasons, in ascending order, each with its set. -/
def pendingSources (r : AttentionRec) : List (Fin 30 × Byte) :=
  ((List.finRange 30).map fun i => (i, r.sets[i])).filter fun p => p.2 != 0

end AttentionRec

end Sys2Proof.Machine
end

