-- ==== Sys2Proof/Machine/Ops.lean ====
section
/-!
DEFINITION. The operations every block's events are built from: the units of time, the byte order of the port, handing a claim
over and taking it, raising a reason, what an event leaves on the outputs, and the shape of an event and of a request.
-/
namespace Sys2Proof.Machine

/-! ### Time, bytes and roots -/

/-- Milliseconds, in the half milliseconds that times remaining are held in. -/
def ms (n : Nat) : Nat := 2 * n
/-- Seconds, in half milliseconds. -/
def sec (n : Nat) : Nat := 2000 * n

/-- R188: a value in `width` bytes, least significant byte first. -/
def leBytes : (width n : Nat) → List Byte
  | 0, _ => []
  | width + 1, n => BitVec.ofNat 8 n :: leBytes width (n / 256)

/-- R188: the value of bytes sent least significant byte first. -/
def fromLE : List Byte → Nat
  | [] => 0
  | b :: bs => b.toNat + 256 * fromLE bs

/-- The largest root below `r + 2 ^ k` whose square is no greater than `n`, found one bit at a time from the top. -/
def isqrtBits : (k r n : Nat) → Nat
  | 0, r, _ => r
  | k + 1, r, n => if (r + 2 ^ k) * (r + 2 ^ k) ≤ n then isqrtBits k (r + 2 ^ k) n else isqrtBits k r n

/-- R142: the square root of a number below 2^32, rounded down. -/
def isqrt (n : Nat) : Nat := isqrtBits 16 0 n

/-! ### Claims, reasons and outputs -/

namespace State

/-- A block hands a claim, a notice or an answer over: it waits behind those handed before it. -/
def hand (c : Instr) (s : State) : State := { s with handed := s.handed ++ [c] }

/-- Several are handed over, in order. -/
def handAll (cs : List Instr) (s : State) : State := { s with handed := s.handed ++ cs }

/-- The receiver takes a claim: the oldest of its kind and content is no longer waiting. A claim that no block has handed over
is taken as one that has (notes/assumptions/4.md). -/
def take (c : Instr) (s : State) : State := { s with handed := s.handed.erase c }

/-- R181: a block raises a reason. -/
def raise (a : Attention) (s : State) : State := { s with attention := s.attention.raise a }

/-- A list of reasons is raised. -/
def raiseAll (as : List Attention) (s : State) : State := as.foldl (fun s a => s.raise a) s

/-- The record of a bay. -/
def bay (s : State) : Bay → BayRec
  | .bayA => s.bayA
  | .bayB => s.bayB

/-- The record of a bay is replaced. -/
def setBay (b : Bay) (r : BayRec) (s : State) : State :=
  match b with
  | .bayA => { s with bayA := r }
  | .bayB => { s with bayB := r }

/-- A change of a bay's record. -/
def modifyBay (b : Bay) (f : BayRec → BayRec) (s : State) : State := s.setBay b (f (s.bay b))

/-- The profile settings in force (R200). -/
def profile (s : State) : Profile := s.store.working

end State

/-- The other bay. -/
def otherBay : Bay → Bay
  | .bayA => .bayB
  | .bayB => .bayA

/-- R12: a rail is on while the live entry that names it is GRANTED. -/
def railOn (L : LoadRec) (rail : Fin 12) : Bool :=
  (List.finRange 24).any fun i =>
    match L.slots[i].entry with
    | some e => e.rail == some rail && e.state == .granted
    | none => false

/-- R68: a bay's path switch is CLOSED while the bay is ONLINE or WITHDRAWING. -/
def BayRec.pathClosed (r : BayRec) : Bool := r.state == .online || r.state == .withdrawing

/-- R68: a bay's lamp is ON in RELEASED and FAULTED. -/
def BayRec.lampOn (r : BayRec) : Bool := r.state == .released || r.state == .faulted

/-- R192: the condition query is the single byte 0xC7. -/
def conditionQueryByte : Byte := 0xC7

/-- R69 and R192: what a bay has sent on its pack link and awaits the answer of: the condition query while its answer window is
open, and nothing otherwise. That it is shown for that window is the model's choice (DESIGN CHOICE, notes/assumptions/36.md). -/
def BayRec.linkByte (r : BayRec) : Option Byte := if r.answerWindow.isSome then some conditionQueryByte else none

/-- R94: the supply mode follows the bridge and the withdrawal slot. -/
def SupplyRec.modeNow (r : SupplyRec) : SupplyMode :=
  if r.carrying then .bridging else if r.slot.isSome then .withdrawal else .steady

/-- The outputs that follow from the records (R12, R68, R69, R95, R106, R115, R161, R183, R192, R193). -/
def pinsNow (s : State) : Pins where
  alertLow := s.attention.alertLow
  rails := Vector.ofFn fun r => railOn s.load r
  pathA := s.bayA.pathClosed
  pathB := s.bayB.pathClosed
  lampA := s.bayA.lampOn
  lampB := s.bayB.lampOn
  linkA := s.bayA.linkByte
  linkB := s.bayB.linkByte
  inletPath := s.supply.inletPresent
  bridgePath := s.supply.carrying
  parkRequests := Vector.ofFn fun n => (s.episode.lines[n]).requestOn
  backlight := s.light.output
  systemOn := s.system.state != .dark

/-- R112: the part is kept alive by a bay whose path is closed, by the inlet or by the reserve of the bridge cell, carrying or not. -/
def fed (s : State) : Bool :=
  s.bayA.pathClosed || s.bayB.pathClosed || s.supply.inletPresent || decide (0 < s.supply.reserve)

/-- R199: a contact or an inlet that the reset found is handed over and not yet taken. -/
def sourceWaits (s : State) : Bool :=
  s.handed.contains (.contactMade .bayA) || s.handed.contains (.contactMade .bayB) || s.handed.contains (.inletEvent true)

/-- R112: a part without supply takes the claims handed over, and stops when none waits any more. -/
def unfedPower (s : State) : Power := if s.handed = [] then .stopped else .failing

/-- R112: the part is supplied while it is fed, and a part that nothing feeds stops, from whichever event on. One that a power-on reset has
started is judged so once something has fed it and what the reset found has been taken, and one whose supply has failed stays without
(DESIGN CHOICE, notes/assumptions/9.md). -/
def powerNow (s : State) : Power :=
  match s.power with
  | .gained => if fed s && !sourceWaits s then .supplied else .gained
  | .supplied => if fed s then .supplied else unfedPower s
  | .failing => unfedPower s
  | .stopped => .stopped

/-- At the end of an event its outputs, the supply mode and the power follow the records it has left (R94, R112). -/
def finish (s : State) : State :=
  { s with supply := { s.supply with mode := s.supply.modeNow }, pins := pinsNow s, power := powerNow s }

/-- The state that one event leaves: its changes, then its outputs. A part that has stopped takes no event (R112). -/
def eventState (f : State → State) (s : State) : State := if s.power = .stopped then s else finish (f s)

/-- One event of the part. -/
def event (s : State) (f : State → State) : Result := .next (eventState f s)

/-- R180: a refusal carries its status and no payload. -/
def refusal (st : Status) : Reply := { status := st, payload := [] }

/-- R180: the reply of a request carried out, with its payload. -/
def okReply (payload : List Byte) : Reply := { status := .ok, payload := payload }

/-- The port holds a reply (R179) and no assembly: a request that reaches its block has ended the one held (R178). -/
def PortRec.answer (r : Reply) (p : PortRec) : PortRec := { p with reply := some r, assembly := none }

/-- One request of the host, taken by the block it reaches as its own event; the reply is built from that event (R177). -/
def request (s : State) (f : State → State × Reply) : Result :=
  event s fun s => { (f s).1 with port := (f s).1.port.answer (f s).2 }

/-- A refused request changes nothing but the held reply (R180). -/
def refuse (st : Status) (s : State) : State × Reply := (s, refusal st)

/-- A request that has a condition to meet is refused with the status of the first one it does not meet. -/
def require (ok : Bool) (st : Status) (s : State) (k : State × Reply) : State × Reply :=
  if ok then k else refuse st s

end Sys2Proof.Machine
end

