-- ==== Sys2Proof/Machine/Handover.lean ====
section
/-!
DEFINITION. Who hands each claim, notice and answer to whom (the claims table of spec 00, R149, R157, R193), and the order in which a
receiver takes them: what one party handed it comes in the order it was handed (R130, R149, R157).
-/
namespace Sys2Proof.Machine

/-- The parties that hand something over: the blocks, each Bay Unit by itself, and the inputs (R199). -/
inductive Party where
  | inputs
  | loadManager
  | supplyController
  | bayUnit (b : Bay)
  | backlight
  | motionMonitor
  | sequencer
  | attention
  | systemPower
  | profileStore
  deriving DecidableEq, Repr

/-- The party that hands something over and the one that takes it. -/
structure Route where
  sender : Party
  receiver : Party
  deriving DecidableEq, Repr

/-- The route of a command that one party hands to another. A contact lost comes behind a contact made that the bay has not yet
taken (R67, R199). The other commands are not handed over. -/
def route : Instr → Option Route
  | .ceilingHandover _ => some ⟨.supplyController, .loadManager⟩
  | .slot0Claim _ _ => some ⟨.backlight, .loadManager⟩
  | .protectClaim | .lineDoneClaim _ | .lineFailedClaim _ | .lateClaim | .cutReturnClaim | .lineReturnClaim _ | .liftClaim =>
    some ⟨.sequencer, .loadManager⟩
  | .loadManagerPartReset | .loadManagerSystemOffClear => some ⟨.systemPower, .loadManager⟩
  | .countedTotalHandover _ => some ⟨.loadManager, .supplyController⟩
  | .inletEvent _ => some ⟨.inputs, .supplyController⟩
  | .deferClaim | .releaseClaim => some ⟨.sequencer, .supplyController⟩
  | .supplyStateNotice _ => some ⟨.systemPower, .supplyController⟩
  | .supplyProfileChange => some ⟨.profileStore, .supplyController⟩
  | .policyChange b _ => some ⟨.profileStore, .bayUnit b⟩
  | .contactMade b | .contactLoss b => some ⟨.inputs, .bayUnit b⟩
  | .requalify b => some ⟨.sequencer, .bayUnit b⟩
  | .forcedOff => some ⟨.supplyController, .systemPower⟩
  | .slot0GrantHandoff _ _ => some ⟨.loadManager, .backlight⟩
  | .episodeActiveNotice | .episodeEndedNotice => some ⟨.sequencer, .backlight⟩
  | .backlightStateNotice _ | .backlightPartReset => some ⟨.systemPower, .backlight⟩
  | .backlightProfileChange _ => some ⟨.profileStore, .backlight⟩
  | .motionStateNotice _ | .motionPartReset => some ⟨.systemPower, .motionMonitor⟩
  | .fallStart | .impact _ | .settled _ | .disarmNotice => some ⟨.motionMonitor, .sequencer⟩
  | .protectAnswer _ => some ⟨.loadManager, .sequencer⟩
  | .sequencerSystemOffClear | .sequencerPartReset => some ⟨.systemPower, .sequencer⟩
  | .attentionSystemOffClear => some ⟨.systemPower, .attention⟩
  | _ => none

/-- What was handed over on the route of `c` before it and still waits, oldest first. A claim that no party has handed over comes
behind all of them (notes/assumptions/4.md). -/
def State.before (c : Instr) (s : State) : List Instr :=
  (s.handed.takeWhile fun d => d != c).filter fun d => route d == route c

/-- The receiver takes one thing that was handed to it, as an event of its own; `takes` is what each does there. -/
def taken (takes : Instr → State → State) (s : State) (c : Instr) : State := eventState (fun s => takes c (s.take c)) s

/-- The receiver has taken what was handed over on the route of `c` before it. -/
def State.inOrder (takes : Instr → State → State) (c : Instr) (s : State) : State := (s.before c).foldl (taken takes) s

/-- R149, R157: the receiver takes what was handed over, behind what the same party handed it before. -/
def handover (takes : Instr → State → State) (c : Instr) (s : State) : Result := .next (taken takes (s.inOrder takes c) c)

end Sys2Proof.Machine
end

