-- ==== Sys2Proof/Machine/Walk.lean ====
section
/-!
DEFINITION. The budget walk (chapter 2): the rounds of two passes over the eligible entries, and how their result is applied.
-/
namespace Sys2Proof.Machine

/-! ### Reading the table -/

/-- The load record of a slot, when it is live (R1). -/
def LoadRec.entry (L : LoadRec) (i : Slot) : Option Entry := L.slots[i].entry

/-- A slot's load record is replaced; the slot keeps its generation. -/
def LoadRec.setEntry (L : LoadRec) (i : Slot) (e : Option Entry) : LoadRec :=
  { L with slots := L.slots.set i { L.slots[i] with entry := e } }

/-- R8: the four states whose entries are members of the Grant Order. -/
def EntryState.isMember : EntryState → Bool
  | .pending | .granted | .reduced | .shed => true
  | .lapsed | .held => false

/-- The members of the Grant Order, front to back, each with its record. -/
def LoadRec.members (L : LoadRec) : List (Slot × Entry) :=
  L.order.filterMap fun i => (L.entry i).map fun e => (i, e)

/-- R4: the sum of the counted power of every live entry. -/
def LoadRec.countedTotal (L : LoadRec) : Nat :=
  ((List.finRange 24).map fun i => match L.entry i with
    | some e => e.counted
    | none => 0).sum

/-- R37: the grant of slot 0. -/
def LoadRec.slot0Grant (L : LoadRec) : Nat :=
  match L.entry 0 with
  | some e => e.granted
  | none => 0

/-- The grace value an entry in grace carries (R42). -/
def Entry.graceValue (e : Entry) : Nat :=
  match e.grace with
  | some g => g.value
  | none => 0

/-! ### The passes -/

/-- R28: an entry takes part in the passes unless it is in grace, or SHED with its holdoff running. -/
def Entry.eligible (e : Entry) : Bool :=
  e.grace.isNone && !(e.state == .shed && e.holdoff.isSome)

/-- R32: the upper limit of an entry in both passes: its requested power, and under the grant freeze no more than its old
grant. -/
def upperLimit (freeze : Bool) (e : Entry) : Nat :=
  if freeze then min e.requested e.granted else e.requested

/-- R29 and R32: the first-pass grant of an entry, with the headroom that is left when the pass visits it. -/
def firstGrant (freeze : Bool) (headroom : Int) (e : Entry) : Nat :=
  if freeze ∧ upperLimit freeze e < e.minimum then 0
  else if e.rank = 0 then e.minimum
  else if (e.minimum : Int) ≤ headroom then e.minimum
  else 0

/-- R29: the first pass, front to back: each entry with its first-pass grant, and the headroom the pass leaves. -/
def firstPass (freeze : Bool) : Int → List (Slot × Entry) → List (Slot × Entry × Nat) × Int
  | h, [] => ([], h)
  | h, (i, e) :: es =>
    let g := firstGrant freeze h e
    let rest := firstPass freeze (h - g) es
    ((i, e, g) :: rest.1, rest.2)

/-- R30 and R32: by how much the second pass raises an entry given `g` in the first. -/
def secondRaise (freeze : Bool) (headroom : Int) (e : Entry) (g : Nat) : Nat :=
  if g = e.minimum ∧ 0 < g ∧ g < upperLimit freeze e then min (upperLimit freeze e - e.minimum) headroom.toNat else 0

/-- R30: the second pass, front to back: each entry with its tentative grant. -/
def secondPass (freeze : Bool) : Int → List (Slot × Entry × Nat) → List (Slot × Entry × Nat)
  | _, [] => []
  | h, (i, e, g) :: es =>
    let r := secondRaise freeze h e g
    (i, e, g + r) :: secondPass freeze (h - r) es

/-- R28: one round, a first pass and a second pass. -/
def walkRound (freeze : Bool) (headroom : Int) (es : List (Slot × Entry)) : List (Slot × Entry × Nat) :=
  let first := firstPass freeze headroom es
  secondPass freeze first.2 first.1

/-- R31: a round has lowered a THROTTLED entry below its old grant. -/
def loweredThrottled (x : Slot × Entry × Nat) : Bool :=
  x.2.1.kind == .throttled && decide (x.2.2 < x.2.1.granted)

/-- What the walk sets an entry's grant to, and whether it puts the entry into grace. -/
structure GrantResult where
  slot : Slot
  grant : Nat
  intoGrace : Bool
  deriving DecidableEq, Repr

/-- R31: the rounds, each over the entries no earlier round has put into grace. A round that lowers a THROTTLED entry fixes every
such entry at its tentative grant, counts it at the power it had at the walk's start, and is followed by a further round. Each
further round puts at least one more entry into grace, so `fuel` beyond the number of entries is never used up. -/
def walkRounds (freeze : Bool) (ceiling : Nat) : (fuel graceTotal : Nat) → List (Slot × Entry) → List GrantResult
  | 0, _, _ => []
  | fuel + 1, graceTotal, es =>
    let round := walkRound freeze ((ceiling : Int) - (graceTotal : Int)) es
    let low := round.filter loweredThrottled
    let keep := round.filter fun x => !loweredThrottled x
    if low.isEmpty then keep.map fun x => ⟨x.1, x.2.2, false⟩
    else (low.map fun x => ⟨x.1, x.2.2, true⟩) ++
      walkRounds freeze ceiling fuel (graceTotal + (low.map fun x => x.2.1.counted).sum) (keep.map fun x => (x.1, x.2.1))

/-- R28: the walk's result: a grant for every eligible member, with the headroom less the grace values of the entries in grace. -/
def walkResults (L : LoadRec) : List GrantResult :=
  let eligible := L.members.filter fun p => p.2.eligible
  walkRounds L.freeze L.ceiling (eligible.length + 1) ((L.members.map fun p => p.2.graceValue).sum) eligible

/-! ### Applying the result -/

/-- R37: slot 0 while its requested power is 0. -/
def Entry.isIdleBacklight (e : Entry) : Bool := e.kind == .backlight && e.requested == 0

/-- R8 and R34: the state that a new grant leaves. -/
def stateForGrant (e : Entry) (grant : Nat) : EntryState :=
  if e.isIdleBacklight then .pending
  else if grant = 0 then (if e.state = .pending then .pending else .shed)
  else if grant = e.requested then .granted
  else .reduced

/-- R39: the holdoff of an entry whose grant the walk has set: one newly shed starts a holdoff of the profile length when that is
above 0, and one that has left SHED has none. -/
def holdoffForGrant (p : Profile) (e : Entry) (grant : Nat) : Option Nat :=
  if stateForGrant e grant = .shed then
    (if 0 < e.granted then (if 0 < p.holdoff then some (sec p.holdoff) else none) else e.holdoff)
  else none

/-- R34 and R42: an entry as the walk's result leaves it. -/
def applyGrant (p : Profile) (r : GrantResult) (e : Entry) : Entry :=
  { e with
    granted := r.grant
    counted := if r.intoGrace then e.counted else r.grant
    state := stateForGrant e r.grant
    holdoff := holdoffForGrant p e r.grant
    grace := if r.intoGrace then some { value := e.counted, remaining := ms p.throttleGrace } else e.grace }

/-- R35 and R37: the reason that a new grant raises at its entry. -/
def reasonForGrant (e : Entry) (grant : Nat) : Option EntryReason :=
  if e.granted < grant then some .raised
  else if e.isIdleBacklight then none
  else if grant < e.granted then (if grant = 0 then some .shed else some .lowered)
  else none

/-- One grant of the result is applied to the table. -/
def LoadRec.applyResult (p : Profile) (L : LoadRec) (r : GrantResult) : LoadRec :=
  match L.entry r.slot with
  | some e => L.setEntry r.slot (some (applyGrant p r e))
  | none => L

/-- R47: the minimums of the rank-0 members not in grace, plus the grace values of the entries in grace. -/
def LoadRec.overcommitSum (L : LoadRec) : Nat :=
  (L.members.map fun p =>
    if p.2.grace.isSome then p.2.graceValue else if p.2.rank = 0 then p.2.minimum else 0).sum

/-- R47: at the end of the walk the overcommit condition is set or cleared. -/
def LoadRec.judgeOvercommit (L : LoadRec) : LoadRec := { L with overcommit := decide (L.ceiling < L.overcommitSum) }

/-- R34 and R47: the table as a walk leaves it. -/
def LoadRec.walked (p : Profile) (L : LoadRec) : LoadRec :=
  ((walkResults L).foldl (LoadRec.applyResult p) L).judgeOvercommit

/-- R35 and R47: the reasons a walk over `L` raises. -/
def LoadRec.walkReasons (p : Profile) (L : LoadRec) : List Attention :=
  ((walkResults L).filterMap fun r => match L.entry r.slot with
    | some e => (reasonForGrant e r.grant).map (Attention.entry r.slot)
    | none => none) ++
  (if !L.overcommit && (L.walked p).overcommit then [.supply .overcommit] else [])

/-- R27: the budget walk, inside the event that runs it. -/
def runWalk (s : State) : State :=
  ({ s with load := s.load.walked s.profile }).raiseAll (s.load.walkReasons s.profile)

end Sys2Proof.Machine
end

