-- ==== Sys2Proof/Machine/Operands.lean ====
section
/-!
DEFINITION. The byte layouts that cross the port and the pack link (9.6): status and enumeration codes, argument layouts as they are
read from a frame and written back, and the condition message of a pack.
-/
namespace Sys2Proof.Machine

/-! ### Codes -/

/-- R187: the code of a status. -/
def Status.code : Status → Byte
  | .ok => 0x00
  | .partialDone => 0x01
  | .unknownRequest => 0x80
  | .badLength => 0x81
  | .badArgument => 0x82
  | .staleHandle => 0x83
  | .tableFull => 0x84
  | .railTaken => 0x85
  | .wrongState => 0x86
  | .draftFull => 0x87
  | .draftEmpty => 0x88
  | .curveFull => 0x89
  | .curveOrder => 0x8A
  | .busy => 0x8B
  | .notRunning => 0x8C
  | .noReply => 0xFE

/-- One byte of a number. -/
def byte (n : Nat) : Byte := BitVec.ofNat 8 n

/-- R188: two bytes. -/
def word (n : Nat) : List Byte := leBytes 2 n

/-- R191: yes or no, ON or OFF, on or off, set or clear, present or absent. -/
def flagByte (b : Bool) : Byte := if b then 0x01 else 0x00

/-- R191: an optional byte, 0xFF when absent. -/
def optByte (o : Option Nat) : Byte :=
  match o with
  | some n => byte n
  | none => 0xFF

/-- R190: an optional value of two bytes, 0xFFFF when absent. -/
def optWord (o : Option Nat) : List Byte :=
  match o with
  | some n => word n
  | none => [0xFF, 0xFF]

/-- R191: an optional lux value of three bytes, 0xFFFFFF when absent or unknown. -/
def optLux (o : Option Nat) : List Byte :=
  match o with
  | some n => leBytes 3 n
  | none => [0xFF, 0xFF, 0xFF]

/-- R191: an optional time remaining in ms, of four bytes, rounded down; 0xFFFFFFFF when absent. -/
def optTimer (o : Option Nat) : List Byte :=
  match o with
  | some t => leBytes 4 (t / 2)
  | none => [0xFF, 0xFF, 0xFF, 0xFF]

/-- R188: the code of a kind. -/
def Kind.code : Kind → Nat
  | .switched => 1
  | .throttled => 2
  | .backlight => 3

/-- R188: the code of a fall action, 0x00 when absent. -/
def fallActionCode : Option FallAction → Nat
  | none => 0x00
  | some (.park l) => 0x10 + l.val
  | some .cut => 0x20

/-- R188: a fall action byte; `none` is a code the layout does not define. -/
def readFallAction (n : Nat) : Option (Option FallAction) :=
  if n = 0x00 then some none
  else if h : 0x10 ≤ n ∧ n < 0x14 then some (some (.park ⟨n - 0x10, by omega⟩))
  else if n = 0x20 then some (some .cut)
  else none

/-- R188 and R16: a rail byte of 0 to 11. -/
def readRail (n : Nat) : Option (Fin 12) := if h : n < 12 then some ⟨n, h⟩ else none

/-- R188: a bay byte. -/
def readBay (n : Nat) : Option Bay :=
  if n = 0 then some .bayA else if n = 1 then some .bayB else none

/-- R188: the code of a bay. -/
def bayCode : Bay → Nat
  | .bayA => 0
  | .bayB => 1

/-- R190: the code of an entry state. -/
def EntryState.code : EntryState → Nat
  | .pending => 1
  | .granted => 2
  | .reduced => 3
  | .shed => 4
  | .lapsed => 5
  | .held => 6

/-- R190: the code of a protection mark. -/
def Mark.code : Mark → Nat
  | .clear => 0
  | .parking => 1
  | .parked => 2
  | .parkFailed => 3

/-- R191: enumerations take 0x00 for the first value of their record's table and onward. -/
def BayState.code : BayState → Nat
  | .empty => 0
  | .probing => 1
  | .qualified => 2
  | .online => 3
  | .withdrawing => 4
  | .released => 5
  | .faulted => 6

/-- R191. -/
def leverCode : Lever → Nat
  | .locked => 0
  | .opened => 1

/-- R191. -/
def Contact.code : Contact → Nat
  | .made => 0
  | .lost => 1

/-- R191. -/
def LinkStep.code : LinkStep → Nat
  | .seeking => 0
  | .inStep => 1
  | .outOfStep => 2
  | .lost => 3

/-- R191 and R200. -/
def policyCode : Policy → Nat
  | .act => 0
  | .refer => 1

/-- R191. -/
def Cause.code : Cause → Nat
  | .lever => 0
  | .eject => 1
  | .disconnect => 2

/-- R191. -/
def SupplyMode.code : SupplyMode → Nat
  | .steady => 0
  | .withdrawal => 1
  | .bridging => 2

/-- R191. -/
def Phase.code : Phase → Nat
  | .blocked => 0
  | .clearing => 1
  | .opened => 2

/-- R191. -/
def WaitReason.code : WaitReason → Nat
  | .lever => 0
  | .disconnect => 1

/-- R191. -/
def TargetSource.code : TargetSource → Nat
  | .off => 0
  | .pin => 1
  | .failsafe => 2
  | .curve => 3

/-- R191. -/
def Ramp.code : Ramp → Nat
  | .idle => 0
  | .rising => 1
  | .falling => 2

/-- R191. -/
def MotionState.code : MotionState → Nat
  | .off => 0
  | .level => 1
  | .suspect => 2
  | .falling => 3
  | .impact => 4
  | .settling => 5
  | .fault => 6

/-- R191. -/
def classCode : ImpactClass → Nat
  | .none => 0
  | .light => 1
  | .hard => 2

/-- R191. -/
def EpisodeState.code : EpisodeState → Nat
  | .idle => 0
  | .protecting => 1
  | .holding => 2
  | .recovering => 3

/-- R191. -/
def LineState.code : LineState → Nat
  | .idle => 0
  | .requested => 1
  | .done => 2
  | .failed => 3

/-- R192: the state code of a pack. -/
def PackState.code : PackState → Nat
  | .ready => 1
  | .fault => 2

/-- R192: the request code of a pack. -/
def PackRequest.code : PackRequest → Nat
  | .none => 0
  | .reduce => 1
  | .disconnect => 2

/-- R191: a candidate or an accepted condition, of four bytes, all 0x00 when absent. -/
def conditionBytes : Option Condition → List Byte
  | none => [0, 0, 0, 0]
  | some c => byte c.state.code :: word c.capability ++ [byte c.request.code]

/-- R189: the two bytes of a handle. -/
def handleBytes (h : Handle) : List Byte := [byte h.slot, byte h.generation]

/-- R189: a count and that many handles. -/
def handleList (hs : List Handle) : List Byte := byte hs.length :: hs.flatMap handleBytes

/-- R200: a curve, a count and each point's lux and level. -/
def curveBytes (ps : List Point) : List Byte :=
  byte ps.length :: ps.flatMap fun p => leBytes 3 p.lux ++ word p.level

/-- R188: the six mask bytes. -/
def maskList (m : MaskBytes) : List Byte := [m.entry, m.bay, m.supply, m.light, m.fall, m.part]

/-! ### Argument layouts (9.4) -/

/-- The bytes of ADMIT's arguments. -/
def admitBytes (a : AdmitArgs) : List Byte :=
  [byte a.kind, byte a.rank] ++ word a.requested ++ word a.tag ++ [byte a.rail] ++ word a.minimum ++ [byte a.fallAction] ++
  word a.leasePeriod

/-- The bytes of REVISE's arguments. -/
def reviseBytes (a : ReviseArgs) : List Byte :=
  handleBytes a.handle ++ [a.named, byte a.rank] ++ word a.requested ++ word a.minimum ++ word a.tag ++
  [byte a.fallAction] ++ word a.leasePeriod ++ [byte a.rail]

/-- 9.4: ADMIT's twelve argument bytes; `none` when there are more or fewer. -/
def readAdmit : List Byte → Option AdmitArgs
  | [kind, rank, r0, r1, t0, t1, rail, m0, m1, fall, l0, l1] =>
    some { kind := kind.toNat, rank := rank.toNat, requested := fromLE [r0, r1], tag := fromLE [t0, t1], rail := rail.toNat,
           minimum := fromLE [m0, m1], fallAction := fall.toNat, leasePeriod := fromLE [l0, l1] }
  | _ => none

/-- 9.4: REVISE's fourteen argument bytes. -/
def readRevise : List Byte → Option ReviseArgs
  | [slot, gen, named, rank, r0, r1, m0, m1, t0, t1, fall, l0, l1, rail] =>
    some { handle := ⟨slot.toNat, gen.toNat⟩, named := named, rank := rank.toNat, requested := fromLE [r0, r1],
           minimum := fromLE [m0, m1], tag := fromLE [t0, t1], fallAction := fall.toNat, leasePeriod := fromLE [l0, l1],
           rail := rail.toNat }
  | _ => none

/-- R189: a handle argument. -/
def readHandle : List Byte → Option Handle
  | [slot, gen] => some ⟨slot.toNat, gen.toNat⟩
  | _ => none

/-- 9.4: an argument of one byte. -/
def readByte : List Byte → Option Nat
  | [b] => some b.toNat
  | _ => none

/-- 9.4: an argument of two bytes. -/
def readWord : List Byte → Option Nat
  | [b0, b1] => some (fromLE [b0, b1])
  | _ => none

/-- 9.4: a request that carries no argument. -/
def readNothing : List Byte → Option Unit
  | [] => some ()
  | _ => none

/-- The points of a curve, five bytes each; `none` when the bytes end inside a point. -/
def readPoints : List Byte → Option (List Point)
  | [] => some []
  | x0 :: x1 :: x2 :: v0 :: v1 :: rest =>
    (readPoints rest).map fun ps => ⟨fromLE [x0, x1, x2], fromLE [v0, v1]⟩ :: ps
  | _ => none

/-- 9.4: a point count and exactly that many points. -/
def readCurve : List Byte → Option (List Point)
  | [] => none
  | count :: rest => (readPoints rest).bind fun ps => if ps.length = count.toNat then some ps else none

/-- 9.4: one point. -/
def readPoint (bytes : List Byte) : Option Point :=
  match bytes with
  | [x0, x1, x2, v0, v1] => some ⟨fromLE [x0, x1, x2], fromLE [v0, v1]⟩
  | _ => none

/-- 9.4: a lux argument. -/
def readLux : List Byte → Option Nat
  | [x0, x1, x2] => some (fromLE [x0, x1, x2])
  | _ => none

/-- 9.4: PIN's level and duration. -/
def readPin : List Byte → Option (Nat × Nat)
  | [v0, v1, d0, d1] => some (fromLE [v0, v1], fromLE [d0, d1])
  | _ => none

/-- 9.4: ACKNOWLEDGE's source and reason set. -/
def readAcknowledge : List Byte → Option (Nat × Byte)
  | [source, reasons] => some (source.toNat, reasons)
  | _ => none

/-- R188: six mask bytes. -/
def readMasks : List Byte → Option MaskBytes
  | [a, b, c, d, e, f] => some ⟨a, b, c, d, e, f⟩
  | _ => none

/-- 9.4: MASK carries no argument or the six mask bytes. -/
def readMaskRequest : List Byte → Option (Option MaskBytes)
  | [] => some none
  | bytes => (readMasks bytes).map some

/-! ### The condition message of a pack (R70, R192) -/

/-- R70: what a good answer says. -/
structure Answer where
  condition : Condition
  charge : Nat
  deriving DecidableEq, Repr

/-- R192: a pack's state byte. -/
def readPackState (b : Byte) : Option PackState :=
  if b = 0x01 then some .ready else if b = 0x02 then some .fault else none

/-- R192: a pack's request byte. -/
def readPackRequest (b : Byte) : Option PackRequest :=
  if b = 0x00 then some .none else if b = 0x01 then some .reduce else if b = 0x02 then some .disconnect else none

/-- R70 and R192: an answer is judged on its first six bytes: its check byte makes the six sum to 0 modulo 256, and every field
lies within its range. `none` is an answer that is not valid, or not complete. -/
def readAnswer : List Byte → Option Answer
  | state :: c0 :: c1 :: charge :: req :: check :: _ =>
    if state + c0 + c1 + charge + req + check = 0 then
      match readPackState state, readPackRequest req with
      | some ps, some pr =>
        if fromLE [c0, c1] ≤ 800 ∧ charge.toNat ≤ 100 then
          some { condition := { state := ps, capability := fromLE [c0, c1], request := pr }, charge := charge.toNat }
        else none
      | _, _ => none
    else none
  | _ => none

end Sys2Proof.Machine
end

