-- ==== Sys2Proof/Machine/Light.lean ====
section
/-!
DEFINITION. The Backlight Controller's operations (chapter 6): the sensors and the estimate, the curve and the target, the power map and the
level cap, the slot 0 claim, and the ramp.
-/
namespace Sys2Proof.Machine

/-! ### Power and level (R129, R131) -/

/-- R129: the power a level needs. -/
def powerOf (p : LightSettings) (level : Nat) : Nat :=
  if level = 0 then 0 else p.p0 + ((p.pfull - p.p0) * level + 1022) / 1023

/-- R131: the highest level whose power is no greater than a grant. -/
def capOf (p : LightSettings) (grant : Nat) : Nat :=
  if grant = 0 ∨ grant < p.p0 then 0
  else if p.pfull ≤ p.p0 then 1023
  else min 1023 ((grant - p.p0) * 1023 / (p.pfull - p.p0))

/-! ### The target (R121, R125) -/

/-- R125: the level between two points that enclose the estimate, the fraction rounded down. -/
def interpolate (a b : Point) (lux : Nat) : Nat := a.level + (b.level - a.level) * (lux - a.lux) / (b.lux - a.lux)

/-- R125: the level a curve gives at an estimate. -/
def curveLevel : List Point → Nat → Nat
  | [], _ => 0
  | [a], _ => a.level
  | a :: b :: rest, lux =>
    if lux ≤ a.lux then a.level
    else if lux < b.lux then interpolate a b lux
    else curveLevel (b :: rest) lux

/-- R125: the target and its source, the first row that applies. -/
def targetOf (dark : Bool) (r : LightRec) : Nat × TargetSource :=
  if !r.panelOn || dark then (0, .off)
  else match r.pin with
    | some pin => (pin.level, .pin)
    | none =>
      match r.estimate with
      | none => (r.settings.failsafeLevel, .failsafe)
      | some lux => if r.curve.isEmpty then (r.settings.failsafeLevel, .failsafe) else (curveLevel r.curve lux, .curve)

/-- R121: strictly increasing lux and non-decreasing level. -/
def curveOrdered : List Point → Bool
  | [] => true
  | [_] => true
  | a :: b :: rest => decide (a.lux < b.lux) && decide (a.level ≤ b.level) && curveOrdered (b :: rest)

/-- R121: the lux and the level of a point lie in their ranges. -/
def pointInRange (p : Point) : Bool := decide (p.lux ≤ 131071) && decide (p.level ≤ 1023)

/-- R121: the most points of a curve. -/
def curveLimit : Nat := 12

/-! ### Destination, cap and ramp (R131, R133) -/

/-- R133: the ramp of an output that has a destination. -/
def rampOf (output destination : Nat) : Ramp :=
  if output < destination then .rising else if destination < output then .falling else .idle

/-- R133: the ramp and its step timer follow the destination; a running timer is kept while the output differs from it. -/
def followRamp (r : LightRec) : LightRec :=
  { r with ramp := rampOf r.output r.destination
           stepTimer := if r.output = r.destination then none else some (r.stepTimer.getD (ms 20)) }

/-- R131 step 4: the destination becomes the lesser of the target and the cap, and the ramp follows it. -/
def aim (r : LightRec) : LightRec := followRamp { r with destination := min r.target r.cap }

/-- R131 steps 2 to 4: the cap is worked out afresh, and an output above it drops to it in a cap step. -/
def recap (r : LightRec) : LightRec :=
  aim { r with cap := capOf r.settings r.grantTaken, output := min r.output (capOf r.settings r.grantTaken) }

/-- R133: one step of the ramp. -/
def stepOutput (p : Profile) (r : LightRec) : LightRec :=
  let next := if r.output < r.destination then min r.destination (r.output + p.upStep)
    else max r.destination (r.output - p.downStep)
  followRamp { r with output := next, stepTimer := none }

/-! ### The claim and the capped test (R130, R132) -/

/-- R130: the pair of the target. -/
def pairOf (r : LightRec) : Claim :=
  { requested := powerOf r.settings r.target,
    minimum := min (powerOf r.settings r.settings.minLevel) (powerOf r.settings r.target) }

/-- R130: a pair is sent to the Load Manager. -/
def sendClaim (c : Claim) (s : State) : State :=
  ({ s with light := { s.light with claimSent := c, inFlight := true } }).hand (.slot0Claim c.requested c.minimum)

/-- R130: the pair is formed, and sent, held or passed over. -/
def formPair (s : State) : State :=
  let c := pairOf s.light
  if s.light.inFlight then { s with light := { s.light with nextClaim := some c } }
  else if c = s.light.claimSent then s
  else sendClaim c s

/-- R132: the capped test, which waits while a claim is in flight. -/
def capTest (s : State) : State :=
  if s.light.inFlight then s
  else if s.light.cap < s.light.target then
    (if s.light.capped then s else ({ s with light := { s.light with capped := true } }).raise (.light .capped))
  else { s with light := { s.light with capped := false } }

/-- The system is DARK. -/
def systemDark (s : State) : Bool := s.system.state == .dark

/-- R125: the record with its target worked out. -/
def retargeted (s : State) : LightRec :=
  { s.light with
    target := (targetOf (systemDark s) s.light).1
    source := (targetOf (systemDark s) s.light).2 }

/-- R125, R130, R132: the target is recomputed, the destination, the pair and the capped test follow. -/
def refreshTarget (s : State) : State := capTest (formPair { s with light := aim (retargeted s) })

/-- R125: the target is recomputed; an equal one changes nothing further. -/
def retarget (s : State) : State :=
  if (retargeted s).target = s.light.target then { s with light := retargeted s } else refreshTarget s

/-- R135: the level cap and the pair are worked out afresh. -/
def remap (s : State) : State := capTest (formPair { s with light := recap s.light })

/-! ### The sensors and the estimate (R116 to R120) -/

/-- R116: the greatest value a sensor's good read gives. -/
def luxLimit : Nat := 131071

/-- R116: a read that is good. -/
def goodRead (reading : Option Nat) : Option Nat := reading.filter fun v => decide (v ≤ luxLimit)

/-- R117: a sensor after a read. -/
def readSensor (reading : Option Nat) (x : Sensor) : Sensor :=
  match goodRead reading with
  | some v => { failed := false, failedReads := 0, last := some v }
  | none =>
    if x.failed then x
    else { x with failedReads := x.failedReads + 1, failed := decide (3 ≤ x.failedReads + 1) }

/-- R117: the read makes the sensor FAILED. -/
def sensorFails (reading : Option Nat) (x : Sensor) : Bool := !x.failed && (readSensor reading x).failed

/-- R118: the rear value, scaled by the rear factor. -/
def scaledRear (p : Profile) (v : Nat) : Nat := v * p.rearFactor / 16

/-- R118: the effective reading. -/
def effective (p : Profile) (front rear : Option Nat) : Option Nat :=
  match goodRead front, goodRead rear with
  | some f, some r => some (max f (scaledRear p r))
  | some f, none => some f
  | none, some r => some (scaledRear p r)
  | none, none => none

/-- R119: a reading joins the window, which holds the last 20. -/
def joinWindow (v : Nat) (w : List Nat) : List Nat := (if 20 ≤ w.length then w.drop (w.length - 19) else w) ++ [v]

/-- The least of some readings, if there are any. -/
def leastOf : List Nat → Option Nat
  | [] => none
  | v :: vs => some (vs.foldl min v)

/-- The greatest of some readings. -/
def greatestOf (vs : List Nat) : Nat := vs.foldl max 0

/-- R120: the least of the last three readings, when there are three. -/
def riseCandidate (w : List Nat) : Option Nat := if 3 ≤ w.length then leastOf (w.drop (w.length - 3)) else none

/-- R120: the estimate after a reading has joined the window. -/
def newEstimate (w : List Nat) (estimate : Option Nat) : Option Nat :=
  match estimate with
  | none => riseCandidate w
  | some e =>
    match riseCandidate w with
    | some least => if e < least then some least else if 20 ≤ w.length ∧ greatestOf w < e then some (greatestOf w) else some e
    | none => some e

/-- R118 to R120: the window and the estimate after the sensors have been read, the freeze being off. -/
def takeReading (p : Profile) (front rear : Option Nat) (r : LightRec) : LightRec :=
  match effective p front rear with
  | some v =>
    let w := joinWindow v r.window
    { r with window := w, estimate := newEstimate w r.estimate }
  | none => if r.front.failed && r.rear.failed then { r with window := [], estimate := none } else r

/-- R116 steps 1 to 3: a read event's changes of the record. -/
def readLight (p : Profile) (front rear : Option Nat) (r : LightRec) : LightRec :=
  let r1 := { r with front := readSensor front r.front, rear := readSensor rear r.rear, readTimer := some (ms 100) }
  if r1.freeze then r1 else takeReading p front rear r1

end Sys2Proof.Machine
end

