-- ==== Sys2Proof/Machine/LightEvents.lean ====
section
/-!
DEFINITION. The Backlight Controller's events: sensor reads, slot 0 grants, ramp steps, the pin's expiry, the notices of episodes and of system
state, and changes of the profile.
-/
namespace Sys2Proof.Machine

/-- R116: a read event. -/
def readSensors (front rear : Option Nat) (s : State) : State :=
  let s1 := { s with light := readLight s.profile front rear s.light }
  let s2 := if sensorFails front s.light.front || sensorFails rear s.light.rear then s1.raise (.light .sensorFail) else s1
  if s1.light.estimate = s.light.estimate then s2 else retarget s2

/-- R116: a read event falls while the read timer runs. R116 has none fall in DARK, and R137 has them stop at the DARK notice: between the entry to
DARK and the notice the model still reads (DESIGN CHOICE, notes/assumptions/32.md). -/
def execReadEvent (front rear : Option Nat) (s : State) : Result :=
  event s fun s => if s.light.readTimer.isSome then readSensors front rear s else s

/-- R130: the answer to the claim in flight is handled, and a next claim that differs is sent. -/
def takeAnswerToClaim (s : State) : State :=
  let s1 := { s with light := { s.light with inFlight := false, nextClaim := none } }
  match s.light.nextClaim with
  | some c => if c = s.light.claimSent then s1 else sendClaim c s1
  | none => s1

/-- R131 and R132: a slot 0 grant is taken. R137 has every grant taken in DARK give destination 0, and the target becomes 0 at the DARK notice:
a grant taken between the entry to DARK and the notice gives the lesser of the target held and the cap (DESIGN CHOICE,
notes/assumptions/35.md). -/
def takeGrant (grant : Nat) (answer : Bool) (s : State) : State :=
  let s1 := { s with light := recap { s.light with grantTaken := grant } }
  let s2 := if answer then takeAnswerToClaim s1 else s1
  if answer || s1.light.cap != s.light.cap then capTest s2 else s2

/-- R133: the step timer expires. R133 has the ramp run in STARTING, RUN and STOPPING, and R137 ends it at the DARK notice: between the entry to
DARK and the notice the model still steps the output (DESIGN CHOICE, notes/assumptions/34.md). -/
def execRampStep (s : State) : Result :=
  event s fun s => if s.light.stepTimer.isSome then { s with light := stepOutput s.profile s.light } else s

/-- R128: a pin with a time remaining. -/
def pinRuns (r : LightRec) : Bool :=
  match r.pin with
  | some pin => pin.remaining.isSome
  | none => false

/-- R128: the pin runs out. -/
def expirePin (s : State) : State :=
  retarget (({ s with light := { s.light with pin := none } }).raise (.light .pinExpired))

/-- R128: the pin's expiry. -/
def execPinExpiry (s : State) : Result := event s fun s => if pinRuns s.light then expirePin s else s

/-- R134: a fall episode becomes active. -/
def beginFreeze (s : State) : State := { s with light := { s.light with freeze := true } }

/-- R134: the freeze ends: the window is cleared, and the estimate is unknown when no sensor is OK. -/
def endFreeze (s : State) : State :=
  let unknown := s.light.front.failed && s.light.rear.failed
  let s1 := { s with light := { s.light with
    freeze := false, window := [], estimate := if unknown then none else s.light.estimate } }
  if unknown && s.light.estimate.isSome then retarget s1 else s1

/-- R137: the STARTING notice: the read events start and the target is recomputed, its pair formed. In a system that is DARK again no read
event falls (R116), and the target is OFF (R125). -/
def lightStarting (s : State) : State :=
  refreshTarget { s with light := { s.light with
    readTimer := if systemDark s then s.light.readTimer else some (ms 100) } }

/-- R137 step 2: a sensor as the system-off clear leaves it. -/
def clearedSensor (x : Sensor) : Sensor := { x with failed := false, failedReads := 0 }

/-- R137 steps 1 to 7: the record as the system-off clear leaves it. -/
def clearedLight (r : LightRec) : LightRec :=
  { r with readTimer := none, front := clearedSensor r.front, rear := clearedSensor r.rear, window := [], estimate := none,
           pin := none, panelOn := true, target := 0, source := .off, destination := 0, output := 0, ramp := .idle,
           stepTimer := none, capped := false, freeze := false }

/-- R137: the DARK notice. -/
def lightDark (s : State) : State :=
  formPair { s with light := clearedLight s.light, attention := s.attention.empty lightSource }

/-- R137: what the Backlight Controller does on each notice. -/
def lightNotice (st : SystemState) (s : State) : State :=
  match st with
  | .starting => lightStarting s
  | .run | .stopping => s
  | .dark => lightDark s

/-- R129 and R135: the settings that a changed setting has the controller take from the profile; P0 and Pfull, which bind one another,
are taken together. The change names its setting, and its value is the one the profile holds when the change is taken: of two writes before that,
the first value is never taken (DESIGN CHOICE, notes/assumptions/33.md). -/
def takenSettings (setting : Nat) (p : Profile) (held : LightSettings) : LightSettings :=
  if setting = 11 ∨ setting = 12 then { held with p0 := p.p0, pfull := p.pfull }
  else if setting = 13 then { held with minLevel := p.minLevel }
  else if setting = 14 then { held with failsafeLevel := p.failsafeLevel }
  else held

/-- R135: what a changed setting does once it is taken. P0, Pfull and the minimum level follow the target held, also between the entry to DARK and
the DARK notice (DESIGN CHOICE, notes/assumptions/35.md). -/
def followSetting (setting : Nat) (s : State) : State :=
  if setting = 11 ∨ setting = 12 then remap s
  else if setting = 13 then capTest (formPair s)
  else if setting = 14 then retarget s
  else s

/-- R135: a changed setting is taken; until then the events of the Backlight Controller see the one held (DEDUCED,
notes/assumptions/26.md). -/
def lightSettingChanged (setting : Nat) (s : State) : State :=
  followSetting setting { s with light := { s.light with settings := takenSettings setting s.profile s.light.settings } }

/-- R138 and R135: the Backlight Controller's part of PART_RESET: the curve and every setting are taken from the reloaded profile.
R138 gives capped as no and R135 has the capped test follow; the manual does not say whether it follows when the reload changes neither the target
nor the cap (R132): the model sets capped to no and then always tests (DESIGN CHOICE, notes/assumptions/37.md). -/
def lightPartReset (s : State) : State :=
  let s1 := { s with light := { s.light with
    curve := s.profile.defaultCurve, pin := none, capped := false, settings := s.profile.lightSettings } }
  remap { s1 with light := retargeted s1 }

/-! ### What is handed to the Backlight Controller -/

/-- R131, R134, R135, R137, R138: what the Backlight Controller does on each hand-over and notice. -/
def lightTakes (c : Instr) (s : State) : State :=
  match c with
  | .slot0GrantHandoff grant answer => takeGrant grant answer s
  | .episodeActiveNotice => beginFreeze s
  | .episodeEndedNotice => if s.light.freeze then endFreeze s else s
  | .backlightStateNotice st => lightNotice st s
  | .backlightProfileChange setting => lightSettingChanged setting s
  | .backlightPartReset => lightPartReset s
  | _ => s

/-- R131: the Backlight Controller takes a slot 0 grant. -/
def execSlot0GrantHandoff (grant : Nat) (answer : Bool) (s : State) : Result :=
  handover lightTakes (.slot0GrantHandoff grant answer) s

/-- R134: the Backlight Controller is told that a fall episode becomes active. -/
def execEpisodeActiveNotice (s : State) : Result := handover lightTakes .episodeActiveNotice s

/-- R134: the Backlight Controller is told that a fall episode ends. -/
def execEpisodeEndedNotice (s : State) : Result := handover lightTakes .episodeEndedNotice s

/-- R137: the Backlight Controller takes the notice of a new system state. -/
def execBacklightStateNotice (st : SystemState) (s : State) : Result := handover lightTakes (.backlightStateNotice st) s

/-- R135: the Backlight Controller takes a changed setting. -/
def execBacklightProfileChange (setting : Nat) (s : State) : Result := handover lightTakes (.backlightProfileChange setting) s

/-- R138: the Backlight Controller takes its part of PART_RESET. -/
def execBacklightPartReset (s : State) : Result := handover lightTakes .backlightPartReset s

end Sys2Proof.Machine
end

