-- ==== Sys2Proof/Machine/Load.lean ====
section
/-!
DEFINITION. The Load Manager's operations on its table: handles, the Grant Order, admission, revision, release, the hand-overs at an
event's end, and its parts of PART_RESET and of the system-off clear (chapters 1 to 3).
-/
namespace Sys2Proof.Machine

/-! ### Handles and the Grant Order -/

/-- R5: the slot that a handle names: live, and with the generation the handle carries. `none` is STALE_HANDLE. -/
def LoadRec.lookup (L : LoadRec) (h : Handle) : Option (Slot × Entry) :=
  if hs : h.slot < 24 then
    match L.slots[h.slot].entry with
    | some e => if L.slots[h.slot].generation = h.generation then some (⟨h.slot, hs⟩, e) else none
    | none => none
  else none

/-- R5: the handle of a slot, with its current generation. -/
def LoadRec.handleOf (L : LoadRec) (i : Slot) : Handle := { slot := i.val, generation := L.slots[i].generation }

/-- R9: by rank ascending, and within one rank by sequence ascending. -/
def precedes (a b : Entry) : Bool := decide (a.rank < b.rank) || (a.rank == b.rank && decide (a.sequence < b.sequence))

/-- R10: a slot's place in the order: before the first member that its entry precedes. -/
def insertBefore (L : LoadRec) (i : Slot) (e : Entry) : List Slot → List Slot
  | [] => [i]
  | j :: js =>
    match L.entry j with
    | some ej => if precedes e ej then i :: j :: js else j :: insertBefore L i e js
    | none => j :: insertBefore L i e js

/-- R10: an entry is inserted into the Grant Order at the place its rank and sequence give. -/
def LoadRec.join (L : LoadRec) (i : Slot) (e : Entry) : LoadRec := { L with order := insertBefore L i e L.order }

/-- R10: a slot leaves the Grant Order; the members behind it close up. -/
def LoadRec.leave (L : LoadRec) (i : Slot) : LoadRec := { L with order := L.order.filter fun j => j != i }

/-- A slot's record is changed, if it is live. -/
def LoadRec.modifyEntry (L : LoadRec) (i : Slot) (f : Entry → Entry) : LoadRec :=
  match L.entry i with
  | some e => L.setEntry i (some (f e))
  | none => L

/-- Every live record is changed by a function of its slot. -/
def LoadRec.mapEntries (L : LoadRec) (f : Slot → Entry → Entry) : LoadRec :=
  { L with slots := Vector.ofFn fun i => { L.slots[i] with entry := (L.slots[i].entry).map (f i) } }

/-- The live slots whose record meets a test, in slot order. -/
def LoadRec.slotsWhere (L : LoadRec) (p : Entry → Bool) : List Slot :=
  (List.finRange 24).filter fun i => match L.entry i with
    | some e => p e
    | none => false

/-- R11: the live slot that names a rail. -/
def LoadRec.railHolder (L : LoadRec) (r : Fin 12) : Option Slot :=
  (L.slotsWhere fun e => e.rail == some r).head?

/-! ### Hand-overs at the end of an event -/

/-- R4, R37 and R130: at the end of an event of the Load Manager the counted total goes to the Supply Controller when the event has
changed it, and the slot 0 grant to the Backlight Controller when it differs from the one last handed over or answers a claim. -/
def handLoadResults (before : LoadRec) (answer : Bool) (s : State) : State :=
  let s1 := if s.load.countedTotal = before.countedTotal then s else s.hand (.countedTotalHandover s.load.countedTotal)
  if answer || s1.load.slot0Grant != s1.load.grantHanded then
    { s1 with load := { s1.load with grantHanded := s1.load.slot0Grant } }.hand (.slot0GrantHandoff s1.load.slot0Grant answer)
  else s1

/-- An event of the Load Manager: its changes, then its hand-overs. -/
def loadChange (f : State → State) (s : State) : State := handLoadResults s.load false (f s)

/-! ### Release (R18) -/

/-- R5: the generation of a slot advances by one, modulo 256. -/
def nextGeneration (g : Nat) : Nat := (g + 1) % 256

/-- R18 steps 1 to 5: a slot's entry is retired: out of the Grant Order, its record with its timers dropped, the slot FREE with its
generation advanced, its reasons cleared. Its rail goes off with its record (`pinsNow`). -/
def releaseSlot (i : Slot) (s : State) : State :=
  { s with
    load := { (s.load.leave i) with slots := s.load.slots.set i { generation := nextGeneration s.load.slots[i].generation, entry := none } }
    attention := s.attention.empty (entrySource i) }

/-- R24 and R25: every live host slot is released. -/
def releaseHostSlots (s : State) : State :=
  ((s.load.slotsWhere fun _ => true).filter fun i => i != 0).foldl (fun s i => releaseSlot i s) s

/-! ### Admission (R13, R14, R16) -/

/-- R14: the greatest value of the admission counter. -/
def counterLimit : Nat := 4294967295

/-- R14: renumbering gives a live host entry one more than the number of live host entries with a lower sequence. -/
def renumbered (L : LoadRec) (e : Entry) : Nat :=
  (((L.slotsWhere fun x => decide (x.sequence < e.sequence)).filter fun j => j != 0).length) + 1

/-- R14: the live host entries take sequences 1 to n in their current order, slot 0 keeps 0, and the counter is set to n + 1. -/
def LoadRec.renumber (L : LoadRec) : LoadRec :=
  { L.mapEntries (fun i e => if i = 0 then e else { e with sequence := renumbered L e }) with
    counter := ((L.slotsWhere fun _ => true).filter fun i => i != 0).length + 1 }

/-- R188 and R16: a kind code that ADMIT may carry. -/
def readHostKind (n : Nat) : Option Kind :=
  if n = 1 then some .switched else if n = 2 then some .throttled else none

/-- R16: an optional lease period argument, 0 absent or 1 to 600 s. -/
def leasePeriodOk (n : Nat) : Bool := decide (n ≤ 600)

/-- R58: a lease that starts with its whole period remaining; a period of 0 is no lease. -/
def newLease (period : Nat) : Option Lease :=
  if period = 0 then none else some { period := period, remaining := sec period }

/-- R16: the record that an ADMIT's arguments give, its sequence still to come; `none` is BAD_ARGUMENT. -/
def admitRecord (a : AdmitArgs) : Option Entry :=
  if a.rank ≤ 7 ∧ 1 ≤ a.requested ∧ a.requested ≤ 800 ∧ leasePeriodOk a.leasePeriod then
    match readHostKind a.kind, readFallAction a.fallAction with
    | some .switched, some fall =>
      match readRail a.rail with
      | some r =>
        if a.minimum = 0xFFFF ∨ a.minimum = a.requested then
          some { tag := a.tag, kind := .switched, rail := some r, rank := a.rank, requested := a.requested,
                 minimum := a.requested, granted := 0, counted := 0, state := .pending, sequence := 0, fallAction := fall,
                 mark := .clear, lease := newLease a.leasePeriod, holdoff := none, grace := none }
        else none
      | none => none
    | some .throttled, some fall =>
      if a.rail = 0xFF ∧ 1 ≤ a.minimum ∧ a.minimum ≤ a.requested ∧ fall ≠ some .cut then
        some { tag := a.tag, kind := .throttled, rail := none, rank := a.rank, requested := a.requested,
               minimum := a.minimum, granted := 0, counted := 0, state := .pending, sequence := 0, fallAction := fall,
               mark := .clear, lease := newLease a.leasePeriod, holdoff := none, grace := none }
      else none
    | _, _ => none
  else none

/-- R16: the lowest FREE slot from 1 upward. -/
def LoadRec.freeSlot (L : LoadRec) : Option Slot :=
  (List.finRange 24).find? fun i => i != 0 && (L.entry i).isNone

/-- R13 and R14: the counter is made ready for an admission. -/
def LoadRec.readyCounter (L : LoadRec) : LoadRec := if L.counter = counterLimit then L.renumber else L

/-- R13 and R16: the record takes the slot with the counter's sequence, the counter advances, and the entry joins the Grant Order. -/
def LoadRec.place (L : LoadRec) (i : Slot) (e : Entry) : LoadRec :=
  let L1 := L.readyCounter
  let e1 := { e with sequence := L1.counter }
  (({ L1 with counter := L1.counter + 1 }).setEntry i (some e1)).join i e1

/-- R16: the checks of an ADMIT after NOT_RUNNING, and its effect less the walk: the table and the new handle. -/
def applyAdmit (a : AdmitArgs) (s : State) : Except Status (State × Handle) :=
  match admitRecord a with
  | none => .error .badArgument
  | some e =>
    match s.load.freeSlot with
    | none => .error .tableFull
    | some i =>
      if (e.rail.bind s.load.railHolder).isSome then .error .railTaken
      else .ok ({ s with load := s.load.place i e }, s.load.handleOf i)

/-! ### Revision (R17) -/

/-- R188: the named-field set of REVISE names the field of a bit. -/
def ReviseNamed (a : ReviseArgs) (bit : Nat) : Bool := a.named.getLsbD bit

/-- R51 and R17: a REVISE names a field and every named value is in its range. -/
def reviseRangesOk (a : ReviseArgs) : Bool :=
  a.named != 0 && !ReviseNamed a 7 &&
  (!ReviseNamed a 0 || decide (a.rank ≤ 7)) &&
  (!ReviseNamed a 1 || (decide (1 ≤ a.requested) && decide (a.requested ≤ 800))) &&
  (!ReviseNamed a 2 || (decide (1 ≤ a.minimum) && decide (a.minimum ≤ 800))) &&
  (!ReviseNamed a 4 || (readFallAction a.fallAction).isSome) &&
  (!ReviseNamed a 5 || leasePeriodOk a.leasePeriod) &&
  (!ReviseNamed a 6 || (readRail a.rail).isSome)

/-- R17: the requested power after the revision. -/
def revisedRequested (a : ReviseArgs) (e : Entry) : Nat := if ReviseNamed a 1 then a.requested else e.requested

/-- R17: the minimum after the revision; a new requested power of a SWITCHED entry sets it as well. -/
def revisedMinimum (a : ReviseArgs) (e : Entry) : Nat :=
  if ReviseNamed a 2 then a.minimum else if e.kind = .switched then revisedRequested a e else e.minimum

/-- R17: the record as it would stand after the revision keeps R3, and slot 0 is named no field but rank, tag and lease (R6). -/
def reviseKindOk (a : ReviseArgs) (e : Entry) : Bool :=
  match e.kind with
  | .switched => revisedMinimum a e == revisedRequested a e
  | .throttled => !ReviseNamed a 6 && decide (revisedMinimum a e ≤ revisedRequested a e) &&
      !(ReviseNamed a 4 && readFallAction a.fallAction == some (some .cut))
  | .backlight => !ReviseNamed a 1 && !ReviseNamed a 2 && !ReviseNamed a 4 && !ReviseNamed a 6

/-- R17: the entry is in a state that takes the revision. -/
def reviseStateOk (a : ReviseArgs) (e : Entry) : Bool :=
  !((ReviseNamed a 1 || ReviseNamed a 2) && e.grace.isSome) &&
  !(ReviseNamed a 4 && e.mark != .clear) &&
  !(ReviseNamed a 5 && a.leasePeriod == 0 && e.state == .lapsed)

/-- R17 and R11: the revision names a rail that another live entry names. -/
def reviseRailTaken (L : LoadRec) (i : Slot) (a : ReviseArgs) : Bool :=
  ReviseNamed a 6 && (L.slotsWhere fun e => e.rail == readRail a.rail && (readRail a.rail).isSome).any fun j => j != i

/-- R17 and R58: the lease after the revision; on a LAPSED entry the new period is kept and does not run. -/
def revisedLease (a : ReviseArgs) (e : Entry) : Option Lease :=
  if ReviseNamed a 5 then
    (if e.state = .lapsed then some { period := a.leasePeriod, remaining := 0 } else newLease a.leasePeriod)
  else e.lease

/-- R17: the record after the revision. -/
def revisedEntry (a : ReviseArgs) (e : Entry) : Entry :=
  { e with
    rank := if ReviseNamed a 0 then a.rank else e.rank
    requested := revisedRequested a e
    minimum := revisedMinimum a e
    tag := if ReviseNamed a 3 then a.tag else e.tag
    fallAction := if ReviseNamed a 4 then (readFallAction a.fallAction).getD none else e.fallAction
    lease := revisedLease a e
    rail := if ReviseNamed a 6 then readRail a.rail else e.rail }

/-- R17 and R10: the table after the revision: a member that is named a rank moves to the place its rank and sequence give. -/
def LoadRec.revise (L : LoadRec) (i : Slot) (a : ReviseArgs) (e : Entry) : LoadRec :=
  let e1 := revisedEntry a e
  let L1 := L.setEntry i (some e1)
  if ReviseNamed a 0 && e.state.isMember then (L1.leave i).join i e1 else L1

/-- R17 and R27: the revision names what the walk reads of a member. -/
def reviseWalks (a : ReviseArgs) (e : Entry) : Bool :=
  (ReviseNamed a 0 || ReviseNamed a 1 || ReviseNamed a 2) && e.state.isMember

/-- R17: the checks of a REVISE after NOT_RUNNING, and its effect less the walk: the table, and whether the walk runs. -/
def applyRevise (a : ReviseArgs) (s : State) : Except Status (State × Bool) :=
  match s.load.lookup a.handle with
  | none => .error .staleHandle
  | some (i, e) =>
    if !(reviseRangesOk a && reviseKindOk a e) then .error .badArgument
    else if !reviseStateOk a e then .error .wrongState
    else if reviseRailTaken s.load i a then .error .railTaken
    else .ok ({ s with load := s.load.revise i a e }, reviseWalks a e)

/-- R18: the checks of a RELEASE after NOT_RUNNING, and its effect less the walk. -/
def applyRelease (h : Handle) (s : State) : Except Status State :=
  match s.load.lookup h with
  | none => .error .staleHandle
  | some (i, _) => if i = 0 then .error .wrongState else .ok (releaseSlot i s)

/-! ### The Load Manager's parts of the resets -/

/-- R24: the Load Manager's part of PART_RESET. -/
def loadPartReset : State → State :=
  loadChange fun s =>
    let s1 := releaseHostSlots s
    runWalk { s1 with load := { s1.load with draft := [] } }

/-- R25 and R38: slot 0 as the system-off clear leaves it before the walk: requested and minimum power 0, its holdoff dropped and
the entry PENDING unless it is LAPSED. -/
def clearSlot0 (e : Entry) : Entry :=
  { e with
    requested := 0
    minimum := 0
    holdoff := none
    state := if e.state.isMember then .pending else e.state }

/-- R25: the Load Manager's part of the system-off clear; the reasons of sources 0 to 23 go after those its walk raises. -/
def loadSystemOffClear : State → State :=
  loadChange fun s =>
    let s1 := releaseHostSlots s
    let s2 := runWalk { s1 with load := ({ s1.load with draft := [] }).modifyEntry 0 clearSlot0 }
    { s2 with attention := s2.attention.emptyEntries }

/-- R24 and R25: what the Load Manager does on each reset handed to it. -/
def loadResetTakes (c : Instr) (s : State) : State :=
  match c with
  | .loadManagerPartReset => loadPartReset s
  | .loadManagerSystemOffClear => loadSystemOffClear s
  | _ => s

/-- R24 and R25: a reset handed to the Load Manager. -/
def isLoadReset (c : Instr) : Bool := route c == some ⟨.systemPower, .loadManager⟩

/-- R57 and R203: the table against which the Load Manager takes a request: each reset handed to it before has been taken, in order, as
an event of its own (notes/assumptions/17.md). -/
def atLoadManager (s : State) : State := (s.handed.filter isLoadReset).foldl (taken loadResetTakes) s

/-- A request that the Load Manager takes, after every reset handed to it before (R57, R203). -/
def loadRequest (s : State) (f : State → State × Reply) : Result := request (atLoadManager s) f

/-- R15: a load-changing request is refused with NOT_RUNNING outside RUN. -/
def running (s : State) : Bool := s.system.state == .run

end Sys2Proof.Machine
end

