-- ==== Sys2Proof/Machine/LoadRequests.lean ====
section
/-!
DEFINITION. The load requests sent alone (1.8, 2.6, 3.5): ADMIT, REVISE, RELEASE, QUERY, FIND_TAG, FIND_RAIL, ORDER, CONFIRM and
RENEW.
-/
namespace Sys2Proof.Machine

/-- R16: ADMIT is checked and applied, and the walk runs. -/
def admitRequest (a : AdmitArgs) (s : State) : State × Reply :=
  require (running s) .notRunning s <|
    match applyAdmit a s with
    | .error st => refuse st s
    | .ok (s1, h) => (handLoadResults s.load false (runWalk s1), okReply (handleBytes h))

/-- R16: ADMIT. -/
def execAdmit (a : AdmitArgs) (s : State) : Result := loadRequest s (admitRequest a)

/-- R17: REVISE is checked and applied, and the walk runs when it names what the walk reads of a member. -/
def reviseRequest (a : ReviseArgs) (s : State) : State × Reply :=
  require (running s) .notRunning s <|
    match applyRevise a s with
    | .error st => refuse st s
    | .ok (s1, walks) => (handLoadResults s.load false (if walks then runWalk s1 else s1), okReply [])

/-- R17: REVISE. -/
def execRevise (a : ReviseArgs) (s : State) : Result := loadRequest s (reviseRequest a)

/-- R18: RELEASE retires the entry, and the walk runs. -/
def releaseRequest (h : Handle) (s : State) : State × Reply :=
  require (running s) .notRunning s <|
    match applyRelease h s with
    | .error st => refuse st s
    | .ok s1 => (handLoadResults s.load false (runWalk s1), okReply [])

/-- R18: RELEASE. -/
def execRelease (h : Handle) (s : State) : Result := loadRequest s (releaseRequest h)

/-- R190: the 33 bytes of a load record, with the reasons pending at its source. -/
def entryBytes (i : Slot) (generation : Nat) (e : Entry) (reasons : Byte) : List Byte :=
  [byte i.val, byte generation] ++ word e.tag ++ [byte e.kind.code, optByte (e.rail.map Fin.val), byte e.rank] ++
  word e.requested ++ word e.minimum ++ word e.granted ++ word e.counted ++ [byte e.state.code] ++ leBytes 4 e.sequence ++
  [byte (fallActionCode e.fallAction), byte e.mark.code] ++
  word ((e.lease.map Lease.period).getD 0) ++ optWord (e.lease.map fun l => l.remaining / 200) ++
  optWord (e.holdoff.map fun t => t / 2) ++
  optWord (e.grace.map Grace.value) ++ optWord (e.grace.map fun g => g.remaining / 2) ++ [reasons]

/-- R19: QUERY returns the entry it names. -/
def queryRequest (h : Handle) (s : State) : State × Reply :=
  match s.load.lookup h with
  | none => refuse .staleHandle s
  | some (i, e) => (s, okReply (entryBytes i s.load.slots[i].generation e s.attention.sets[entrySource i]))

/-- R19: QUERY. -/
def execQuery (h : Handle) (s : State) : Result := loadRequest s (queryRequest h)

/-- R20: FIND_TAG returns the handles of the live entries that carry the tag, in slot order. -/
def findTagRequest (tag : Nat) (s : State) : State × Reply :=
  (s, okReply (handleList ((s.load.slotsWhere fun e => e.tag == tag).map s.load.handleOf)))

/-- R20: FIND_TAG. -/
def execFindTag (tag : Nat) (s : State) : Result := loadRequest s (findTagRequest tag)

/-- R21 and R189: FIND_RAIL returns the handle of the entry that names the rail, or the empty handle. -/
def findRailRequest (rail : Nat) (s : State) : State × Reply :=
  match readRail rail with
  | none => refuse .badArgument s
  | some r =>
    match s.load.railHolder r with
    | some i => (s, okReply (handleBytes (s.load.handleOf i)))
    | none => (s, okReply [0xFF, 0xFF])

/-- R21: FIND_RAIL. -/
def execFindRail (rail : Nat) (s : State) : Result := loadRequest s (findRailRequest rail)

/-- R22: ORDER returns the Grant Order front to back. -/
def orderRequest (s : State) : State × Reply := (s, okReply (handleList (s.load.order.map s.load.handleOf)))

/-- R22: ORDER. -/
def execOrder (s : State) : Result := loadRequest s orderRequest

/-- R44 steps 1 and 2, and R45: a grace ends and its entry counts at its grant. -/
def endGrace (e : Entry) : Entry := { e with grace := none, counted := e.granted }

/-- R44: CONFIRM ends the grace of the entry it names, and the walk runs. -/
def confirmRequest (h : Handle) (s : State) : State × Reply :=
  match s.load.lookup h with
  | none => refuse .staleHandle s
  | some (i, e) =>
    if e.grace.isNone then refuse .wrongState s
    else (loadChange (fun s => runWalk { s with load := s.load.setEntry i (some (endGrace e)) }) s, okReply [])

/-- R44: CONFIRM. -/
def execConfirm (h : Handle) (s : State) : Result := loadRequest s (confirmRequest h)

/-- R59: a lease starts again with its whole period. -/
def Lease.restart (l : Lease) : Lease := { l with remaining := sec l.period }

/-- R60: a LAPSED entry as its RENEW returns it. -/
def renewedEntry (l : Lease) (e : Entry) : Entry :=
  { e with lease := some l.restart, state := .pending, granted := 0, counted := 0 }

/-- R59 and R60: RENEW restarts a lease, and returns a LAPSED entry to the Grant Order. -/
def renewRequest (h : Handle) (s : State) : State × Reply :=
  require (running s) .notRunning s <|
    match s.load.lookup h with
    | none => refuse .staleHandle s
    | some (i, e) =>
      match e.lease with
      | none => refuse .wrongState s
      | some l =>
        if e.state = .lapsed then
          (loadChange (fun s => runWalk { s with load :=
            (s.load.setEntry i (some (renewedEntry l e))).join i (renewedEntry l e) }) s, okReply [])
        else ({ s with load := s.load.setEntry i (some { e with lease := some l.restart }) }, okReply [])

/-- R59: RENEW. -/
def execRenew (h : Handle) (s : State) : Result := loadRequest s (renewRequest h)

end Sys2Proof.Machine
end

