-- ==== Sys2Proof/Machine/LoadEvents.lean ====
section
/-!
DEFINITION. The Load Manager's own events: the ceiling it is handed, the slot 0 claim, the expiries of grace, holdoff and lease, the
claims of the Protection Sequencer, and its parts of PART_RESET and of the system-off clear.
-/
namespace Sys2Proof.Machine

/-- R26: a new ceiling replaces the one in force and the walk runs; an equal one changes nothing. -/
def takeCeiling (ceiling : Nat) (s : State) : State :=
  if ceiling = s.load.ceiling then s
  else loadChange (fun s => runWalk { s with load := { s.load with ceiling := ceiling } }) s

/-- R7: the requested power that a claim gives slot 0. -/
def claimedRequested (requested : Nat) : Nat := min requested 800

/-- R7: the minimum that a claim gives slot 0. -/
def claimedMinimum (requested minimum : Nat) : Nat := min minimum (claimedRequested requested)

/-- R7 and R38: slot 0 with the claimed pair; a requested power of 0 drops its holdoff and makes a member PENDING. -/
def claimedEntry (requested minimum : Nat) (e : Entry) : Entry :=
  { e with
    requested := claimedRequested requested
    minimum := claimedMinimum requested minimum
    holdoff := if claimedRequested requested = 0 then none else e.holdoff
    state := if claimedRequested requested = 0 ∧ e.state.isMember then .pending else e.state }

/-- R7: the effect of a slot 0 claim, less the hand-over of the answer. -/
def claimSlot0 (requested minimum : Nat) (s : State) : State :=
  match s.load.entry 0 with
  | some e =>
    if claimedRequested requested = e.requested ∧ claimedMinimum requested minimum = e.minimum then s
    else
      let s1 := { s with load := s.load.setEntry 0 (some (claimedEntry requested minimum e)) }
      if e.state = .lapsed then s1 else runWalk s1
  | none => s

/-- R45: a grace whose time remaining is 0 runs out without CONFIRM. When a CONFIRM taken first has ended it and the walk of that CONFIRM
has put the entry into grace again (R44), the new grace does not run out, and nothing happens. -/
def expireGrace (i : Slot) (s : State) : State :=
  match s.load.entry i with
  | some e =>
    match e.grace with
    | some g =>
      if g.remaining = 0 then
        loadChange (fun s => runWalk (({ s with load := s.load.setEntry i (some (endGrace e)) }).raise (.entry i .overdue))) s
      else s
    | none => s
  | none => s

/-- R45: the grace of a slot expires. -/
def execGraceExpiry (i : Slot) (s : State) : Result := event s (expireGrace i)

/-- R40: a holdoff runs out. -/
def expireHoldoff (i : Slot) (s : State) : State :=
  match s.load.entry i with
  | some e =>
    if e.holdoff.isSome then
      loadChange (fun s => runWalk { s with load := s.load.setEntry i (some { e with holdoff := none }) }) s
    else s
  | none => s

/-- R40: the holdoff of a slot expires. -/
def execHoldoffExpiry (i : Slot) (s : State) : Result := event s (expireHoldoff i)

/-- R61: an entry as its lapse leaves it. -/
def lapsedEntry (l : Lease) (e : Entry) : Entry :=
  { e with
    grace := none
    holdoff := none
    granted := 0
    counted := 0
    state := .lapsed
    lease := some { l with remaining := 0 } }

/-- R61: a lease whose time remaining is 0 lapses its entry. One that a RENEW or a REVISE has started again since does not run out, and
nothing happens (R59, R62). -/
def lapseEntry (i : Slot) (s : State) : State :=
  match s.load.entry i with
  | some e =>
    match e.lease with
    | some l =>
      if e.state = .lapsed ∨ l.remaining ≠ 0 then s
      else loadChange (fun s =>
        runWalk (({ s with load := (s.load.setEntry i (some (lapsedEntry l e))).leave i }).raise (.entry i .lapsed))) s
    | none => s
  | none => s

/-- R61: the lease of a slot runs out. -/
def execLapse (i : Slot) (s : State) : Result := event s (lapseEntry i)

/-! ### The claims of the Protection Sequencer (R157) -/

/-- R159: an entry cut by fall protection: HELD, its grant and counted power 0, its holdoff dropped (R41). -/
def heldEntry (e : Entry) : Entry := { e with state := .held, granted := 0, counted := 0, holdoff := none }

/-- A set of slots is cut: each is HELD, leaves the Grant Order and raises HELD. -/
def cutSlots (is : List Slot) (s : State) : State :=
  is.foldl (fun s i => ({ s with load := (s.load.modifyEntry i heldEntry).leave i }).raise (.entry i .held)) s

/-- The walk runs once at the end of an event that cut or returned a slot. -/
def walkWhenAny (is : List Slot) (s : State) : State := if is.isEmpty then s else runWalk s

/-- R159: a granted entry whose fall action is PARK with line n. -/
def parksOn (n : Line) (e : Entry) : Bool := decide (0 < e.granted) && e.fallAction == some (.park n)

/-- R159: the lines the answer names, each once. -/
def namedLines (L : LoadRec) : List Line := (List.finRange 4).filter fun n => !(L.slotsWhere (parksOn n)).isEmpty

/-- R159: a granted entry whose fall action is CUT. -/
def isCut (e : Entry) : Bool := decide (0 < e.granted) && e.fallAction == some .cut

/-- R159: a granted entry with a fall action of PARK is marked PARKING, whatever mark it had. -/
def markParking (e : Entry) : Entry :=
  match e.fallAction with
  | some (.park _) => if 0 < e.granted then { e with mark := .parking } else e
  | _ => e

/-- R159: the effect of the protect claim on the table. -/
def protect (s : State) : State :=
  let cuts := s.load.slotsWhere isCut
  walkWhenAny cuts (cutSlots cuts { s with load := ({ s.load with freeze := true }).mapEntries fun _ e => markParking e })

/-- R164: the entries on a line: PARK with that line, and marked PARKING. -/
def onLine (n : Line) (e : Entry) : Bool := e.fallAction == some (.park n) && e.mark == .parking

/-- R164: a line done claim marks the entries on the line PARKED. -/
def lineDone (n : Line) (s : State) : State :=
  { s with load := s.load.mapEntries fun _ e => if onLine n e then { e with mark := .parked } else e }

/-- R164: an entry that a failed line cuts. -/
def failCuts (n : Line) (e : Entry) : Bool :=
  onLine n e && e.kind == .switched && (e.state == .pending || e.state == .granted || e.state == .shed)

/-- R164: a line failed claim marks the entries on the line PARK_FAILED and cuts the SWITCHED ones. -/
def lineFailed (n : Line) (s : State) : State :=
  let on := s.load.slotsWhere (onLine n)
  let cuts := s.load.slotsWhere (failCuts n)
  let s1 := { s with load := s.load.mapEntries fun _ e => if onLine n e then { e with mark := .parkFailed } else e }
  walkWhenAny cuts (cutSlots cuts (s1.raiseAll (on.map fun i => .entry i .parkFailed)))

/-- R165: the late claim raises PARK_LATE at every entry marked PARKING. -/
def late (s : State) : State :=
  s.raiseAll ((s.load.slotsWhere fun e => e.mark == .parking).map fun i => .entry i .parkLate)

/-- R169: an entry leaves HELD as SHED, without holdoff. -/
def returnedEntry (e : Entry) : Entry := { e with state := .shed, holdoff := none }

/-- R169: a set of HELD entries returns to the Grant Order. -/
def returnSlots (is : List Slot) (s : State) : State :=
  is.foldl (fun s i =>
    match s.load.entry i with
    | some e => { s with load := (s.load.setEntry i (some (returnedEntry e))).join i (returnedEntry e) }
    | none => s) s

/-- R169: a HELD entry whose mark is CLEAR. -/
def cutReturns (e : Entry) : Bool := e.state == .held && e.mark == .clear

/-- R169: the cut return claim. -/
def cutReturn (s : State) : State :=
  let back := s.load.slotsWhere cutReturns
  walkWhenAny back (returnSlots back s)

/-- R169: a marked entry of a line. -/
def markedOn (n : Line) (e : Entry) : Bool := e.fallAction == some (.park n) && e.mark != .clear

/-- R169: the line return claim for a line. -/
def lineReturn (n : Line) (s : State) : State :=
  let back := s.load.slotsWhere fun e => markedOn n e && e.state == .held
  let s1 := { s with load := s.load.mapEntries fun _ e => if markedOn n e then { e with mark := .clear } else e }
  walkWhenAny back (returnSlots back s1)

/-- R33: the lift claim lifts the grant freeze, and the walk runs. -/
def lift (s : State) : State :=
  if s.load.freeze then runWalk { s with load := { s.load with freeze := false } } else s

/-! ### What is handed to the Load Manager -/

/-- R7, R26, R157, R24, R25: what the Load Manager does on each claim and hand-over. -/
def loadTakes (c : Instr) (s : State) : State :=
  match c with
  | .ceilingHandover ceiling => takeCeiling ceiling s
  | .slot0Claim requested minimum => handLoadResults s.load true (claimSlot0 requested minimum s)
  | .protectClaim => (loadChange protect s).hand (.protectAnswer (namedLines s.load))
  | .lineDoneClaim n => lineDone n s
  | .lineFailedClaim n => loadChange (lineFailed n) s
  | .lateClaim => late s
  | .cutReturnClaim => loadChange cutReturn s
  | .lineReturnClaim n => loadChange (lineReturn n) s
  | .liftClaim => loadChange lift s
  | c => loadResetTakes c s

/-- R26: the Load Manager takes a planning ceiling. -/
def execCeilingHandover (ceiling : Nat) (s : State) : Result := handover loadTakes (.ceilingHandover ceiling) s

/-- R7 and R130: the Load Manager takes a slot 0 claim, and hands slot 0's grant back as its answer. -/
def execSlot0Claim (requested minimum : Nat) (s : State) : Result := handover loadTakes (.slot0Claim requested minimum) s

/-- R159: the Load Manager takes the protect claim and answers with the lines to assert. -/
def execProtectClaim (s : State) : Result := handover loadTakes .protectClaim s

/-- R164: the Load Manager takes a line done claim. -/
def execLineDoneClaim (n : Line) (s : State) : Result := handover loadTakes (.lineDoneClaim n) s

/-- R164: the Load Manager takes a line failed claim. -/
def execLineFailedClaim (n : Line) (s : State) : Result := handover loadTakes (.lineFailedClaim n) s

/-- R165: the Load Manager takes the late claim. -/
def execLateClaim (s : State) : Result := handover loadTakes .lateClaim s

/-- R169: the Load Manager takes the cut return claim. -/
def execCutReturnClaim (s : State) : Result := handover loadTakes .cutReturnClaim s

/-- R169: the Load Manager takes a line return claim. -/
def execLineReturnClaim (n : Line) (s : State) : Result := handover loadTakes (.lineReturnClaim n) s

/-- R33: the Load Manager takes the lift claim. -/
def execLiftClaim (s : State) : Result := handover loadTakes .liftClaim s

/-- R24: the Load Manager takes its part of PART_RESET. -/
def execLoadManagerPartReset (s : State) : Result := handover loadTakes .loadManagerPartReset s

/-- R25: the Load Manager takes its part of the system-off clear. -/
def execLoadManagerSystemOffClear (s : State) : Result := handover loadTakes .loadManagerSystemOffClear s

end Sys2Proof.Machine
end

