-- ==== Sys2Proof/Machine/AttentionRequests.lean ====
section
/-!
DEFINITION. The Attention Unit's requests SUMMARY, ACKNOWLEDGE and MASK, and its own event of the system-off clear (9.5).
-/
namespace Sys2Proof.Machine

/-- R188: the SUMMARY payload. -/
def summaryBytes (a : AttentionRec) : List Byte :=
  flagByte a.alertLow :: byte a.pendingSources.length :: a.pendingSources.flatMap fun x => [byte x.1.val, x.2]

/-- R184: SUMMARY. -/
def execSummary (s : State) : Result := request s fun s => (s, okReply (summaryBytes s.attention))

/-- R185: ACKNOWLEDGE. -/
def acknowledgeRequest (source : Nat) (reasons : Byte) (s : State) : State × Reply :=
  if h : source < 30 then
    require (reasons &&& ~~~(sourceReasons ⟨source, h⟩) == 0) .badArgument s
      ({ s with attention := s.attention.acknowledge ⟨source, h⟩ reasons },
        okReply [(s.attention.acknowledge ⟨source, h⟩ reasons).sets[source]])
  else refuse .badArgument s

/-- R185: ACKNOWLEDGE. -/
def execAcknowledge (source : Nat) (reasons : Byte) (s : State) : Result := request s (acknowledgeRequest source reasons)

/-- R182: MASK. -/
def maskRequest (bytes : Option MaskBytes) (s : State) : State × Reply :=
  match bytes with
  | none => (s, okReply (maskList s.attention.masks))
  | some m =>
    require (masksValid m) .badArgument s ({ s with attention := { s.attention with masks := m } }, okReply (maskList m))

/-- R182: MASK. -/
def execMask (bytes : Option MaskBytes) (s : State) : Result := request s (maskRequest bytes)

/-- R186: what the Attention Unit does on the DARK notice: the fall reasons are cleared. -/
def attentionTakes (c : Instr) (s : State) : State :=
  match c with
  | .attentionSystemOffClear => { s with attention := s.attention.empty fallSource }
  | _ => s

/-- R186: the Attention Unit takes the DARK notice. -/
def execAttentionSystemOffClear (s : State) : Result := handover attentionTakes .attentionSystemOffClear s

end Sys2Proof.Machine
end

