-- ==== Sys2Proof/Machine/Draft.lean ====
section
/-!
DEFINITION. The Draft List (3.1 to 3.4): the staged requests, COMMIT, DISCARD and DRAFT_READ.
-/
namespace Sys2Proof.Machine

/-- R50: the most changes the Draft List holds. -/
def draftLimit : Nat := 8

/-- R51: a change is staged: refused outside RUN, then by its own arguments, then when the list is full. -/
def stage (argumentsOk : Bool) (c : Change) (s : State) : State × Reply :=
  require (running s) .notRunning s <|
  require argumentsOk .badArgument s <|
  require (decide (s.load.draft.length < draftLimit)) .draftFull s
    ({ s with load := { s.load with draft := s.load.draft ++ [c] } }, okReply [byte (s.load.draft.length + 1)])

/-- R51: a staged ADMIT. -/
def execStagedAdmit (a : AdmitArgs) (s : State) : Result := loadRequest s (stage (admitRecord a).isSome (.admitEntry a))

/-- R51: a staged REVISE. -/
def execStagedRevise (a : ReviseArgs) (s : State) : Result := loadRequest s (stage (reviseRangesOk a) (.revise a))

/-- R51: a staged RELEASE. -/
def execStagedRelease (h : Handle) (s : State) : Result := loadRequest s (stage true (.release h))

/-- R52: one change is checked and applied as if it had been sent alone, less its walk; an ADMIT gives its handle. -/
def applyChange (c : Change) (s : State) : Except Status (State × List Handle) :=
  match c with
  | .admitEntry a => match applyAdmit a s with
    | .ok (s1, h) => .ok (s1, [h])
    | .error st => .error st
  | .revise a => match applyRevise a s with
    | .ok (s1, _) => .ok (s1, [])
    | .error st => .error st
  | .release h => match applyRelease h s with
    | .ok s1 => .ok (s1, [])
    | .error st => .error st

/-- What a commit has done: the state it has left, how many changes it applied, the handles it admitted, the changes that stay in
the list, and the status of the change it stopped at. -/
structure CommitResult where
  state : State
  applied : Nat
  handles : List Handle
  rest : List Change
  stop : Option Status
  deriving DecidableEq, Repr

/-- R52 and R53: the changes are taken in list order, and the first that fails its check stops the commit. -/
def commitChanges : List Change → State → CommitResult
  | [], s => { state := s, applied := 0, handles := [], rest := [], stop := none }
  | c :: cs, s =>
    match applyChange c s with
    | .error st => { state := s, applied := 0, handles := [], rest := c :: cs, stop := some st }
    | .ok (s1, hs) =>
      let r := commitChanges cs s1
      { r with applied := r.applied + 1, handles := hs ++ r.handles }

/-- R54: the payload of a COMMIT's reply. -/
def commitPayload (r : CommitResult) : List Byte :=
  byte r.applied :: handleList r.handles ++
  match r.stop with
  | some st => [byte (r.applied + 1), st.code]
  | none => []

/-- R53: the table a commit leaves: the changes not applied stay in the list, and the walk runs once when one was applied. -/
def committed (r : CommitResult) : State :=
  let s1 := { r.state with load := { r.state.load with draft := r.rest } }
  if r.applied = 0 then s1 else runWalk s1

/-- R52 to R54: COMMIT applies the Draft List. -/
def commitRequest (s : State) : State × Reply :=
  require (running s) .notRunning s <|
  require (!s.load.draft.isEmpty) .draftEmpty s <|
    let r := commitChanges s.load.draft s
    (if r.applied = 0 then committed r else handLoadResults s.load false (committed r),
      { status := if r.stop.isSome then .partialDone else .ok, payload := commitPayload r })

/-- R52: COMMIT. -/
def execCommit (s : State) : Result := loadRequest s commitRequest

/-- R55: DISCARD empties the list. -/
def discardRequest (s : State) : State × Reply :=
  ({ s with load := { s.load with draft := [] } }, okReply [byte s.load.draft.length])

/-- R55: DISCARD. -/
def execDiscard (s : State) : Result := loadRequest s discardRequest

/-- R191: the staged code of a change and its arguments as the staged request carried them. -/
def changeBytes : Change → List Byte
  | .admitEntry a => 0x90 :: admitBytes a
  | .revise a => 0x91 :: reviseBytes a
  | .release h => 0x92 :: handleBytes h

/-- R56: the changes from a position on, each behind its position. -/
def draftBytes : (position : Nat) → List Change → List Byte
  | _, [] => []
  | n, c :: cs => byte n :: changeBytes c ++ draftBytes (n + 1) cs

/-- R56: DRAFT_READ returns the list. -/
def draftReadRequest (s : State) : State × Reply :=
  (s, okReply (byte s.load.draft.length :: draftBytes 1 s.load.draft))

/-- R56: DRAFT_READ. -/
def execDraftRead (s : State) : Result := loadRequest s draftReadRequest

end Sys2Proof.Machine
end

