-- ==== Sys2Proof/Machine/Supply.lean ====
section
/-!
DEFINITION. The Supply Controller's operations (chapter 5): the source sum and the planning ceiling, the withdrawal slot, the opening of a
path, the bridge cell, and an unplanned loss.
-/
namespace Sys2Proof.Machine

/-! ### What a bay counts, and the planning ceiling -/

/-- R74: the counted capability of a bay, the first case that applies deciding. -/
def BayRec.countedNow (r : BayRec) : Nat :=
  match r.requalify with
  | some q => q.held
  | none =>
    match r.accepted with
    | none => 0
    | some c =>
      if c.state = .fault then 0
      else if r.exhausted then 0
      else if r.policy = .act ∧ c.request = .reduce then c.capability / 2
      else c.capability

/-- R74: the counted capability is worked out again. -/
def BayRec.recount (r : BayRec) : BayRec := { r with counted := r.countedNow }

/-- R76: the bay answers a DISCONNECT of its pack itself. -/
def BayRec.wantsDisconnect (r : BayRec) : Bool :=
  r.policy == .act && match r.accepted with
    | some c => c.request == .disconnect
    | none => false

/-- R90: what a bay adds to the source sum. -/
def bayTerm (phase : Option Phase) (r : BayRec) : Nat :=
  if r.state = .online ∨ (r.state = .withdrawing ∧ phase = some .blocked) then r.counted else 0

/-- R90: the inlet capability: the one set, or the profile inlet default. -/
def inletCapability (s : State) : Nat := s.supply.inletSet.getD s.profile.inletDefault

/-- R90: what the inlet adds to the source sum. -/
def inletTerm (s : State) : Nat := if s.supply.inletPresent then inletCapability s else 0

/-- R90: the bays and the inlet together. -/
def baseSum (s : State) : Nat := bayTerm s.supply.phase s.bayA + bayTerm s.supply.phase s.bayB + inletTerm s

/-- The system is in STARTING or RUN. -/
def systemOn (s : State) : Bool := s.system.state == .starting || s.system.state == .run

/-- R91: the bridge is counted. -/
def bridgeCountedNow (s : State) : Bool := systemOn s && decide (0 < s.supply.reserve) && decide (baseSum s = 0)

/-- R90: the source sum, with the bridge's 300 pu while it is counted. -/
def sourceSumNow (s : State) : Nat := baseSum s + if bridgeCountedNow s then 300 else 0

/-- R92: the planning ceiling, 0 when the difference is below 0. -/
def ceilingNow (s : State) : Nat := sourceSumNow s - s.profile.allowance - s.profile.margin

/-- R90 to R92 steps 1 to 3: the supply is worked out again, and a changed ceiling is handed to the Load Manager with CEILING raised. -/
def recompute (s : State) : State :=
  let s1 := { s with supply := { s.supply with
    sourceSum := sourceSumNow s, bridgeCounted := bridgeCountedNow s, ceiling := ceilingNow s } }
  if ceilingNow s = s.supply.ceiling then s1
  else (s1.hand (.ceilingHandover (ceilingNow s))).raise (.supply .ceiling)

/-! ### Sources -/

/-- R105: a bay ONLINE or WITHDRAWING supplies, the bay whose path is closed (R68). -/
def BayRec.supplies (r : BayRec) : Bool := r.pathClosed

/-- R105: a supplying source remains. -/
def someSource (s : State) : Bool := s.bayA.supplies || s.bayB.supplies || s.supply.inletPresent

/-- R99: the bay is the last source of its withdrawal. -/
def lastSource (b : Bay) (s : State) : Bool := (s.bay (otherBay b)).state != .online && !s.supply.inletPresent

/-- R99: the bridge test blocks the withdrawal of the bay. -/
def blocks (b : Bay) (s : State) : Bool :=
  lastSource b s &&
  match s.system.state with
  | .starting | .run => decide (s.supply.reserve < s.profile.bridgeMinimum)
  | .stopping => true
  | .dark => decide (s.supply.reserve = 0)

/-! ### The bridge cell -/

/-- R106: the bridge starts carrying; one that carries ignores a further cause. -/
def startCarrying (s : State) : State :=
  if s.supply.carrying then s
  else
    let s1 := ({ s with supply := { s.supply with
      carrying := true, refillTimer := none, drainTimer := some (sec 1) } }).raise (.supply .bridging)
    if s.supply.reserve ≤ 15 then s1.raise (.supply .bridgeLow) else s1

/-- R108 and R109: the bridge stops carrying; the reserve keeps what is left. -/
def stopCarrying (s : State) : State := { s with supply := { s.supply with carrying := false, drainTimer := none } }

/-- R110: the refill condition. -/
def refillCondition (s : State) : Bool := !s.supply.carrying && someSource s

/-- R110: the refill timer runs while the condition holds below 60 s; a running timer goes on. -/
def refreshRefill (s : State) : State :=
  let timer := if refillCondition s ∧ s.supply.reserve < 60 then some (s.supply.refillTimer.getD (sec 5)) else none
  { s with supply := { s.supply with refillTimer := timer } }

/-! ### The withdrawal slot -/

/-- R97: the phase enters BLOCKED, with WITHDRAW_BLOCKED raised, or CLEARING. -/
def enterPhase (blocked : Bool) (s : State) : State :=
  let s1 := { s with supply := { s.supply with phase := some (if blocked then .blocked else .clearing) } }
  if blocked then s1.raise (.supply .withdrawBlocked) else s1

/-- R103: the bay stops waiting, if it waits. -/
def stopWaiting (b : Bay) (s : State) : State :=
  if s.supply.waiting = some b then { s with supply := { s.supply with waiting := none, waitReason := none } } else s

/-- R98: an ONLINE bay takes the free slot and enters WITHDRAWING, its phase by the bridge test. -/
def startWithdrawal (b : Bay) (cause : Cause) (s : State) : State :=
  let s1 := (stopWaiting b s).modifyBay b fun r =>
    { r with state := .withdrawing, cause := some cause,
             ejectWindow := if cause = .eject then some (sec 30) else none }
  let s2 := { s1 with supply := { s1.supply with slot := some b } }
  enterPhase (blocks b s2) s2

/-- The withdrawal cause of a waiting reason (R98). -/
def WaitReason.cause : WaitReason → Cause
  | .lever => .lever
  | .disconnect => .disconnect

/-- R98: a lever opened or a DISCONNECT accepted starts the withdrawal, or makes the bay wait while the other holds the slot. -/
def requestWithdrawal (b : Bay) (reason : WaitReason) (s : State) : State :=
  if s.supply.slot.isSome then { s with supply := { s.supply with waiting := some b, waitReason := some reason } }
  else startWithdrawal b reason.cause s

/-- R103: the waiting bay when the slot frees. -/
def handleWaiting (s : State) : State :=
  match s.supply.waiting with
  | none => s
  | some b =>
    let r := s.bay b
    if r.leverTaken = .opened then startWithdrawal b (if r.wantsDisconnect then .disconnect else .lever) s
    else if s.supply.waitReason = some .disconnect ∧ r.wantsDisconnect then startWithdrawal b .disconnect s
    else stopWaiting b s

/-- R97 and R103: the slot frees, its phase is removed and the waiting bay is handled. -/
def freeSlot (s : State) : State := handleWaiting { s with supply := { s.supply with slot := none, phase := none } }

/-- R97: the slot frees when this bay held it. -/
def freeSlotOf (b : Bay) (s : State) : State := if s.supply.slot = some b then freeSlot s else s

/-- R100: a BLOCKED withdrawal that is blocked no longer goes to CLEARING. -/
def unblock (s : State) : State :=
  match s.supply.slot, s.supply.phase with
  | some b, some .blocked => if blocks b s then s else enterPhase false s
  | _, _ => s

/-- R99 and R100: a CLEARING withdrawal that is blocked again returns to BLOCKED. -/
def reblock (s : State) : State :=
  match s.supply.slot, s.supply.phase with
  | some b, some .clearing => if blocks b s then enterPhase true s else s
  | _, _ => s

/-- R99 and R100: a withdrawal under way is tested again. -/
def retest (s : State) : State := reblock (unblock s)

/-! ### The bay's own changes of state -/

/-- R68 and 4.6: a bay becomes FAULTED: its timers, cause and requalify are removed, and FAULT is raised. -/
def becomeFaulted (b : Bay) (s : State) : State :=
  (s.modifyBay b fun r =>
    ({ r with state := .faulted, cause := none, ejectWindow := none, probeTimer := none, requalify := none }).recount).raise
    (.bay b .fault)

/-- R108: bridging ends when a bay has become ONLINE or the inlet present. -/
def endBridging (s : State) : State := if s.supply.carrying then stopCarrying s else s

/-- A bay becomes ONLINE: its timers, cause and requalify are removed (R78, R82, R84). -/
def becomeOnline (b : Bay) (s : State) : State :=
  s.modifyBay b fun r =>
    ({ r with state := .online, cause := none, ejectWindow := none, probeTimer := none, requalify := none }).recount

/-! ### The opening of a path -/

/-- R102: the path of the withdrawing bay opens. -/
def openPath (b : Bay) (s : State) : State :=
  let s1 := if lastSource b s && systemOn s then startCarrying s else s
  if (s1.bay b).cause = some .disconnect then freeSlot (becomeFaulted b s1)
  else
    let s2 := s1.modifyBay b fun r => ({ r with state := .released, requalify := none }).recount
    ({ s2 with supply := { s2.supply with phase := some .opened } }).raise (.bay b .readyToRemove)

/-- R101: the path test of a withdrawal in phase CLEARING. A path that opens may free the slot for the waiting bay, whose own start
is then worked out. -/
def pathTest (s : State) : State :=
  match s.supply.slot, s.supply.phase with
  | some b, some .clearing => if s.supply.totalHeld ≤ s.supply.ceiling then recompute (openPath b s) else s
  | _, _ => s

/-- The end of an event that touched the supply: the ceiling is worked out again (R90 to R92), the path of a CLEARING withdrawal is
tested (R101), once more when its opening has let the waiting bay start (R103), and the refill timer follows (R110). The settings of the profile
that bind the ceiling are read as they stand: one written or reloaded shows here though its SUPPLY_PROFILE_CHANGE still waits
(DESIGN CHOICE, notes/assumptions/30.md). -/
def settle (s : State) : State := refreshRefill (pathTest (pathTest (recompute s)))

/-! ### Losses and returns -/

/-- R105 step 2 and R106: the supply is settled when no supplying source remains. -/
def answerNoSource (s : State) : State :=
  if someSource s then s
  else match s.system.state with
    | .starting | .run => if 0 < s.supply.reserve then startCarrying s else s.hand .forcedOff
    | .stopping => s.hand .forcedOff
    | .dark => s

/-- R105 steps 2 to 4. -/
def answerLoss (s : State) : State := settle (retest (answerNoSource s))

/-- R105: the loss of a bay that was ONLINE or WITHDRAWING, after the bay's own change. -/
def loseBay (b : Bay) (s : State) : State := answerLoss (freeSlotOf b (stopWaiting b s))

/-- R80, R81, R85: a bay becomes FAULTED out of whatever state it holds; out of ONLINE or WITHDRAWING this is an unplanned loss. -/
def faultBay (b : Bay) (s : State) : State :=
  if (s.bay b).supplies then loseBay b (becomeFaulted b s) else becomeFaulted b s

/-- A bay comes ONLINE from outside the supply (R78, R79, R82, R108): bridging ends and a BLOCKED withdrawal is tested again. -/
def bringOnline (b : Bay) (s : State) : State := settle (unblock (endBridging (becomeOnline b s)))

/-- R81: a withdrawal is cancelled: the bay is ONLINE and the slot frees. A DISCONNECT that the bay has accepted, its policy turned to ACT
since, starts no withdrawal here (DESIGN CHOICE, notes/assumptions/29.md). -/
def cancelWithdrawal (b : Bay) (s : State) : State := settle (unblock (freeSlotOf b (endBridging (becomeOnline b s))))

/-- R82: the pack of a RELEASED bay passes the test of a relock. -/
def BayRec.passesRelock (r : BayRec) : Bool :=
  r.link == some .inStep && !r.wantsDisconnect &&
  match r.accepted with
  | some c => c.state == .ready && decide (0 < c.capability)
  | none => false

/-- R82: a relock or an eject window expiry tests the pack of a RELEASED bay, and the slot frees. -/
def relock (b : Bay) (s : State) : State :=
  if (s.bay b).passesRelock then cancelWithdrawal b s else settle (freeSlotOf b (becomeFaulted b s))

end Sys2Proof.Machine
end

