-- ==== Sys2Proof/Machine/Motion.lean ====
section
/-!
DEFINITION. The Motion Monitor (chapter 7): the magnitude and its band, the fall states, the declarations, and the requests FALL_STATUS, ARM,
DISARM and SIMULATE_FALL.
-/
namespace Sys2Proof.Machine

/-! ### A sample (R141, R142) -/

/-- R142: the band of a magnitude. -/
inductive Band where
  | hard
  | light
  | low
  | quiet
  | moving
  deriving DecidableEq, Repr

/-- R141: an axis value lies within its range. -/
def axisOk (v : Int) : Bool := decide (-32767 ≤ v) && decide (v ≤ 32767)

/-- R141: a reading that is good; the others are missed samples. -/
def goodSample (reading : Option Axes) : Option Axes :=
  reading.filter fun a => axisOk a.x && axisOk a.y && axisOk a.z

/-- R142: the magnitude, rounded down to a whole mg. -/
def magnitude (a : Axes) : Nat := isqrt (a.x * a.x + a.y * a.y + a.z * a.z).toNat

/-- R142: the band of a magnitude, in the order of the table. -/
def bandOf (p : Profile) (m : Nat) : Band :=
  if p.hardThreshold ≤ m then .hard
  else if p.lightThreshold ≤ m then .light
  else if m < p.lowThreshold then .low
  else if p.quietFloor ≤ m ∧ m ≤ p.quietCeiling then .quiet
  else .moving

/-! ### Starting and stopping (R141) -/

/-- R141: sampling begins: LEVEL, the counts 0, the sample timer started at 2.5 ms. -/
def beginSampling (r : MotionRec) : MotionRec :=
  { r with state := .level, lowCount := 0, quietCount := 0, missedCount := 0, faultInFall := false, sampleTimer := some 5 }

/-- R141: sampling stops: OFF, the counts 0, fault in fall no, no sample timer. -/
def stopSampling (r : MotionRec) : MotionRec :=
  { r with state := .off, lowCount := 0, quietCount := 0, missedCount := 0, faultInFall := false, sampleTimer := none }

/-! ### The fall states (R143 to R148) -/

/-- R146: the greater of two classes. -/
def maxClass : ImpactClass → ImpactClass → ImpactClass
  | .hard, _ => .hard
  | _, .hard => .hard
  | .light, _ => .light
  | _, .light => .light
  | .none, .none => .none

/-- R149: the class an IMPACT declaration carries. -/
def strikeOf : ImpactClass → Strike
  | .hard => .hard
  | .light | .none => .light

/-- R146: FALLING ends without a strike, or IMPACT ends: the sample is counted as one of SETTLING. -/
def enterSettling (b : Band) (r : MotionRec) : MotionRec :=
  { r with state := .settling, lowCount := if b = .low then 1 else 0, quietCount := if b = .quiet then 1 else 0 }

/-- R145: a good sample in LEVEL. -/
def levelSample (b : Band) (r : MotionRec) : MotionRec :=
  if b = .low then { r with state := .suspect, lowCount := 1 } else { r with lowCount := 0 }

/-- R145: a good sample in SUSPECT; the qualify count of low samples is a fall. -/
def suspectSample (p : Profile) (b : Band) (r : MotionRec) : MotionRec × List Instr :=
  if b = .low then
    (if p.qualifyCount ≤ r.lowCount + 1 then
      ({ r with lowCount := r.lowCount + 1, cls := .none, state := .falling }, [.fallStart])
     else ({ r with lowCount := r.lowCount + 1 }, []))
  else ({ r with state := .level, lowCount := 0 }, [])

/-- R146: a good sample in FALLING. -/
def fallingSample (b : Band) (r : MotionRec) : MotionRec :=
  match b with
  | .low => r
  | .light => { r with state := .impact, cls := maxClass r.cls .light, lowCount := 0 }
  | .hard => { r with state := .impact, cls := .hard, lowCount := 0 }
  | .quiet | .moving => enterSettling b r

/-- R147: a good sample in IMPACT. -/
def impactSample (b : Band) (r : MotionRec) : MotionRec × List Instr :=
  match b with
  | .light => (r, [])
  | .hard => ({ r with cls := .hard }, [])
  | .low | .quiet | .moving => (enterSettling b r, [.impact (strikeOf r.cls)])

/-- R148: a good sample in SETTLING. -/
def settlingSample (p : Profile) (b : Band) (r : MotionRec) : MotionRec × List Instr :=
  match b with
  | .quiet =>
    if p.settleCount ≤ r.quietCount + 1 then
      ({ r with state := .level, quietCount := 0, lowCount := 0 }, [.settled r.cls])
    else ({ r with quietCount := r.quietCount + 1, lowCount := 0 }, [])
  | .low =>
    ({ r with lowCount := r.lowCount + 1, quietCount := 0,
              state := if p.qualifyCount ≤ r.lowCount + 1 then .falling else .settling }, [])
  | .moving | .light | .hard => ({ r with quietCount := 0, lowCount := 0 }, [])

/-- R144: the first good sample in FAULT. -/
def faultSample (r : MotionRec) : MotionRec × List Instr :=
  ({ r with state := .level, lowCount := 0, quietCount := 0, faultInFall := false },
    if r.faultInFall then [.settled r.cls] else [])

/-- R142 and R144 to R148: a good sample; it sets the missed count to 0 and the last magnitude. -/
def goodMotion (p : Profile) (m : Nat) (r : MotionRec) : MotionRec × List Instr :=
  let r1 := { r with missedCount := 0, lastMagnitude := some m }
  match r.state with
  | .off => (r1, [])
  | .level => (levelSample (bandOf p m) r1, [])
  | .suspect => suspectSample p (bandOf p m) r1
  | .falling => (fallingSample (bandOf p m) r1, [])
  | .impact => impactSample (bandOf p m) r1
  | .settling => settlingSample p (bandOf p m) r1
  | .fault => faultSample r1

/-- R143: the state of a fall that a FAULT interrupts. -/
def MotionState.inFall : MotionState → Bool
  | .falling | .impact | .settling => true
  | .off | .level | .suspect | .fault => false

/-- R143: the Monitor enters FAULT. -/
def enterFault (r : MotionRec) : MotionRec × List Instr :=
  ({ r with state := .fault, missedCount := 8, lowCount := 0, quietCount := 0, faultInFall := r.state.inFall },
    if r.state = .impact then [.impact (strikeOf r.cls)] else [])

/-- R143: the miss that brings the count to 8 outside FAULT. -/
def missFaults (r : MotionRec) : Bool := decide (8 ≤ r.missedCount + 1) && r.state != .fault

/-- R143: a missed sample. -/
def missMotion (r : MotionRec) : MotionRec × List Instr :=
  if missFaults r then enterFault r else ({ r with missedCount := min 8 (r.missedCount + 1) }, [])

/-- R141: a sample event: the record, and the declaration it makes. -/
def sampleMotion (p : Profile) (reading : Option Axes) (r : MotionRec) : MotionRec × List Instr :=
  let r1 := { r with sampleTimer := some 5 }
  match goodSample reading with
  | some a => goodMotion p (magnitude a) r1
  | none => missMotion r1

/-- R143 step 4: a missed sample that enters FAULT raises SENSOR_FAULT. -/
def raisesSensorFault (reading : Option Axes) (r : MotionRec) : Bool := (goodSample reading).isNone && missFaults r

/-- R141: a sample event of the part. -/
def takeSample (reading : Option Axes) (s : State) : State :=
  let x := sampleMotion s.profile reading s.motion
  let s1 := ({ s with motion := x.1 }).handAll x.2
  if raisesSensorFault reading s.motion then s1.raise (.fall .sensorFault) else s1

/-- R141: a sample event falls while the sample timer runs. -/
def execSampleEvent (reading : Option Axes) (s : State) : Result :=
  event s fun s => if s.motion.sampleTimer.isSome then takeSample reading s else s

/-! ### Notices and resets (R153, R155) -/

/-- R153: the STARTING notice begins sampling when armed is yes. -/
def motionStarting (s : State) : State :=
  if s.motion.armed && s.motion.state == .off && systemOn s then { s with motion := beginSampling s.motion } else s

/-- R153: the record as the system-off clear leaves it. -/
def clearedMotion (p : Profile) (r : MotionRec) : MotionRec :=
  { stopSampling r with cls := .none, armed := p.armedAtStart, lastMagnitude := none }

/-- R153: what the Monitor does on each notice. -/
def motionNotice (st : SystemState) (s : State) : State :=
  match st with
  | .starting => motionStarting s
  | .run => s
  | .stopping => { s with motion := stopSampling s.motion }
  | .dark => { s with motion := clearedMotion s.profile s.motion }

/-- R155: the record after PART_RESET, by the armed at start of the profile as it stands when the Monitor takes its part: one written between the
request and that part counts (DESIGN CHOICE, notes/assumptions/31.md). -/
def resetMotion (p : Profile) (sampling : Bool) (r : MotionRec) : MotionRec :=
  let r1 := { r with armed := p.armedAtStart, cls := .none }
  if p.armedAtStart && sampling then beginSampling r1 else stopSampling r1

/-- R153 and R155: what the Motion Monitor does on each notice and on its part of PART_RESET. The rule's reloaded profile is read as the working
profile at the moment the part is taken (DESIGN CHOICE, notes/assumptions/31.md). -/
def motionTakes (c : Instr) (s : State) : State :=
  match c with
  | .motionStateNotice st => motionNotice st s
  | .motionPartReset => { s with motion := resetMotion s.profile (systemOn s) s.motion }
  | _ => s

/-- R153: the Motion Monitor takes the notice of a new system state. -/
def execMotionStateNotice (st : SystemState) (s : State) : Result := handover motionTakes (.motionStateNotice st) s

/-- R155: the Motion Monitor takes its part of PART_RESET. -/
def execMotionPartReset (s : State) : Result := handover motionTakes .motionPartReset s

/-! ### Requests (R150 to R154) -/

/-- R154 and R191: the motion record with the episode. -/
def fallStatusBytes (s : State) : List Byte :=
  let m := s.motion
  let e := s.episode
  [flagByte m.armed, byte m.state.code] ++ word m.lowCount ++ word m.quietCount ++
  [byte m.missedCount, byte (classCode m.cls), flagByte m.faultInFall] ++ optWord m.lastMagnitude ++
  [byte e.state.code, byte (classCode e.cls)] ++ (e.lines.toList.map fun l => byte l.state.code) ++
  [s.attention.sets[fallSource]]

/-- R154: FALL_STATUS. -/
def execFallStatus (s : State) : Result := request s fun s => (s, okReply (fallStatusBytes s))

/-- R150: armed becomes yes, and sampling begins in STARTING and RUN. -/
def arm (s : State) : State :=
  if s.motion.armed then s
  else
    let r := { s.motion with armed := true }
    { s with motion := if systemOn s then beginSampling r else r }

/-- R150: ARM. -/
def execArm (s : State) : Result := request s fun s => (arm s, okReply [])

/-- R151: armed becomes no, sampling stops and the disarm notice is handed over. -/
def disarm (s : State) : State :=
  ({ s with motion := stopSampling { s.motion with armed := false } }).hand .disarmNotice

/-- R151: DISARM. -/
def execDisarm (s : State) : Result := request s fun s => (disarm s, okReply [])

/-- R152: a fall is simulated in LEVEL or SUSPECT only, and not in DARK or STOPPING, whether or not the Monitor has taken the notice of
it (notes/assumptions/8.md). -/
def simulateFallRequest (s : State) : State × Reply :=
  require (systemOn s && (s.motion.state == .level || s.motion.state == .suspect)) .wrongState s
    (({ s with motion := { s.motion with cls := .none, lowCount := 0, state := .falling } }).hand .fallStart, okReply [])

/-- R152: SIMULATE_FALL. -/
def execSimulateFall (s : State) : Result := request s simulateFallRequest

end Sys2Proof.Machine
end

