-- ==== Sys2Proof/Machine/Episode.lean ====
section
/-!
DEFINITION. The Protection Sequencer (chapter 8): the park lines, the opening of an episode, impacts, settling, recovery, and the ends of an
episode without recovery.
-/
namespace Sys2Proof.Machine

/-! ### Park lines (R161 to R163) -/

/-- The line records, each changed by a function of its number. -/
def EpisodeRec.mapLines (f : Line → LineRec → LineRec) (e : EpisodeRec) : EpisodeRec :=
  { e with lines := Vector.ofFn fun i => f i e.lines[i] }

/-- One line record is replaced. -/
def EpisodeRec.setLine (n : Line) (l : LineRec) (e : EpisodeRec) : EpisodeRec := { e with lines := e.lines.set n l }

/-- The lines that meet a test, in ascending order. -/
def EpisodeRec.linesWhere (p : LineRec → Bool) (e : EpisodeRec) : List Line := (List.finRange 4).filter fun n => p e.lines[n]

/-- R170: no line is anything but IDLE. -/
def EpisodeRec.allIdle (e : EpisodeRec) : Bool := (e.linesWhere fun l => l.state != .idle).isEmpty

/-- R161: a line as its assertion leaves it; one whose done input is ACTIVE is DONE at once. -/
def assertedLine (p : Profile) (l : LineRec) : LineRec :=
  if l.doneActive then { l with requestOn := true, state := .done, parkTimer := none, unparkTimer := none }
  else { l with requestOn := true, state := .requested, parkTimer := some (ms p.parkTimeout), unparkTimer := none }

/-- R161 and R162: a line is asserted, and one that is DONE at once sends its line done claim. -/
def assertLine (s : State) (n : Line) : State :=
  let l := s.episode.lines[n]
  let s1 := { s with episode := s.episode.setLine n (assertedLine s.profile l) }
  if l.doneActive then s1.hand (.lineDoneClaim n) else s1

/-! ### Recovery (R167, R168, R170) -/

/-- R170: the episode ends. -/
def endEpisode (s : State) : State :=
  (({ s with episode := { s.episode with state := .idle } }).handAll
    [.liftClaim, .releaseClaim, .episodeEndedNotice]).raise (.fall .recovered)

/-- R168 and R170: the episode ends when it is RECOVERING and every line is IDLE. -/
def endWhenIdle (s : State) : State :=
  if s.episode.state = .recovering ∧ s.episode.allIdle then endEpisode s else s

/-- R167 step 1: a line as the entry into RECOVERING leaves it. -/
def liftedLine (l : LineRec) : LineRec :=
  if l.state = .idle then l
  else if l.doneActive then { l with requestOn := false, parkTimer := none, unparkTimer := some (ms 500) }
  else { l with requestOn := false, parkTimer := none, state := .idle }

/-- R167 step 1: a line that the entry into RECOVERING makes IDLE at once. -/
def idleAtOnce (l : LineRec) : Bool := l.state != .idle && !l.doneActive

/-- R167 steps 2 and 3: the claims of the entry into RECOVERING. The manual gives no order among the line return claims: the model
sends them by ascending line number (DESIGN CHOICE, notes/assumptions/27.md). -/
def recoveryClaims (e : EpisodeRec) : List Instr :=
  .cutReturnClaim :: (e.linesWhere idleAtOnce).map Instr.lineReturnClaim ++
  if e.cls = .hard then [.requalify .bayA, .requalify .bayB] else []

/-- R167: the episode enters RECOVERING. -/
def enterRecovering (s : State) : State :=
  endWhenIdle (({ s with episode := { (s.episode.mapLines fun _ l => liftedLine l) with state := .recovering } }).handAll
    (recoveryClaims s.episode))

/-- R168: a line being lifted becomes IDLE. -/
def finishLift (n : Line) (s : State) : State :=
  endWhenIdle (({ s with episode := s.episode.setLine n { s.episode.lines[n] with unparkTimer := none, state := .idle } }).hand
    (.lineReturnClaim n))

/-! ### Declarations (R158, R160, R165, R166, R171) -/

/-- R158: the protect claim is sent, and the episode waits for its answer. -/
def sendProtect (s : State) : State :=
  ({ s with episode := { s.episode with protectPending := true } }).hand .protectClaim

/-- R168: a FALL_START stops a lift in progress. -/
def stopLifting (l : LineRec) : LineRec := { l with unparkTimer := none }

/-- R158: what a FALL_START does beside raising FALL. -/
def openEpisode (s : State) : State :=
  if s.episode.protectPending then { s with episode := { s.episode with settleHeld := false } }
  else match s.episode.state with
    | .idle => sendProtect { s with episode := { s.episode with cls := .none, settleHeld := false, disarmHeld := false } }
    | .protecting | .holding => sendProtect { s with episode := { s.episode with state := .protecting } }
    | .recovering =>
      sendProtect { s with episode := { (s.episode.mapLines fun _ l => stopLifting l) with state := .protecting } }

/-- R165: the reason of a declared class. -/
def strikeReason : Strike → FallReason
  | .light => .impactLight
  | .hard => .impactHard

/-- R165: the class of a strike. -/
def strikeClass : Strike → ImpactClass
  | .light => .light
  | .hard => .hard

/-- R165: an IMPACT raises the episode class, and sends the late claim while parking may be under way. -/
def takeImpact (k : Strike) (s : State) : State :=
  let e := s.episode
  let s1 := if e.state ≠ .idle ∨ e.protectPending then
    { s with episode := { e with cls := maxClass e.cls (strikeClass k) } } else s
  if e.state = .protecting ∨ e.state = .holding ∨ e.protectPending then s1.hand .lateClaim else s1

/-- R166: a SETTLED in PROTECTING: RECOVERING in AUTO, HOLDING in HOLD. -/
def actOnSettled (s : State) : State :=
  match s.profile.protectionMode with
  | .auto => enterRecovering s
  | .hold => ({ s with episode := { s.episode with state := .holding } }).raise (.fall .hold)

/-- R166: what a SETTLED does. -/
def takeSettled (s : State) : State :=
  match s.episode.state, s.episode.protectPending with
  | .protecting, false => actOnSettled s
  | .idle, true | .protecting, true => { s with episode := { s.episode with settleHeld := true } }
  | .idle, false | .holding, _ | .recovering, _ => s

/-- R171: what the disarm notice does. -/
def takeDisarm (s : State) : State :=
  match s.episode.state, s.episode.protectPending with
  | .protecting, true => { s with episode := { s.episode with disarmHeld := true } }
  | .protecting, false | .holding, false => enterRecovering s
  | .holding, true | .idle, _ | .recovering, _ => s

/-- R160 step 2: an IDLE episode opens, and its neighbours are told. -/
def openOnAnswer (s : State) : State :=
  if s.episode.state = .idle then
    ({ s with episode := { s.episode with state := .protecting } }).handAll [.deferClaim, .episodeActiveNotice]
  else s

/-- R160 steps 4 and 5: a held disarm or a held SETTLED is acted on. -/
def actOnHeld (s : State) : State :=
  if s.episode.disarmHeld then
    enterRecovering { s with episode := { s.episode with disarmHeld := false, settleHeld := false } }
  else if s.episode.settleHeld then actOnSettled { s with episode := { s.episode with settleHeld := false } }
  else s

/-- R160: the protect answer; one that is not waited for is ignored. The manual gives no order among the named lines: the model asserts
them in the order of the answer, which is ascending (DESIGN CHOICE, notes/assumptions/27.md). R174 has the answer whose wait PART_RESET ended
ignored when it comes, and R160 tests protect pending alone; where a newer FALL_START has set it again before the old answer comes, or
behind DARK (R173), the two rules leave open which answer is ignored: the model takes the first that comes as the answer waited for, and
ignores the next (DESIGN CHOICE, notes/assumptions/38.md). -/
def takeProtectAnswer (lines : List Line) (s : State) : State :=
  if s.episode.protectPending then
    actOnHeld (lines.foldl assertLine
      (openOnAnswer { s with episode := { s.episode with protectPending := false } }))
  else s

/-! ### The lines' own events (R162, R163, R168) -/

/-- R162: the done input of a line becomes ACTIVE. -/
def doneActive (n : Line) (s : State) : State :=
  let l := { s.episode.lines[n] with doneActive := true }
  if l.state = .requested ∧ l.requestOn then
    ({ s with episode := s.episode.setLine n { l with state := .done, parkTimer := none } }).hand (.lineDoneClaim n)
  else { s with episode := s.episode.setLine n l }

/-- R162 and R168: the done input of a line becomes INACTIVE. -/
def doneInactive (n : Line) (s : State) : State :=
  let s1 := { s with episode := s.episode.setLine n { s.episode.lines[n] with doneActive := false } }
  if s.episode.state = .recovering ∧ s.episode.lines[n].unparkTimer.isSome then finishLift n s1 else s1

/-- R162: a change of a done input; a level the field already holds is no change. -/
def changeDone (n : Line) (active : Bool) (s : State) : State :=
  if active = s.episode.lines[n].doneActive then s else if active then doneActive n s else doneInactive n s

/-- R162: a done input changes. -/
def execDoneInputChange (n : Line) (active : Bool) (s : State) : Result := event s (changeDone n active)

/-- R163: a line fails to park in time. -/
def failLine (n : Line) (s : State) : State :=
  ({ s with episode := s.episode.setLine n { s.episode.lines[n] with state := .failed, parkTimer := none } }).hand
    (.lineFailedClaim n)

/-- R163: a park timer expires. -/
def execParkTimerExpiry (n : Line) (s : State) : Result :=
  event s fun s =>
    if s.episode.lines[n].parkTimer.isSome ∧ s.episode.lines[n].state = .requested then failLine n s else s

/-- R168: an unpark timer expires. -/
def execUnparkTimerExpiry (n : Line) (s : State) : Result :=
  event s fun s =>
    if s.episode.state = .recovering ∧ s.episode.lines[n].unparkTimer.isSome then finishLift n s else s

/-! ### RESUME and the resets (R166, R173, R174) -/

/-- R166: RESUME. -/
def resumeRequest (s : State) : State × Reply :=
  require (s.episode.state == .holding) .wrongState s (enterRecovering s, okReply [])

/-- R166: RESUME. -/
def execResume (s : State) : Result := request s resumeRequest

/-- R173 step 1: a line as the system-off clear leaves it. -/
def clearedLine (l : LineRec) : LineRec :=
  { l with requestOn := false, parkTimer := none, unparkTimer := none, state := .idle }

/-- R173 steps 1 and 2: the episode record as the system-off clear leaves it. -/
def clearedEpisode (e : EpisodeRec) : EpisodeRec :=
  { (e.mapLines fun _ l => clearedLine l) with
    state := .idle, cls := .none, protectPending := false, settleHeld := false, disarmHeld := false }

/-- R173: the Sequencer's part of the system-off clear. -/
def episodeSystemOffClear (s : State) : State :=
  let s1 := { s with episode := clearedEpisode s.episode }
  if s.episode.state ≠ .idle ∨ s.episode.protectPending then
    s1.handAll [.liftClaim, .releaseClaim, .episodeEndedNotice] else s1

/-- R174: nothing is waited for and nothing is held any more. -/
def nothingHeld (e : EpisodeRec) : EpisodeRec :=
  { e with protectPending := false, settleHeld := false, disarmHeld := false }

/-- R174: the Sequencer's part of PART_RESET. -/
def episodePartReset (s : State) : State :=
  match s.episode.state with
  | .protecting | .holding => enterRecovering { s with episode := nothingHeld s.episode }
  | .idle =>
    if s.episode.protectPending then ({ s with episode := nothingHeld s.episode }).hand .liftClaim else s
  | .recovering => s

/-! ### What is handed to the Sequencer -/

/-- R158, R160, R165, R166, R171, R173, R174: what the Sequencer does on each declaration, notice and answer. -/
def sequencerTakes (c : Instr) (s : State) : State :=
  match c with
  | .fallStart => (openEpisode s).raise (.fall .fall)
  | .impact k => (takeImpact k s).raise (.fall (strikeReason k))
  | .settled _ => takeSettled s
  | .disarmNotice => takeDisarm s
  | .protectAnswer lines => takeProtectAnswer lines s
  | .sequencerSystemOffClear => episodeSystemOffClear s
  | .sequencerPartReset => episodePartReset s
  | _ => s

/-- R158: the Sequencer takes a FALL_START. -/
def execFallStart (s : State) : Result := handover sequencerTakes .fallStart s

/-- R165: the Sequencer takes an IMPACT. -/
def execImpact (k : Strike) (s : State) : Result := handover sequencerTakes (.impact k) s

/-- R166: the Sequencer takes a SETTLED. -/
def execSettled (cls : ImpactClass) (s : State) : Result := handover sequencerTakes (.settled cls) s

/-- R171: the Sequencer takes the disarm notice. -/
def execDisarmNotice (s : State) : Result := handover sequencerTakes .disarmNotice s

/-- R160: the Sequencer takes the protect answer. -/
def execProtectAnswer (lines : List Line) (s : State) : Result := handover sequencerTakes (.protectAnswer lines) s

/-- R173: the Sequencer takes its part of the system-off clear. -/
def execSequencerSystemOffClear (s : State) : Result := handover sequencerTakes .sequencerSystemOffClear s

/-- R174: the Sequencer takes its part of PART_RESET. -/
def execSequencerPartReset (s : State) : Result := handover sequencerTakes .sequencerPartReset s

end Sys2Proof.Machine
end

