-- ==== Sys2Proof/Machine/LightRequests.lean ====
section
/-!
DEFINITION. The backlight requests: LIGHT_STATUS, CURVE_SET, CURVE_ADD, CURVE_REMOVE, PANEL, PIN and UNPIN.
-/
namespace Sys2Proof.Machine

/-- R191: a sensor: its state, its failed reads, its last value. -/
def sensorBytes (x : Sensor) : List Byte := [flagByte x.failed, byte x.failedReads] ++ optLux x.last

/-- R191: a pin: its level and its time remaining, 0xFFFFFFFE for an indefinite one. -/
def pinBytes (o : Option Pin) : List Byte :=
  optWord (o.map Pin.level) ++
  match o with
  | none => [0xFF, 0xFF, 0xFF, 0xFF]
  | some pin => match pin.remaining with
    | some t => leBytes 4 (t / 2)
    | none => [0xFE, 0xFF, 0xFF, 0xFF]

/-- R136 and R191: the STATE part of the backlight record. -/
def lightStatusBytes (r : LightRec) (reasons : Byte) : List Byte :=
  sensorBytes r.front ++ sensorBytes r.rear ++ [byte r.window.length] ++ optLux r.estimate ++
  word r.target ++ [byte r.source.code] ++ pinBytes r.pin ++ [flagByte r.panelOn] ++
  word r.claimSent.requested ++ word r.claimSent.minimum ++ [flagByte r.inFlight] ++ word r.grantTaken ++
  word r.cap ++ [flagByte r.capped] ++ word r.destination ++ word r.output ++
  [byte r.ramp.code, flagByte r.freeze, reasons]

/-- R136: LIGHT_STATUS. -/
def lightStatusRequest (part : Nat) (s : State) : State × Reply :=
  if part = 0 then (s, okReply (lightStatusBytes s.light s.attention.sets[lightSource]))
  else if part = 1 then (s, okReply (curveBytes s.light.curve))
  else refuse .badArgument s

/-- R136: LIGHT_STATUS. -/
def execLightStatus (part : Nat) (s : State) : Result := request s (lightStatusRequest part)

/-- R121: the curve table is changed and the target recomputed. -/
def replaceCurve (points : List Point) (s : State) : State :=
  retarget { s with light := { s.light with curve := points } }

/-- R122: CURVE_SET. -/
def curveSetRequest (points : List Point) (s : State) : State × Reply :=
  require (points.all pointInRange) .badArgument s <|
  require (decide (points.length ≤ curveLimit)) .curveFull s <|
  require (curveOrdered points) .curveOrder s (replaceCurve points s, okReply [])

/-- R122: CURVE_SET. -/
def execCurveSet (points : List Point) (s : State) : Result := request s (curveSetRequest points)

/-- R123: a point at the place its lux value gives. -/
def insertPoint (p : Point) (points : List Point) : List Point :=
  points.takeWhile (fun q => decide (q.lux < p.lux)) ++ p :: points.dropWhile fun q => decide (q.lux < p.lux)

/-- R123: CURVE_ADD. -/
def curveAddRequest (p : Point) (s : State) : State × Reply :=
  require (pointInRange p) .badArgument s <|
  require (decide (s.light.curve.length < curveLimit)) .curveFull s <|
  require (curveOrdered (insertPoint p s.light.curve)) .curveOrder s
    (replaceCurve (insertPoint p s.light.curve) s, okReply [])

/-- R123: CURVE_ADD. -/
def execCurveAdd (p : Point) (s : State) : Result := request s (curveAddRequest p)

/-- R124: CURVE_REMOVE. -/
def curveRemoveRequest (lux : Nat) (s : State) : State × Reply :=
  require (s.light.curve.any fun q => q.lux == lux) .badArgument s
    (replaceCurve (s.light.curve.filter fun q => q.lux != lux) s, okReply [])

/-- R124: CURVE_REMOVE. -/
def execCurveRemove (lux : Nat) (s : State) : Result := request s (curveRemoveRequest lux)

/-- R127: the panel is set; a value equal to the field changes nothing. -/
def setPanel (on : Bool) (s : State) : State :=
  if on = s.light.panelOn then s else retarget { s with light := { s.light with panelOn := on } }

/-- R127: PANEL. -/
def panelRequest (value : Nat) (s : State) : State × Reply :=
  require (decide (value ≤ 1)) .badArgument s (setPanel (value == 1) s, okReply [])

/-- R127: PANEL. -/
def execPanel (value : Nat) (s : State) : Result := request s (panelRequest value)

/-- R128: the pin is set, replaced or removed, and the target recomputed. -/
def setPin (pin : Option Pin) (s : State) : State := retarget { s with light := { s.light with pin := pin } }

/-- R128: the pin that a PIN request gives. -/
def newPin (level duration : Nat) : Pin :=
  { level := level, remaining := if duration = 0 then none else some (sec duration) }

/-- R128: PIN. -/
def pinRequest (level duration : Nat) (s : State) : State × Reply :=
  require (decide (level ≤ 1023) && decide (duration ≤ 3600)) .badArgument s
    (setPin (some (newPin level duration)) s, okReply [])

/-- R128: PIN. -/
def execPin (level duration : Nat) (s : State) : Result := request s (pinRequest level duration)

/-- R128: UNPIN. -/
def unpinRequest (s : State) : State × Reply := require s.light.pin.isSome .wrongState s (setPin none s, okReply [])

/-- R128: UNPIN. -/
def execUnpin (s : State) : Result := request s unpinRequest

end Sys2Proof.Machine
end

