-- ==== Sys2Proof/Machine/SupplyRequests.lean ====
section
/-!
DEFINITION. The bay and supply requests: BAY_STATUS, REPROBE, EJECT, SUPPLY_STATUS and SET_INLET.
-/
namespace Sys2Proof.Machine

/-- R191: an optional enumeration, 0xFF when absent. -/
def optCode {α : Type} (code : α → Nat) (o : Option α) : Byte :=
  match o with
  | some x => byte (code x)
  | none => 0xFF

/-- R191: a requalify, its time remaining and its held capability. -/
def requalifyBytes (o : Option Requalify) : List Byte :=
  optTimer (o.map Requalify.remaining) ++ optWord (o.map Requalify.held)

/-- R87 and R191: the bay's place at the Supply Controller. -/
def bayPlace (b : Bay) (r : SupplyRec) : Byte :=
  if r.slot = some b then 0x01 else if r.waiting = some b then 0x02 else 0x00

/-- R87 and R191: the record of R64 in its order, then the pending reasons and the bay's place. -/
def bayStatusBytes (b : Bay) (s : State) : List Byte :=
  let r := s.bay b
  [byte (bayCode b), byte r.state.code, byte (leverCode r.leverInput), byte (leverCode r.leverTaken), byte r.contact.code,
   optCode LinkStep.code r.link, byte r.goodRun, byte r.missRun] ++ conditionBytes r.candidate ++ conditionBytes r.accepted ++
  [optByte r.charge, flagByte r.exhausted] ++ word r.counted ++ [byte (policyCode r.policy), optCode Cause.code r.cause] ++
  optTimer r.ejectWindow ++ optTimer r.probeTimer ++ optTimer r.stepTimer ++ requalifyBytes r.requalify ++
  [flagByte r.pathClosed, flagByte r.lampOn, s.attention.sets[baySource b], bayPlace b s.supply]

/-- R87: BAY_STATUS. -/
def bayStatusRequest (bay : Nat) (s : State) : State × Reply :=
  match readBay bay with
  | none => refuse .badArgument s
  | some b => (s, okReply (bayStatusBytes b s))

/-- R87: BAY_STATUS. -/
def execBayStatus (bay : Nat) (s : State) : Result := request s (bayStatusRequest bay)

/-- R86: the bay as an accepted REPROBE leaves it. -/
def reprobedBay (r : BayRec) : BayRec :=
  ({ r with state := .probing, answerWindow := none, candidate := none, accepted := none, stepTimer := none,
            link := some .seeking, goodRun := 0, missRun := 0, probeTimer := some (sec 2),
            queryTimer := some (ms 100) }).recount

/-- R86: REPROBE. -/
def reprobeRequest (bay : Nat) (s : State) : State × Reply :=
  match readBay bay with
  | none => refuse .badArgument s
  | some b =>
    require ((s.bay b).state == .faulted && (s.bay b).contact == .made) .wrongState s (s.modifyBay b reprobedBay, okReply [])

/-- R86: REPROBE. -/
def execReprobe (bay : Nat) (s : State) : Result := request s (reprobeRequest bay)

/-- R104: EJECT. -/
def ejectRequest (bay : Nat) (s : State) : State × Reply :=
  match readBay bay with
  | none => refuse .badArgument s
  | some b =>
    require ((s.bay b).state == .online) .wrongState s <|
    require s.supply.slot.isNone .busy s (settle (startWithdrawal b .eject s), okReply [])

/-- R104: EJECT. -/
def execEject (bay : Nat) (s : State) : Result := request s (ejectRequest bay)

/-- R113 and R191: the items of the supply record. The capability of an inlet that the host has not set is the inlet default of the
working profile, also before the Supply Controller has taken a change of it, when the source sum still holds the old one (DESIGN
CHOICE, notes/assumptions/16.md). -/
def supplyStatusBytes (s : State) : List Byte :=
  let r := s.supply
  [byte r.mode.code] ++ word r.ceiling ++ word r.sourceSum ++ [flagByte r.bridgeCounted, flagByte r.carrying, byte r.reserve] ++
  optTimer r.drainTimer ++ optTimer r.refillTimer ++
  [optCode bayCode r.slot, optCode Phase.code r.phase, optCode bayCode r.waiting, optCode WaitReason.code r.waitReason,
   flagByte r.inletPresent] ++ word (inletTerm s) ++ [flagByte r.inletSet.isSome] ++ word r.totalHeld ++
  [flagByte s.load.overcommit, s.attention.sets[supplySource]]

/-- R113: SUPPLY_STATUS. -/
def execSupplyStatus (s : State) : Result := request s fun s => (s, okReply (supplyStatusBytes s))

/-- R96: SET_INLET. -/
def setInletRequest (capability : Nat) (s : State) : State × Reply :=
  require (decide (capability ≤ 1200)) .badArgument s <|
  require s.supply.inletPresent .wrongState s
    (settle { s with supply := { s.supply with inletSet := some capability } }, okReply [])

/-- R96: SET_INLET. -/
def execSetInlet (capability : Nat) (s : State) : Result := request s (setInletRequest capability)

end Sys2Proof.Machine
end

