-- ==== Sys2Proof/Machine/Profile.lean ====
section
/-!
DEFINITION. The Profile Store (10.5, 10.6): the settings by number, their widths and ranges, and the requests PROFILE_READ, PROFILE_WRITE and
PROFILE_STORE.
-/
namespace Sys2Proof.Machine

/-- R200: the code of a protection mode. -/
def ProtectionMode.code : ProtectionMode → Nat
  | .auto => 0
  | .hold => 1

/-- R200: a policy byte. -/
def readPolicy (n : Nat) : Option Policy := if n = 0 then some .act else if n = 1 then some .refer else none

/-- R200: a protection mode byte. -/
def readMode (n : Nat) : Option ProtectionMode := if n = 0 then some .auto else if n = 1 then some .hold else none

/-- R200: a yes or no byte. -/
def readYesNo (n : Nat) : Option Bool := if n = 0 then some false else if n = 1 then some true else none

/-- R201: a setting in its width; `none` is a number that names no setting. -/
def settingBytes (p : Profile) (n : Nat) : Option (List Byte) :=
  match n with
  | 1 => some (word p.allowance)
  | 2 => some (word p.margin)
  | 3 => some (word p.startThreshold)
  | 4 => some (word p.throttleGrace)
  | 5 => some [byte p.holdoff]
  | 6 => some (word p.inletDefault)
  | 7 => some [byte (policyCode p.policyA)]
  | 8 => some [byte (policyCode p.policyB)]
  | 9 => some [byte p.lowCharge]
  | 10 => some [byte p.bridgeMinimum]
  | 11 => some (word p.p0)
  | 12 => some (word p.pfull)
  | 13 => some (word p.minLevel)
  | 14 => some (word p.failsafeLevel)
  | 15 => some [byte p.rearFactor]
  | 16 => some (word p.upStep)
  | 17 => some (word p.downStep)
  | 18 => some (curveBytes p.defaultCurve)
  | 19 => some (word p.lowThreshold)
  | 20 => some (word p.quietFloor)
  | 21 => some (word p.quietCeiling)
  | 22 => some (word p.lightThreshold)
  | 23 => some (word p.hardThreshold)
  | 24 => some (word p.qualifyCount)
  | 25 => some (word p.settleCount)
  | 26 => some (word p.parkTimeout)
  | 27 => some [byte p.protectionMode.code]
  | 28 => some [flagByte p.armedAtStart]
  | 29 => some (maskList p.masks)
  | _ => none

/-- R200: a number names a setting. -/
def settingExists (n : Nat) : Bool := decide (1 ≤ n) && decide (n ≤ 29)

/-- R201 check 2: the bytes fill the width of the setting. -/
def settingFills (n : Nat) (value : List Byte) : Bool :=
  if n = 18 then (readCurve value).isSome
  else if n = 29 then value.length == 6
  else if n = 5 ∨ n = 7 ∨ n = 8 ∨ n = 9 ∨ n = 10 ∨ n = 15 ∨ n = 27 ∨ n = 28 then value.length == 1
  else value.length == 2

/-- A number within a range. -/
def within (low high v : Nat) (p : Profile) : Option Profile := if low ≤ v ∧ v ≤ high then some p else none

/-- R200: a setting of one or two bytes takes a value in its range; `none` is a value out of its range. -/
def putNumber (n v : Nat) (p : Profile) : Option Profile :=
  match n with
  | 1 => within 0 1000 v { p with allowance := v }
  | 2 => within 0 500 v { p with margin := v }
  | 3 => within 0 1000 v { p with startThreshold := v }
  | 4 => within 100 5000 v { p with throttleGrace := v }
  | 5 => within 0 30 v { p with holdoff := v }
  | 6 => within 0 1200 v { p with inletDefault := v }
  | 7 => (readPolicy v).map fun x => { p with policyA := x }
  | 8 => (readPolicy v).map fun x => { p with policyB := x }
  | 9 => within 0 50 v { p with lowCharge := v }
  | 10 => within 1 60 v { p with bridgeMinimum := v }
  | 11 => within 0 200 v { p with p0 := v }
  | 12 => within 1 800 v { p with pfull := v }
  | 13 => within 1 1023 v { p with minLevel := v }
  | 14 => within 0 1023 v { p with failsafeLevel := v }
  | 15 => within 0 16 v { p with rearFactor := v }
  | 16 => within 1 1023 v { p with upStep := v }
  | 17 => within 1 1023 v { p with downStep := v }
  | 19 => within 100 900 v { p with lowThreshold := v }
  | 20 => within 500 1000 v { p with quietFloor := v }
  | 21 => within 1000 2000 v { p with quietCeiling := v }
  | 22 => within 1500 16000 v { p with lightThreshold := v }
  | 23 => within 2000 24000 v { p with hardThreshold := v }
  | 24 => within 4 400 v { p with qualifyCount := v }
  | 25 => within 40 4000 v { p with settleCount := v }
  | 26 => within 50 2000 v { p with parkTimeout := v }
  | 27 => (readMode v).map fun x => { p with protectionMode := x }
  | 28 => (readYesNo v).map fun x => { p with armedAtStart := x }
  | _ => none

/-- R140 and R200: the constraints that bind settings to one another. -/
def Profile.consistent (p : Profile) : Bool :=
  decide (p.p0 ≤ p.pfull) && decide (p.lowThreshold < p.quietFloor) && decide (p.quietFloor ≤ p.quietCeiling) &&
  decide (p.quietCeiling < p.lightThreshold) && decide (p.lightThreshold < p.hardThreshold)

/-- R201 checks 4 and 5 for the default curve. -/
def putCurve (points : List Point) (p : Profile) : Except Status Profile :=
  if !points.all pointInRange then .error .badArgument
  else if curveLimit < points.length then .error .curveFull
  else if !curveOrdered points then .error .curveOrder
  else .ok { p with defaultCurve := points }

/-- R201 check 4 for the masks. -/
def putMasks (m : MaskBytes) (p : Profile) : Except Status Profile :=
  if masksValid m then .ok { p with masks := m } else .error .badArgument

/-- R201 check 4 for a number: in its range, and the bound settings still consistent. -/
def putChecked (n : Nat) (value : List Byte) (p : Profile) : Except Status Profile :=
  match putNumber n (fromLE value) p with
  | some q => if q.consistent then .ok q else .error .badArgument
  | none => .error .badArgument

/-- R201 checks 4 and 5: the profile with the setting at its new value, or the refusal. -/
def putSetting (n : Nat) (value : List Byte) (p : Profile) : Except Status Profile :=
  if n = 18 then
    (match readCurve value with
    | some points => putCurve points p
    | none => .error .badLength)
  else if n = 29 then
    (match readMasks value with
    | some m => putMasks m p
    | none => .error .badLength)
  else putChecked n value p

/-- R201: what is handed to the block that reads a changed setting. -/
def settingClaims (n : Nat) (p : Profile) : List Instr :=
  if n = 1 ∨ n = 2 ∨ n = 6 ∨ n = 10 then [.supplyProfileChange]
  else if n = 7 then [.policyChange .bayA p.policyA]
  else if n = 8 then [.policyChange .bayB p.policyB]
  else if 11 ≤ n ∧ n ≤ 18 then [.backlightProfileChange n]
  else []

/-- R99: of a change handed to the Supply Controller, whether it is one of the bridge minimum, setting 10. -/
def settingTests (n : Nat) : List Bool := if n = 1 ∨ n = 2 ∨ n = 6 ∨ n = 10 then [n == 10] else []

/-- R201: the setting takes its value; one equal to that held changes nothing. The block that reads the setting is told of it and goes on
with the one it last took where R135 has it take the change as an event (DEDUCED, notes/assumptions/26.md). -/
def writeProfile (n : Nat) (q : Profile) (s : State) : State :=
  if q = s.profile then s
  else ({ s with store := { s.store with working := q }
                 bridgeTests := s.bridgeTests ++ settingTests n }).handAll (settingClaims n q)

/-- R201: PROFILE_READ. -/
def profileReadRequest (n : Nat) (s : State) : State × Reply :=
  match settingBytes s.profile n with
  | some bytes => (s, okReply bytes)
  | none => refuse .badArgument s

/-- R201: PROFILE_READ. -/
def execProfileRead (n : Nat) (s : State) : Result := request s (profileReadRequest n)

/-- R201: PROFILE_WRITE. -/
def profileWriteRequest (n : Nat) (value : List Byte) (s : State) : State × Reply :=
  require (settingExists n) .badArgument s <|
  require (settingFills n value) .badLength s <|
  require s.store.storing.isNone .busy s <|
    match putSetting n value s.profile with
    | .error st => refuse st s
    | .ok q => (writeProfile n q s, okReply [])

/-- R201: PROFILE_WRITE. -/
def execProfileWrite (n : Nat) (value : List Byte) (s : State) : Result := request s (profileWriteRequest n value)

/-- R202: a store begins: the working profile is the snapshot. -/
def beginStore (st : StoreRec) : StoreRec := { st with storing := some { snapshot := st.working, timer := ms 60 } }

/-- R202: PROFILE_STORE. -/
def profileStoreRequest (s : State) : State × Reply :=
  require s.store.storing.isNone .busy s ({ s with store := beginStore s.store }, okReply [])

/-- R202: PROFILE_STORE. -/
def execProfileStore (s : State) : Result := request s profileStoreRequest

/-- R202: a store ends. -/
def endStore (passes : Bool) (s : State) : State :=
  match s.store.storing with
  | some st =>
    ({ s with store := { s.store with stored := st.snapshot, storedOk := passes, storing := none } }).raise
      (.part (if passes then .storeDone else .storeFail))
  | none => s

/-- R202: the store timer expires. -/
def execStoreTimerExpiry (passes : Bool) (s : State) : Result := event s (endStore passes)

end Sys2Proof.Machine
end

