-- ==== Sys2Proof/Machine/SystemPower.lean ====
section
/-!
DEFINITION. System Power Control (10.1 to 10.4, 10.7): the button, the start gate, READY, POWER_OFF, the entry to DARK, PART_RESET and the
power-on reset.
-/
namespace Sys2Proof.Machine

/-! ### Notices (R193) -/

/-- R193: the notices of a new system state, to the blocks that do something on it. The Load Manager takes part in DARK alone (R25), and so
do the Protection Sequencer (R172, R173) and the Attention Unit (R186). -/
def notices (st : SystemState) : List Instr :=
  (if st = .dark then [.loadManagerSystemOffClear] else []) ++
  [.supplyStateNotice st, .backlightStateNotice st, .motionStateNotice st] ++
  if st = .dark then [.sequencerSystemOffClear, .attentionSystemOffClear] else []

/-- R193: the system state changes, and its notices are handed over. -/
def enterState (r : SystemRec) (s : State) : State := ({ s with system := r }).handAll (notices r.state)

/-- R198: the system record of DARK. -/
def darkRec (r : SystemRec) : SystemRec :=
  { r with state := .dark, startTimer := none, stopTimer := none, holdTimer := none, pressReady := !r.buttonDown }

/-- R198: the system enters DARK. -/
def enterDark (s : State) : State := enterState (darkRec s.system) s

/-! ### The button (R194, R195) -/

/-- R194: the button goes UP. -/
def buttonUp (r : SystemRec) : SystemRec :=
  { r with buttonDown := false, pressReady := true, pressTimer := none, holdTimer := none }

/-- R194: the button goes DOWN; a press is timed by the system state when press ready is yes. -/
def buttonDown (r : SystemRec) : SystemRec :=
  { r with
    buttonDown := true
    pressTimer := if r.pressReady ∧ r.state = .dark then some (ms 100) else r.pressTimer
    holdTimer := if r.pressReady ∧ r.state ≠ .dark then some (sec 4) else r.holdTimer }

/-- R194: the button changes; a level the field already holds is no change. -/
def changeButton (down : Bool) (s : State) : State :=
  if down = s.system.buttonDown then s
  else { s with system := if down then buttonDown s.system else buttonUp s.system }

/-- R194: a change of the button. -/
def execButtonChange (down : Bool) (s : State) : Result := event s (changeButton down)

/-- R194: the start gate. -/
def gateOpen (s : State) : Bool := decide (s.profile.startThreshold ≤ s.supply.ceiling)

/-- R194: the system record of a press the gate lets start. -/
def startedRec (r : SystemRec) : SystemRec :=
  { r with state := .starting, pressReady := false, pressTimer := none, startTimer := some (sec 20) }

/-- R194: a start press is judged against the gate. -/
def judgePress (s : State) : State :=
  if s.system.state = .dark ∧ gateOpen s then enterState (startedRec s.system) s
  else { s with system := { s.system with pressReady := false, pressTimer := none } }

/-- R194: the press timer expires. -/
def execPressTimerExpiry (s : State) : Result :=
  event s fun s => if s.system.pressTimer.isSome then judgePress s else s

/-- R195: the hold timer expires and the system is forced off. -/
def execHoldTimerExpiry (s : State) : Result :=
  event s fun s => if s.system.holdTimer.isSome ∧ s.system.state ≠ .dark then enterDark s else s

/-- R195: what System Power Control does on the forced-off claim. -/
def systemTakes (c : Instr) (s : State) : State :=
  match c with
  | .forcedOff => if s.system.state = .dark then s else enterDark s
  | _ => s

/-- R195: System Power Control takes the forced-off claim. -/
def execForcedOff (s : State) : Result := handover systemTakes .forcedOff s

/-! ### READY, the start timeout and POWER_OFF (R196, R197) -/

/-- R196: READY. -/
def readyRequest (s : State) : State × Reply :=
  require (s.system.state == .starting) .wrongState s
    (enterState { s.system with state := .run, startTimer := none } s, okReply [])

/-- R196: READY. -/
def execReady (s : State) : Result := request s readyRequest

/-- R196: the start timer expires. -/
def execStartTimerExpiry (s : State) : Result :=
  event s fun s => if s.system.startTimer.isSome ∧ s.system.state = .starting then enterDark s else s

/-- R197: POWER_OFF. -/
def powerOffRequest (s : State) : State × Reply :=
  require (s.system.state == .run) .wrongState s
    (enterState { s.system with state := .stopping, stopTimer := some (sec 1) } s, okReply [])

/-- R197: POWER_OFF. -/
def execPowerOff (s : State) : Result := request s powerOffRequest

/-- R197: the stop timer expires. -/
def execStopTimerExpiry (s : State) : Result :=
  event s fun s => if s.system.stopTimer.isSome ∧ s.system.state = .stopping then enterDark s else s

/-! ### PART_RESET (R203) -/

/-- R203 step 2: the working profile that the reload gives. -/
def reloadedProfile (st : StoreRec) : Profile :=
  match st.storing with
  | some x => x.snapshot
  | none => if st.storedOk then st.stored else defaultProfile

/-- R203 step 2: the reload finds a stored copy that fails its check. -/
def reloadDefaults (st : StoreRec) : Bool := st.storing.isNone && !st.storedOk

/-- R203 steps 1 to 3: the attention state. -/
def resetAttention (defaulted : Bool) (p : Profile) (a : AttentionRec) : AttentionRec :=
  let a1 := { a.emptyAll with masks := p.masks }
  if defaulted then a1.raise (.part .profileDefaulted) else a1

/-- R203 step 4: the parts handed to the blocks. -/
def partResetClaims (p : Profile) : List Instr :=
  [.loadManagerPartReset, .supplyProfileChange, .policyChange .bayA p.policyA, .policyChange .bayB p.policyB,
   .backlightPartReset, .motionPartReset, .sequencerPartReset]

/-- R203: PART_RESET. The reload that it hands to the Supply Controller tests no withdrawal (R99, R114). -/
def partResetRequest (s : State) : State × Reply :=
  let p := reloadedProfile s.store
  require (s.system.state == .run) .notRunning s
    (({ s with store := { s.store with working := p }
               attention := resetAttention (reloadDefaults s.store) p s.attention
               bridgeTests := s.bridgeTests ++ [false] }).handAll (partResetClaims p),
      okReply [])

/-- R203: PART_RESET. -/
def execPartReset (s : State) : Result := request s partResetRequest

/-! ### The power-on reset (R199) -/

/-- R199 step 2 and R202: the stored copy passes its check; one that a store was writing does not. -/
def copyPasses (st : StoreRec) : Bool := st.storedOk && st.storing.isNone

/-- R199 step 2: the Profile Store after a power-on reset. -/
def storeAfterReset (st : StoreRec) : StoreRec where
  working := if copyPasses st then st.stored else defaultProfile
  stored := st.stored
  storedOk := copyPasses st
  storing := none

/-- R199 step 4: the attention state after a power-on reset. -/
def attentionAfterReset (st : StoreRec) : AttentionRec :=
  let a := attentionAtReset (storeAfterReset st).working
  if copyPasses st then a else a.raise (.part .profileDefaulted)

/-- R199: the inputs that hold a level at the reset are taken afterwards as events. -/
def inputEvents (x : ResetInputs) : List Instr :=
  (if x.contactA then [.contactMade .bayA] else []) ++ (if x.contactB then [.contactMade .bayB] else []) ++
  if x.inletPresent then [.inletEvent true] else []

/-- R199: the part builds its state afresh. The stored copy outlives the reset, and so do the model's queue and its counter. -/
def powerOnState (x : ResetInputs) (s : State) : State :=
  let st := storeAfterReset s.store
  { port := portAtReset x.strapHigh
    attention := attentionAfterReset s.store
    load := loadAtReset
    supply := supplyAtReset
    bayA := bayAtReset x.leverA st.working.policyA
    bayB := bayAtReset x.leverB st.working.policyB
    light := lightAtReset st.working
    motion := motionAtReset st.working
    episode := episodeAtReset x.done
    system := systemAtReset x.buttonDown
    store := st
    pins := pinsAtReset
    power := .gained
    freeCount := s.freeCount
    handed := inputEvents x
    bridgeTests := []
    pending := s.pending }

/-- R199: a power-on reset; a part that has stopped takes it (R112). -/
def execPowerOnReset (x : ResetInputs) (s : State) : Result := .next (finish (powerOnState x s))

end Sys2Proof.Machine
end

