-- ==== Sys2Proof/Machine/Port.lean ====
section
/-!
DEFINITION. The Request Port (9.1 to 9.4): the request a frame spells, the assembly of long requests, how a frame is taken, and what a read
transfer returns.
-/
namespace Sys2Proof.Machine

/-! ### The catalog (9.4) -/

/-- A layout that is filled gives its request; one that is not is BAD_LENGTH (R177 step 4). -/
def filled {α : Type} (o : Option α) (f : α → Instr) : Except Status Instr :=
  match o with
  | some x => .ok (f x)
  | none => .error .badLength

/-- R177 step 4: the request that a PROFILE_WRITE's argument bytes spell. -/
def decodeProfileWrite (args : List Byte) : Except Status Instr :=
  match args with
  | [] => .error .badLength
  | n :: value =>
    if !settingExists n.toNat then .error .badArgument
    else if !settingFills n.toNat value then .error .badLength
    else .ok (.profileWrite n.toNat value)

/-- 9.4 and R177 steps 2 and 4: the request that a code and its argument bytes spell, or the refusal. -/
def decodeRequest (code : Byte) (args : List Byte) : Except Status Instr :=
  match code.toNat with
  | 0x10 => filled (readAdmit args) .admitEntry
  | 0x90 => filled (readAdmit args) .stagedAdmit
  | 0x11 => filled (readRevise args) .revise
  | 0x91 => filled (readRevise args) .stagedRevise
  | 0x12 => filled (readHandle args) .release
  | 0x92 => filled (readHandle args) .stagedRelease
  | 0x13 => filled (readHandle args) .query
  | 0x14 => filled (readWord args) .findTag
  | 0x15 => filled (readByte args) .findRail
  | 0x16 => filled (readNothing args) fun _ => .order
  | 0x17 => filled (readHandle args) .confirm
  | 0x18 => filled (readHandle args) .renew
  | 0x20 => filled (readNothing args) fun _ => .commit
  | 0x21 => filled (readNothing args) fun _ => .discard
  | 0x22 => filled (readNothing args) fun _ => .draftRead
  | 0x30 => filled (readByte args) .bayStatus
  | 0x31 => filled (readByte args) .reprobe
  | 0x32 => filled (readByte args) .eject
  | 0x33 => filled (readNothing args) fun _ => .supplyStatus
  | 0x34 => filled (readWord args) .setInlet
  | 0x40 => filled (readByte args) .lightStatus
  | 0x41 => filled (readCurve args) .curveSet
  | 0x42 => filled (readPoint args) .curveAdd
  | 0x43 => filled (readLux args) .curveRemove
  | 0x44 => filled (readByte args) .panel
  | 0x45 => filled (readPin args) fun x => .pin x.1 x.2
  | 0x46 => filled (readNothing args) fun _ => .unpin
  | 0x50 => filled (readNothing args) fun _ => .fallStatus
  | 0x51 => filled (readNothing args) fun _ => .arm
  | 0x52 => filled (readNothing args) fun _ => .disarm
  | 0x53 => filled (readNothing args) fun _ => .simulateFall
  | 0x54 => filled (readNothing args) fun _ => .resume
  | 0x60 => filled (readNothing args) fun _ => .ready
  | 0x61 => filled (readNothing args) fun _ => .powerOff
  | 0x62 => filled (readNothing args) fun _ => .partReset
  | 0x63 => filled (readByte args) .profileRead
  | 0x64 => decodeProfileWrite args
  | 0x65 => filled (readNothing args) fun _ => .profileStore
  | 0x70 => filled (readNothing args) fun _ => .summary
  | 0x71 => filled (readAcknowledge args) fun x => .acknowledge x.1 x.2
  | 0x72 => filled (readMaskRequest args) .mask
  | _ => .error .unknownRequest

/-- 9.4: the code is one of the catalog. -/
def catalogHas (code : Byte) : Bool :=
  match decodeRequest code [] with
  | .error .unknownRequest => false
  | _ => true

/-- 9.4: the block a request reaches takes it as its own event. The other commands are no requests. -/
def runRequest (c : Instr) (s : State) : Result :=
  match c with
  | .admitEntry a => execAdmit a s
  | .stagedAdmit a => execStagedAdmit a s
  | .revise a => execRevise a s
  | .stagedRevise a => execStagedRevise a s
  | .release h => execRelease h s
  | .stagedRelease h => execStagedRelease h s
  | .query h => execQuery h s
  | .findTag tag => execFindTag tag s
  | .findRail rail => execFindRail rail s
  | .order => execOrder s
  | .confirm h => execConfirm h s
  | .renew h => execRenew h s
  | .commit => execCommit s
  | .discard => execDiscard s
  | .draftRead => execDraftRead s
  | .bayStatus b => execBayStatus b s
  | .reprobe b => execReprobe b s
  | .eject b => execEject b s
  | .supplyStatus => execSupplyStatus s
  | .setInlet c => execSetInlet c s
  | .lightStatus p => execLightStatus p s
  | .curveSet ps => execCurveSet ps s
  | .curveAdd p => execCurveAdd p s
  | .curveRemove x => execCurveRemove x s
  | .panel v => execPanel v s
  | .pin l d => execPin l d s
  | .unpin => execUnpin s
  | .fallStatus => execFallStatus s
  | .arm => execArm s
  | .disarm => execDisarm s
  | .simulateFall => execSimulateFall s
  | .resume => execResume s
  | .ready => execReady s
  | .powerOff => execPowerOff s
  | .partReset => execPartReset s
  | .profileRead n => execProfileRead n s
  | .profileWrite n v => execProfileWrite n v s
  | .profileStore => execProfileStore s
  | .summary => execSummary s
  | .acknowledge x r => execAcknowledge x r s
  | .mask m => execMask m s
  | _ => .next s

/-! ### Taking a frame (R177, R178) -/

/-- R178: the most argument bytes an assembly holds. -/
def assemblyLimit : Nat := 96

/-- R177: a frame refused at the port: its status is the reply, and any assembly is discarded. -/
def portRefusal (st : Status) (s : State) : Result := event s fun s => { s with port := s.port.answer (refusal st) }

/-- R177 steps 4 and 5: a whole request, one frame's or an assembly's. -/
def takeRequest (code : Byte) (args : List Byte) (s : State) : Result :=
  match decodeRequest code args with
  | .ok c => runRequest c s
  | .error st => portRefusal st s

/-- R178: the argument bytes a frame of this code goes on from. -/
def heldArgs (code : Byte) (p : PortRec) : List Byte :=
  match p.assembly with
  | some a => if a.code = code then a.args else []
  | none => []

/-- R178: a frame with the more-follows mark starts an assembly or is appended to the one held. -/
def assemble (code : Byte) (args : List Byte) (p : PortRec) : PortRec :=
  { p with assembly := some { code := code, args := args }, reply := some (okReply [byte args.length]) }

/-- R177 steps 2 and 3 for a frame with the more-follows mark. -/
def takeMoreFollows (code : Byte) (args : List Byte) (s : State) : Result :=
  if !catalogHas code then portRefusal .unknownRequest s
  else if assemblyLimit < (heldArgs code s.port ++ args).length then portRefusal .badLength s
  else event s fun s => { s with port := assemble code (heldArgs code s.port ++ args) s.port }

/-- R177 steps 2 to 5 for a final frame. -/
def takeFinal (code : Byte) (args : List Byte) (s : State) : Result :=
  if !catalogHas code then portRefusal .unknownRequest s
  else if assemblyLimit < (heldArgs code s.port ++ args).length then portRefusal .badLength s
  else takeRequest code (heldArgs code s.port ++ args) s

/-- R187: what a length byte says: the argument length and the more-follows mark; `none` is a value the layout does not define. -/
def readLength (b : Byte) : Option (Nat × Bool) :=
  if b.toNat ≤ 40 then some (b.toNat, false)
  else if 0x80 ≤ b.toNat ∧ b.toNat ≤ 0xA8 then some (b.toNat - 0x80, true)
  else none

/-- R177: a frame of a code, a length byte and argument bytes; step 1 comes first. -/
def takeSized (code len : Byte) (args : List Byte) (s : State) : Result :=
  match readLength len with
  | none => portRefusal .badLength s
  | some (n, more) =>
    if args.length ≠ n then portRefusal .badLength s
    else if more then takeMoreFollows code args s
    else takeFinal code args s

/-- R176 and R177: the bytes of a write transfer are taken as a frame; a transfer with no data byte is none. -/
def takeFrame (bytes : List Byte) (s : State) : Result :=
  match bytes with
  | [] => .next s
  | [_] => portRefusal .badLength s
  | code :: len :: args => takeSized code len args s

/-! ### Addresses and acknowledges (R176) -/

/-- R176: the address the port answers at. -/
def portAddress (p : PortRec) : Nat := if p.strapHigh then 0x3B else 0x3A

/-- R176: the port acknowledges its own address, for writes and for reads, and no other; the general call address 0x00 is another. A part that
has stopped is without supply and acknowledges none (R112; DEDUCED, notes/assumptions/21.md). -/
def acknowledges (address : Nat) (s : State) : Bool := s.power != .stopped && address == portAddress s.port

/-- R176: whether the port acknowledges the address of a write transfer, and then each of its data bytes, however many there are. -/
def writeAcknowledges (address : Nat) (bytes : List Byte) (s : State) : Bool × List Bool :=
  (acknowledges address s, bytes.map fun _ => acknowledges address s)

/-- R176: a write transfer at an address, taken at its stop condition: one at an address that the port does not acknowledge does not reach it. -/
def writeTransfer (address : Nat) (bytes : List Byte) (s : State) : Result :=
  if acknowledges address s then takeFrame bytes s else .next s

/-- R176, R177: FRAME: a write transfer at the port's own address. -/
def execFrame (bytes : List Byte) (s : State) : Result := writeTransfer (portAddress s.port) bytes s

/-- R178: MORE_FOLLOWS_FRAME: the frame whose length byte carries the mark over these argument bytes. -/
def execMoreFollowsFrame (code : Byte) (args : List Byte) (s : State) : Result :=
  if 40 < args.length then portRefusal .badLength s else takeMoreFollows code args s

/-! ### Read transfers (R176, R179) -/

/-- R179: the bytes of a reply before the 0xFF that follow. -/
def replyBytes (r : Reply) : List Byte := r.status.code :: byte r.payload.length :: r.payload

/-- R179: the reply a read transfer finds. -/
def heldReply (p : PortRec) : Reply := p.reply.getD (refusal .noReply)

/-- R179: the byte of a read transfer at a position. -/
def readByteAt (p : PortRec) (i : Nat) : Byte := (replyBytes (heldReply p)).getD i 0xFF

/-- R179: the bytes that a read transfer of a length returns; it changes nothing. -/
def readTransfer (p : PortRec) (length : Nat) : List Byte := (List.range length).map (readByteAt p)

/-- R176: the bytes that a read transfer at an address returns; `none` at an address that the port does not acknowledge. -/
def readTransferAt (address length : Nat) (s : State) : Option (List Byte) :=
  if acknowledges address s then some (readTransfer s.port length) else none

/-- R176: a write transfer with a read begun by a repeated start before its stop condition: the bytes of the read, which are those of the reply
held before the write, and what the write leaves, which is taken only at its stop condition. -/
def writeThenRead (address : Nat) (bytes : List Byte) (length : Nat) (s : State) : Option (List Byte) × Result :=
  (readTransferAt address length s, writeTransfer address bytes s)

end Sys2Proof.Machine
end

