-- ==== Sys2Proof/Config.lean ====
section
/-!
DEFINITION. What the manual leaves open and the model leaves free: constants with no body, of which nothing can be proved.
-/
namespace Sys2Proof

/-- R66 and R170: at the release of the lever deferral each Bay Unit takes its deferred lever level, and the manual fixes
no order between the two bays. `true` says that Bay A takes its lever event first. The argument is a plain counter of
the state, so every release has a choice of its own (notes/assumptions/1.md). -/
opaque Config.releaseTakesAFirst : Nat → Bool

end Sys2Proof
end

