-- ==== Sys2Proof/Machine/BayEvents.lean ====
section
/-!
DEFINITION. The Bay Units' events (chapter 4): levers, contacts, the pack link and its answers, acceptance and what each bay state makes
of it, the bay timers, requalify and policy.
-/
namespace Sys2Proof.Machine

/-! ### Levers (R65, R79 to R82) -/

/-- R81 and R82: an ejected pack's lever opens: the cause becomes LEVER and the window goes. -/
def ejectToLever (b : Bay) (s : State) : State :=
  s.modifyBay b fun r =>
    if r.cause = some .eject then { r with cause := some .lever, ejectWindow := none } else r

/-- R79: a QUALIFIED bay comes ONLINE and raises QUALIFIED again. The manual does not say whether a withdrawal starts here when the bay has
accepted a DISCONNECT and its policy has turned to ACT while it was QUALIFIED: the model starts none until a differing acceptance or
another change of policy (DESIGN CHOICE, notes/assumptions/29.md). -/
def qualifiedOnline (b : Bay) (s : State) : State := bringOnline b (s.raise (.bay b .qualified))

/-- R80 and R103: a lever locked ends the waiting of an ONLINE bay, unless its pack asks for DISCONNECT under ACT. -/
def lockWaiting (b : Bay) (s : State) : State :=
  if s.supply.waiting = some b then
    (if (s.bay b).wantsDisconnect then
      { s with supply := { s.supply with waitReason := some .disconnect } } else stopWaiting b s)
  else s

/-- R79 to R82: how a bay reacts to a lever taken OPEN. -/
def leverOpened (b : Bay) (s : State) : State :=
  match (s.bay b).state with
  | .online => settle (requestWithdrawal b .lever s)
  | .withdrawing | .released => ejectToLever b s
  | .empty | .probing | .qualified | .faulted => s

/-- R79 to R82: how a bay reacts to a lever taken LOCKED. -/
def leverLocked (b : Bay) (s : State) : State :=
  match (s.bay b).state with
  | .qualified => if (s.bay b).link = some .inStep then qualifiedOnline b s else s
  | .online => lockWaiting b s
  | .withdrawing => if (s.bay b).cause = some .lever then cancelWithdrawal b s else s
  | .released => if (s.bay b).cause = some .lever then relock b s else s
  | .empty | .probing | .faulted => s

/-- R65: a lever level is taken, and the bay reacts to it. -/
def takeLever (b : Bay) (level : Lever) (s : State) : State :=
  let s1 := s.modifyBay b fun r => { r with leverTaken := level }
  match level with
  | .opened => leverOpened b s1
  | .locked => leverLocked b s1

/-- R65 and R66: a debounced change of the lever input; a level the input already has is no change. -/
def changeLever (b : Bay) (level : Lever) (s : State) : State :=
  if (s.bay b).leverInput = level then s
  else
    let s1 := s.modifyBay b fun r => { r with leverInput := level }
    if s1.supply.deferral then s1.modifyBay b fun r => { r with deferred := some level }
    else takeLever b level s1

/-- R65: a lever event. -/
def execLeverEvent (b : Bay) (level : Lever) (s : State) : Result := event s (changeLever b level)

/-! ### Contact (R67, R77) -/

/-- R77: the bay as a contact-made event leaves it. -/
def insertedBay (r : BayRec) : BayRec :=
  { r with contact := .made, state := .probing, link := some .seeking, goodRun := 0, missRun := 0,
           probeTimer := some (sec 2), queryTimer := some (ms 100) }

/-- R77: contact is made. -/
def makeContact (b : Bay) (s : State) : State :=
  if (s.bay b).contact = .made then s
  else (s.modifyBay b insertedBay).raise (.bay b .inserted)

/-- R67: the bay as a contact-loss event leaves it; every transition it causes ends in EMPTY. -/
def emptiedBay (r : BayRec) : BayRec :=
  { r with contact := .lost, state := .empty, link := none, candidate := none, accepted := none, charge := none,
           probeTimer := none, stepTimer := none, requalify := none, ejectWindow := none, cause := none,
           goodRun := 0, missRun := 0, exhausted := false, counted := 0, queryTimer := none, answerWindow := none }

/-- R112, R199: a part that has come up on a seated pack alone has lost its last one, and nothing that the reset found still waits: its start is
over, and the end of the event judges it by R112 (DESIGN CHOICE, notes/assumptions/9.md). -/
def endStart (s : State) : State :=
  if s.power = .gained ∧ s.bayA.contact = .lost ∧ s.bayB.contact = .lost ∧ sourceWaits s = false then { s with power := .supplied } else s

/-- R67 and 4.6: contact is lost: REMOVED from outside the supply, LOST and an unplanned loss from ONLINE or WITHDRAWING. A loss from
outside the supply is none of the events of R99 and R100, and tests no withdrawal. -/
def loseContact (b : Bay) (s : State) : State :=
  if (s.bay b).contact = .lost then s
  else
    let s1 := s.modifyBay b emptiedBay
    endStart <|
      if (s.bay b).supplies then loseBay b (s1.raise (.bay b .lost))
      else settle (freeSlotOf b (s1.raise (.bay b .removed)))

/-! ### The pack link (R69 to R73) -/

/-- R69 and R192: the condition query goes: its window opens, which has its byte stand on the pack link (`BayRec.linkByte`), and the next query
is set. -/
def sendQuery (r : BayRec) : BayRec := { r with queryTimer := some (ms 250), answerWindow := some (ms 10) }

/-- R69: a condition query falls due. -/
def execConditionQuery (b : Bay) (s : State) : Result :=
  event s fun s => if (s.bay b).queryTimer.isSome then s.modifyBay b sendQuery else s

/-- R73: the link step, the runs and the step timer after a good answer. The manual does not say what a good answer in LOST does to the
runs: the model counts the good run and leaves the miss run at 4 (DESIGN CHOICE, notes/assumptions/11.md). -/
def goodStep (r : BayRec) : BayRec :=
  match r.link with
  | some .seeking =>
    { r with goodRun := min 2 (r.goodRun + 1), missRun := 0,
             link := if 2 ≤ r.goodRun + 1 then some .inStep else some .seeking }
  | some .inStep => { r with goodRun := min 2 (r.goodRun + 1), missRun := 0 }
  | some .outOfStep =>
    if 2 ≤ r.goodRun + 1 then { r with goodRun := 2, link := some .inStep, missRun := 0, stepTimer := none }
    else { r with goodRun := r.goodRun + 1 }
  | some .lost => { r with goodRun := min 2 (r.goodRun + 1) }
  | none => r

/-- R73: a link in step or seeking after a missed or bad answer; `none` is the fourth of a run, which puts it OUT_OF_STEP. -/
def missStep (r : BayRec) : BayRec :=
  match r.link with
  | some .seeking | some .inStep =>
    if 4 ≤ r.missRun + 1 then
      { r with goodRun := 0, missRun := 4, link := some .outOfStep, stepTimer := some (sec 3) }
    else { r with goodRun := 0, missRun := r.missRun + 1 }
  | some .outOfStep | some .lost => { r with goodRun := 0 }
  | none => r

/-- R70, R72 and R73: a missed or bad answer removes the candidate and moves the link step; LINK_OUT on the entry into OUT_OF_STEP. -/
def failAnswer (b : Bay) (s : State) : State :=
  let r := missStep { s.bay b with candidate := none, answerWindow := none }
  let s1 := s.setBay b r
  if r.link = some .outOfStep ∧ (s.bay b).link ≠ some .outOfStep then s1.raise (.bay b .linkOut) else s1

/-! ### Acceptance (R72, R74 to R85) -/

/-- R78, R79: an accepted condition that keeps the pack out of the supply. -/
def BayRec.unfit (r : BayRec) (c : Condition) : Bool :=
  c.state == .fault || decide (c.capability = 0) || (r.policy == .act && c.request == .disconnect)

/-- R75: an acceptance raises PACK_REQUEST. -/
def raisesPackRequest (r : BayRec) (c : Condition) : Bool :=
  r.policy == .refer && c.request != .none && r.accepted.map Condition.request != some c.request && r.state != .faulted

/-- R85: the first acceptance of a requalify fails it. -/
def failsRequalify (r : BayRec) (c : Condition) : Bool := r.requalify.isSome && decide (c.capability = 0)

/-- R76 and R81: an accepted DISCONNECT under ACT turns the cause of a withdrawal and removes its eject window. -/
def turnToDisconnect (b : Bay) (s : State) : State :=
  s.modifyBay b fun r => { r with cause := some .disconnect, ejectWindow := none }

/-- R78: the first acceptance decides a PROBING bay. -/
def acceptProbing (b : Bay) (c : Condition) (s : State) : State :=
  if (s.bay b).unfit c then becomeFaulted b s
  else
    let s1 := s.raise (.bay b .qualified)
    match (s.bay b).leverTaken with
    | .opened => s1.modifyBay b fun r => { r with state := .qualified, probeTimer := none }
    | .locked => bringOnline b s1

/-- R80 and R85: an acceptance in ONLINE. -/
def acceptOnline (b : Bay) (c : Condition) (failed : Bool) (s : State) : State :=
  if c.state = .fault ∨ failed then faultBay b s
  else if (s.bay b).wantsDisconnect then settle (requestWithdrawal b .disconnect s)
  else settle s

/-- R81 and R85: an acceptance in WITHDRAWING. -/
def acceptWithdrawing (b : Bay) (c : Condition) (failed : Bool) (s : State) : State :=
  if c.state = .fault ∨ failed then faultBay b s
  else if (s.bay b).wantsDisconnect then settle (turnToDisconnect b s)
  else settle s

/-- R75 to R83: how a bay reacts to a condition newly accepted, its record already holding it and the requalify at its end. `failed`
says that it fails a requalify. -/
def reactAccepted (b : Bay) (c : Condition) (failed : Bool) (s : State) : State :=
  match (s.bay b).state with
  | .probing => acceptProbing b c s
  | .qualified => if (s.bay b).unfit c then becomeFaulted b s else s
  | .online => acceptOnline b c failed s
  | .withdrawing => acceptWithdrawing b c failed s
  | .released | .faulted | .empty => s

/-- R72 and R85: a condition that differs from the accepted one is accepted, and the bay reacts. -/
def acceptCondition (b : Bay) (c : Condition) (s : State) : State :=
  let r := s.bay b
  let s1 := s.modifyBay b fun r => ({ r with accepted := some c, requalify := none }).recount
  reactAccepted b c (failsRequalify r c) (if raisesPackRequest r c then s1.raise (.bay b .packRequest) else s1)

/-- R71 to R73: what a good answer writes into the record before anything is accepted. -/
def heardBay (p : Profile) (a : Answer) (r : BayRec) : BayRec :=
  ({ goodStep r with charge := some a.charge, exhausted := decide (a.charge ≤ p.lowCharge),
                     candidate := some a.condition, answerWindow := none }).recount

/-- R79: the link step of a QUALIFIED bay with its lever LOCKED has returned to IN_STEP. -/
def BayRec.comesBack (before r : BayRec) : Bool :=
  r.state == .qualified && r.leverTaken == .locked && r.link == some .inStep && before.link != some .inStep

/-- R79: the return of the link step brings the bay ONLINE; what else the answer has done is `otherwise`. -/
def linkReturned (b : Bay) (before : BayRec) (otherwise : State → State) (s : State) : State :=
  if before.comesBack (s.bay b) then qualifiedOnline b s else otherwise s

/-- R69 to R73: a good answer: it accepts its condition when the candidate agrees and the accepted condition differs; one that repeats the accepted
condition accepts nothing (R72), and the supply is worked out from what the answer has left of the bay (R74). -/
def hearAnswer (b : Bay) (a : Answer) (s : State) : State :=
  let r := s.bay b
  let s1 := s.modifyBay b (heardBay s.profile a)
  if r.candidate = some a.condition ∧ r.accepted ≠ some a.condition then linkReturned b r id (acceptCondition b a.condition s1)
  else linkReturned b r settle s1

/-- R69 and R70: an answer within the window is good or bad by its bytes; an answer to no query is ignored, and so are bytes that do
not complete one. -/
def takeAnswer (b : Bay) (bytes : List Byte) (s : State) : State :=
  if (s.bay b).answerWindow.isNone ∨ bytes.length < 6 then s
  else match readAnswer bytes with
    | some a => hearAnswer b a s
    | none => failAnswer b s

/-- R69: a good answer arrives within the window. -/
def execGoodAnswer (b : Bay) (bytes : List Byte) (s : State) : Result := event s (takeAnswer b bytes)

/-- R70: a bad answer arrives within the window. -/
def execBadAnswer (b : Bay) (bytes : List Byte) (s : State) : Result := event s fun s => takeAnswer b bytes s

/-- R69: the window closes with no complete answer. -/
def execMissedAnswer (b : Bay) (s : State) : Result :=
  event s fun s => if (s.bay b).answerWindow.isSome then failAnswer b s else s

/-! ### The bay's timers -/

/-- R78: the probe timer expires. -/
def execProbeTimerExpiry (b : Bay) (s : State) : Result :=
  event s fun s => if (s.bay b).probeTimer.isSome ∧ (s.bay b).state = .probing then becomeFaulted b s else s

/-- R73 and 4.6: the link step becomes LOST, and the bay reacts. -/
def loseLink (b : Bay) (s : State) : State :=
  let s1 := s.modifyBay b fun r => { r with link := some .lost, stepTimer := none }
  match (s.bay b).state with
  | .qualified | .online | .withdrawing => faultBay b s1
  | .empty | .probing | .released | .faulted => s1

/-- R73: the step timer expires. -/
def execLinkStepTimerExpiry (b : Bay) (s : State) : Result :=
  event s fun s => if (s.bay b).stepTimer.isSome ∧ (s.bay b).link = some .outOfStep then loseLink b s else s

/-- R81 and R82: the eject window runs out. -/
def expireEject (b : Bay) (s : State) : State :=
  match (s.bay b).state with
  | .withdrawing => cancelWithdrawal b s
  | .released => relock b s
  | .empty | .probing | .qualified | .online | .faulted => s

/-- R81: the eject window expires. -/
def execEjectWindowExpiry (b : Bay) (s : State) : Result :=
  event s fun s => if (s.bay b).ejectWindow.isSome then expireEject b s else s

/-- R84: a requalify starts; the held capability of one already running is kept. -/
def startRequalify (r : BayRec) : BayRec :=
  ({ r with requalify := some { remaining := sec 2, held := (r.requalify.map Requalify.held).getD r.counted },
            accepted := none, candidate := none, goodRun := 0 }).recount

/-- R84: a requalify is asked of a bay; it starts in ONLINE only. -/
def askRequalify (b : Bay) (s : State) : State :=
  if (s.bay b).state = .online then settle (s.modifyBay b startRequalify) else s

/-- R85: the requalify runs out with no acceptance. -/
def execRequalifyExpiry (b : Bay) (s : State) : Result :=
  event s fun s => if (s.bay b).requalify.isSome then faultBay b s else s

/-! ### Policy (R76, R103) -/

/-- R103: a waiting bay whose policy becomes REFER waits on while its lever is OPEN. -/
def referWaiting (b : Bay) (s : State) : State :=
  if s.supply.waiting = some b then
    (if (s.bay b).leverTaken = .opened then { s with supply := { s.supply with waitReason := some .lever } }
     else stopWaiting b s)
  else s

/-- R76: an ONLINE bay that does not wait starts its withdrawal when ACT meets an accepted DISCONNECT; a bay in another state starts
none, and none when it comes ONLINE after that (DESIGN CHOICE, notes/assumptions/29.md). While the other bay holds the slot R98 names
only a lever and an acceptance as what makes a bay wait; the model has this bay wait as well, with reason DISCONNECT (DESIGN CHOICE,
notes/assumptions/14.md). -/
def actDisconnect (b : Bay) (s : State) : State :=
  if (s.bay b).state = .online ∧ s.supply.waiting ≠ some b ∧ (s.bay b).wantsDisconnect then
    requestWithdrawal b .disconnect s
  else s

/-- R76: a bay's policy changes; the policy it has is no change. -/
def changePolicy (b : Bay) (p : Policy) (s : State) : State :=
  if (s.bay b).policy = p then s
  else
    let s1 := s.modifyBay b fun r => ({ r with policy := p }).recount
    settle (match p with
      | .act => actDisconnect b s1
      | .refer => referWaiting b s1)

/-! ### What is handed to a Bay Unit -/

/-- R67, R76, R77, R84: what a Bay Unit does on each event and claim handed to it. -/
def bayTakes (c : Instr) (s : State) : State :=
  match c with
  | .contactMade b => makeContact b s
  | .contactLoss b => loseContact b s
  | .policyChange b p => changePolicy b p s
  | .requalify b => askRequalify b s
  | _ => s

/-- R77: a contact-made event. -/
def execContactMade (b : Bay) (s : State) : Result := handover bayTakes (.contactMade b) s

/-- R67: a contact-loss event, behind a contact made that the bay has not yet taken (R199). -/
def execContactLoss (b : Bay) (s : State) : Result := handover bayTakes (.contactLoss b) s

/-- R84: the requalify claim. -/
def execRequalify (b : Bay) (s : State) : Result := handover bayTakes (.requalify b) s

/-- R76: the Bay Unit takes the policy the profile now gives it. -/
def execPolicyChange (b : Bay) (p : Policy) (s : State) : Result := handover bayTakes (.policyChange b p) s

end Sys2Proof.Machine
end

