-- ==== Sys2Proof/Machine/SupplyEvents.lean ====
section
/-!
DEFINITION. The Supply Controller's own events (chapter 5): the counted total it is handed, the inlet, the bridge timers, the lever
deferral, the notices of system state, and changes of the profile.
-/
namespace Sys2Proof.Machine

/-- R93: a counted total replaces the one held, and the path of a CLEARING withdrawal is tested. -/
def takeTotal (total : Nat) (s : State) : State :=
  refreshRefill (pathTest (pathTest { s with supply := { s.supply with totalHeld := total } }))

/-- R95: the inlet becomes present. -/
def inletArrives (s : State) : State :=
  settle (unblock (endBridging { s with supply := { s.supply with inletPresent := true } }))

/-- R95: the inlet becomes absent, which is an unplanned loss (R105). -/
def inletLeaves (s : State) : State :=
  answerLoss { s with supply := { s.supply with inletPresent := false, inletSet := none } }

/-- R95: a filtered change of the inlet input; a level already taken is no change. -/
def changeInlet (present : Bool) (s : State) : State :=
  if present = s.supply.inletPresent then s
  else if present then inletArrives s
  else inletLeaves s

/-- R109: the bridge is exhausted. -/
def exhaustBridge (s : State) : State := (stopCarrying s).hand .forcedOff

/-- R107: the reserve falls by 1 s. -/
def drain (s : State) : State :=
  let left := s.supply.reserve - 1
  let s1 := { s with supply := { s.supply with reserve := left, drainTimer := some (sec 1) } }
  let s2 := if left = 15 then s1.raise (.supply .bridgeLow) else s1
  let s3 := if left = 0 then exhaustBridge s2 else s2
  settle (unblock s3)

/-- R107: the drain timer expires. -/
def execDrainTimerExpiry (s : State) : Result :=
  event s fun s => if s.supply.carrying && s.supply.drainTimer.isSome then drain s else s

/-- R110: the reserve rises by 1 s. -/
def refill (s : State) : State :=
  settle (unblock { s with supply := { s.supply with reserve := min 60 (s.supply.reserve + 1), refillTimer := none } })

/-- R110: the refill timer expires. -/
def execRefillTimerExpiry (s : State) : Result := event s fun s => if s.supply.refillTimer.isSome then refill s else s

/-- R66: a bay whose deferred lever state holds a level other than the one taken takes one lever event with it. -/
def takeDeferred (b : Bay) (s : State) : State :=
  match (s.bay b).deferred with
  | none => s
  | some level =>
    let s1 := s.modifyBay b fun r => { r with deferred := none }
    if level = (s.bay b).leverTaken then s1 else takeLever b level s1

/-- R66: the bay will take a lever event when the deferral is released. -/
def owesLever (b : Bay) (s : State) : Bool :=
  match (s.bay b).deferred with
  | none => false
  | some level => level != (s.bay b).leverTaken

/-- R66 and R170: the deferral is released, and each bay takes what it owes. The manual does not say which of two bays is first: a
free choice (Config.releaseTakesAFirst). -/
def releaseDeferral (s : State) : State :=
  let s1 := { s with supply := { s.supply with deferral := false } }
  if owesLever .bayA s1 && owesLever .bayB s1 then
    let s2 := { s1 with freeCount := s1.freeCount + 1 }
    if Config.releaseTakesAFirst s1.freeCount then takeDeferred .bayB (takeDeferred .bayA s2)
    else takeDeferred .bayA (takeDeferred .bayB s2)
  else takeDeferred .bayB (takeDeferred .bayA s1)

/-- R111: the STARTING notice. -/
def supplyStarting (s : State) : State :=
  settle (retest (if systemOn s && !someSource s then startCarrying s else s))

/-- R111: the STOPPING notice. -/
def supplyStopping (s : State) : State :=
  settle (retest (if s.supply.carrying then exhaustBridge s else s))

/-- R111: the DARK notice. -/
def supplyDark (s : State) : State := settle (unblock (endBridging s))

/-- R111: what the Supply Controller does on each notice. -/
def supplyNotice (st : SystemState) (s : State) : State :=
  match st with
  | .starting => supplyStarting s
  | .run => settle (unblock s)
  | .stopping => supplyStopping s
  | .dark => supplyDark s

/-- R90, R92: the supply is worked out again after a changed allowance, margin or inlet default, or the reload of PART_RESET (R114). A
PROFILE_WRITE of the bridge minimum has the withdrawal tested again (R99, R100), and so has a change that nobody handed over
(notes/assumptions/28.md). -/
def changeSupplySettings (s : State) : State :=
  let s1 := { s with bridgeTests := s.bridgeTests.tail }
  settle (if s.bridgeTests.headD true then retest s1 else s1)

/-- R170: the Supply Controller defers lever events. -/
def deferLevers (s : State) : State := { s with supply := { s.supply with deferral := true } }

/-! ### What is handed to the Supply Controller -/

/-- R93, R95, R111, R114, R170: what the Supply Controller does on each claim, notice and hand-over. -/
def supplyTakes (c : Instr) (s : State) : State :=
  match c with
  | .countedTotalHandover total => takeTotal total s
  | .inletEvent present => changeInlet present s
  | .deferClaim => deferLevers s
  | .releaseClaim => releaseDeferral s
  | .supplyStateNotice st => supplyNotice st s
  | .supplyProfileChange => changeSupplySettings s
  | _ => s

/-- R93: the Supply Controller takes a counted total. -/
def execCountedTotalHandover (total : Nat) (s : State) : Result := handover supplyTakes (.countedTotalHandover total) s

/-- R95: an inlet event. -/
def execInletEvent (present : Bool) (s : State) : Result := handover supplyTakes (.inletEvent present) s

/-- R170: the Supply Controller takes the defer claim. -/
def execDeferClaim (s : State) : Result := handover supplyTakes .deferClaim s

/-- R170 and R66: the Supply Controller releases lever events. -/
def execReleaseClaim (s : State) : Result := handover supplyTakes .releaseClaim s

/-- R111: the Supply Controller takes the notice of a new system state. -/
def execSupplyStateNotice (st : SystemState) (s : State) : Result := handover supplyTakes (.supplyStateNotice st) s

/-- R90, R92, R99, R100, R114: the Supply Controller takes a changed setting, or the reload. -/
def execSupplyProfileChange (s : State) : Result := handover supplyTakes .supplyProfileChange s

end Sys2Proof.Machine
end

