-- ==== Sys2Proof/Machine/Dispatch.lean ====
section
/-!
DEFINITION. The dispatcher: one arm per command, each one call of its meaning.
-/
namespace Sys2Proof.Machine

/-- The meaning of a command, on everything but the queue. -/
def exec (i : Instr) (s : State) : Host.Outcome State Fault Refusal :=
  match i with
  | .frame bytes => Sys2Proof.Machine.execFrame bytes s
  | .moreFollowsFrame code args => Sys2Proof.Machine.execMoreFollowsFrame code args s
  | .admitEntry a => Sys2Proof.Machine.execAdmit a s
  | .stagedAdmit a => Sys2Proof.Machine.execStagedAdmit a s
  | .revise a => Sys2Proof.Machine.execRevise a s
  | .stagedRevise a => Sys2Proof.Machine.execStagedRevise a s
  | .release h => Sys2Proof.Machine.execRelease h s
  | .stagedRelease h => Sys2Proof.Machine.execStagedRelease h s
  | .query h => Sys2Proof.Machine.execQuery h s
  | .findTag tag => Sys2Proof.Machine.execFindTag tag s
  | .findRail rail => Sys2Proof.Machine.execFindRail rail s
  | .order => Sys2Proof.Machine.execOrder s
  | .confirm h => Sys2Proof.Machine.execConfirm h s
  | .renew h => Sys2Proof.Machine.execRenew h s
  | .commit => Sys2Proof.Machine.execCommit s
  | .discard => Sys2Proof.Machine.execDiscard s
  | .draftRead => Sys2Proof.Machine.execDraftRead s
  | .bayStatus bay => Sys2Proof.Machine.execBayStatus bay s
  | .reprobe bay => Sys2Proof.Machine.execReprobe bay s
  | .eject bay => Sys2Proof.Machine.execEject bay s
  | .supplyStatus => Sys2Proof.Machine.execSupplyStatus s
  | .setInlet capability => Sys2Proof.Machine.execSetInlet capability s
  | .lightStatus part => Sys2Proof.Machine.execLightStatus part s
  | .curveSet points => Sys2Proof.Machine.execCurveSet points s
  | .curveAdd p => Sys2Proof.Machine.execCurveAdd p s
  | .curveRemove lux => Sys2Proof.Machine.execCurveRemove lux s
  | .panel value => Sys2Proof.Machine.execPanel value s
  | .pin level duration => Sys2Proof.Machine.execPin level duration s
  | .unpin => Sys2Proof.Machine.execUnpin s
  | .fallStatus => Sys2Proof.Machine.execFallStatus s
  | .arm => Sys2Proof.Machine.execArm s
  | .disarm => Sys2Proof.Machine.execDisarm s
  | .simulateFall => Sys2Proof.Machine.execSimulateFall s
  | .resume => Sys2Proof.Machine.execResume s
  | .ready => Sys2Proof.Machine.execReady s
  | .powerOff => Sys2Proof.Machine.execPowerOff s
  | .partReset => Sys2Proof.Machine.execPartReset s
  | .profileRead setting => Sys2Proof.Machine.execProfileRead setting s
  | .profileWrite setting value => Sys2Proof.Machine.execProfileWrite setting value s
  | .profileStore => Sys2Proof.Machine.execProfileStore s
  | .summary => Sys2Proof.Machine.execSummary s
  | .acknowledge source reasons => Sys2Proof.Machine.execAcknowledge source reasons s
  | .mask bytes => Sys2Proof.Machine.execMask bytes s
  | .ceilingHandover ceiling => Sys2Proof.Machine.execCeilingHandover ceiling s
  | .slot0Claim requested minimum => Sys2Proof.Machine.execSlot0Claim requested minimum s
  | .graceExpiry slot => Sys2Proof.Machine.execGraceExpiry slot s
  | .holdoffExpiry slot => Sys2Proof.Machine.execHoldoffExpiry slot s
  | .lapse slot => Sys2Proof.Machine.execLapse slot s
  | .protectClaim => Sys2Proof.Machine.execProtectClaim s
  | .lineDoneClaim line => Sys2Proof.Machine.execLineDoneClaim line s
  | .lineFailedClaim line => Sys2Proof.Machine.execLineFailedClaim line s
  | .lateClaim => Sys2Proof.Machine.execLateClaim s
  | .cutReturnClaim => Sys2Proof.Machine.execCutReturnClaim s
  | .lineReturnClaim line => Sys2Proof.Machine.execLineReturnClaim line s
  | .liftClaim => Sys2Proof.Machine.execLiftClaim s
  | .loadManagerPartReset => Sys2Proof.Machine.execLoadManagerPartReset s
  | .loadManagerSystemOffClear => Sys2Proof.Machine.execLoadManagerSystemOffClear s
  | .countedTotalHandover total => Sys2Proof.Machine.execCountedTotalHandover total s
  | .inletEvent present => Sys2Proof.Machine.execInletEvent present s
  | .drainTimerExpiry => Sys2Proof.Machine.execDrainTimerExpiry s
  | .refillTimerExpiry => Sys2Proof.Machine.execRefillTimerExpiry s
  | .deferClaim => Sys2Proof.Machine.execDeferClaim s
  | .releaseClaim => Sys2Proof.Machine.execReleaseClaim s
  | .supplyStateNotice state => Sys2Proof.Machine.execSupplyStateNotice state s
  | .supplyProfileChange => Sys2Proof.Machine.execSupplyProfileChange s
  | .policyChange bay policy => Sys2Proof.Machine.execPolicyChange bay policy s
  | .forcedOff => Sys2Proof.Machine.execForcedOff s
  | .leverEvent bay level => Sys2Proof.Machine.execLeverEvent bay level s
  | .contactMade bay => Sys2Proof.Machine.execContactMade bay s
  | .contactLoss bay => Sys2Proof.Machine.execContactLoss bay s
  | .conditionQuery bay => Sys2Proof.Machine.execConditionQuery bay s
  | .goodAnswer bay bytes => Sys2Proof.Machine.execGoodAnswer bay bytes s
  | .badAnswer bay bytes => Sys2Proof.Machine.execBadAnswer bay bytes s
  | .missedAnswer bay => Sys2Proof.Machine.execMissedAnswer bay s
  | .probeTimerExpiry bay => Sys2Proof.Machine.execProbeTimerExpiry bay s
  | .linkStepTimerExpiry bay => Sys2Proof.Machine.execLinkStepTimerExpiry bay s
  | .ejectWindowExpiry bay => Sys2Proof.Machine.execEjectWindowExpiry bay s
  | .requalify bay => Sys2Proof.Machine.execRequalify bay s
  | .requalifyExpiry bay => Sys2Proof.Machine.execRequalifyExpiry bay s
  | .readEvent front rear => Sys2Proof.Machine.execReadEvent front rear s
  | .slot0GrantHandoff grant answer => Sys2Proof.Machine.execSlot0GrantHandoff grant answer s
  | .rampStep => Sys2Proof.Machine.execRampStep s
  | .pinExpiry => Sys2Proof.Machine.execPinExpiry s
  | .episodeActiveNotice => Sys2Proof.Machine.execEpisodeActiveNotice s
  | .episodeEndedNotice => Sys2Proof.Machine.execEpisodeEndedNotice s
  | .backlightStateNotice state => Sys2Proof.Machine.execBacklightStateNotice state s
  | .backlightProfileChange setting => Sys2Proof.Machine.execBacklightProfileChange setting s
  | .backlightPartReset => Sys2Proof.Machine.execBacklightPartReset s
  | .sampleEvent reading => Sys2Proof.Machine.execSampleEvent reading s
  | .motionStateNotice state => Sys2Proof.Machine.execMotionStateNotice state s
  | .motionPartReset => Sys2Proof.Machine.execMotionPartReset s
  | .fallStart => Sys2Proof.Machine.execFallStart s
  | .impact strike => Sys2Proof.Machine.execImpact strike s
  | .settled cls => Sys2Proof.Machine.execSettled cls s
  | .disarmNotice => Sys2Proof.Machine.execDisarmNotice s
  | .protectAnswer lines => Sys2Proof.Machine.execProtectAnswer lines s
  | .doneInputChange line active => Sys2Proof.Machine.execDoneInputChange line active s
  | .parkTimerExpiry line => Sys2Proof.Machine.execParkTimerExpiry line s
  | .unparkTimerExpiry line => Sys2Proof.Machine.execUnparkTimerExpiry line s
  | .sequencerSystemOffClear => Sys2Proof.Machine.execSequencerSystemOffClear s
  | .sequencerPartReset => Sys2Proof.Machine.execSequencerPartReset s
  | .attentionSystemOffClear => Sys2Proof.Machine.execAttentionSystemOffClear s
  | .buttonChange down => Sys2Proof.Machine.execButtonChange down s
  | .pressTimerExpiry => Sys2Proof.Machine.execPressTimerExpiry s
  | .holdTimerExpiry => Sys2Proof.Machine.execHoldTimerExpiry s
  | .startTimerExpiry => Sys2Proof.Machine.execStartTimerExpiry s
  | .stopTimerExpiry => Sys2Proof.Machine.execStopTimerExpiry s
  | .storeTimerExpiry passes => Sys2Proof.Machine.execStoreTimerExpiry passes s
  | .powerOnReset inputs => Sys2Proof.Machine.execPowerOnReset inputs s

end Sys2Proof.Machine
end

