-- ==== Sys2Proof/Machine/Clock.lean ====
section
/-!
DEFINITION. What the part does when no command waits (notes/assumptions/3.md): it takes the oldest claim its blocks have handed over, else a
timer that has run out, else half a millisecond passes.
-/
namespace Sys2Proof.Machine

/-! ### Timers that have run out -/

/-- The expiry of a timer that has run out. -/
def dueOf (timer : Option Nat) (c : Instr) : List Instr := if timer = some 0 then [c] else []

/-- The time remaining of a lease that runs (R58). -/
def runningLease (e : Entry) : Option Nat := if e.state = .lapsed then none else e.lease.map Lease.remaining

/-- The expiries due at a slot (R40, R45, R61). -/
def dueAtSlot (L : LoadRec) (i : Slot) : List Instr :=
  match L.entry i with
  | some e =>
    dueOf (e.grace.map Grace.remaining) (.graceExpiry i) ++ dueOf e.holdoff (.holdoffExpiry i) ++
    dueOf (runningLease e) (.lapse i)
  | none => []

/-- The expiries due at a bay (R69, R73, R78, R81, R85). -/
def dueAtBay (b : Bay) (r : BayRec) : List Instr :=
  dueOf r.answerWindow (.missedAnswer b) ++ dueOf r.queryTimer (.conditionQuery b) ++
  dueOf r.probeTimer (.probeTimerExpiry b) ++ dueOf r.stepTimer (.linkStepTimerExpiry b) ++
  dueOf r.ejectWindow (.ejectWindowExpiry b) ++ dueOf (r.requalify.map Requalify.remaining) (.requalifyExpiry b)

/-- The expiries due at a park line (R163, R168). -/
def dueAtLine (n : Line) (l : LineRec) : List Instr :=
  dueOf l.parkTimer (.parkTimerExpiry n) ++ dueOf l.unparkTimer (.unparkTimerExpiry n)

/-- The expiries due at the system record (R194 to R197). -/
def dueAtSystem (r : SystemRec) : List Instr :=
  dueOf r.pressTimer .pressTimerExpiry ++ dueOf r.holdTimer .holdTimerExpiry ++
  dueOf r.startTimer .startTimerExpiry ++ dueOf r.stopTimer .stopTimerExpiry

/-- Every expiry due, in a fixed order. The read timer, the sample timer and the store timer are not among them: their events carry
what a sensor or the store answers, and wait for it. -/
def dueEvents (s : State) : List Instr :=
  (List.finRange 24).flatMap (dueAtSlot s.load) ++ dueAtBay .bayA s.bayA ++ dueAtBay .bayB s.bayB ++
  dueOf s.supply.drainTimer .drainTimerExpiry ++ dueOf s.supply.refillTimer .refillTimerExpiry ++
  dueOf s.light.stepTimer .rampStep ++ dueOf (s.light.pin.bind Pin.remaining) .pinExpiry ++
  (List.finRange 4).flatMap (fun n => dueAtLine n s.episode.lines[n]) ++ dueAtSystem s.system

/-! ### The passing of time -/

/-- Half a millisecond passes on a timer; one that has run out waits at 0. -/
def tickTimer (t : Option Nat) : Option Nat := t.map fun n => n - 1

/-- Time passes at an entry (R39, R42, R58). -/
def tickEntry (e : Entry) : Entry :=
  { e with
    lease := if e.state = .lapsed then e.lease else e.lease.map fun l => { l with remaining := l.remaining - 1 }
    holdoff := tickTimer e.holdoff
    grace := e.grace.map fun g => { g with remaining := g.remaining - 1 } }

/-- Time passes at a bay. -/
def tickBay (r : BayRec) : BayRec :=
  { r with
    ejectWindow := tickTimer r.ejectWindow
    probeTimer := tickTimer r.probeTimer
    stepTimer := tickTimer r.stepTimer
    requalify := r.requalify.map fun q => { q with remaining := q.remaining - 1 }
    queryTimer := tickTimer r.queryTimer
    answerWindow := tickTimer r.answerWindow }

/-- Time passes at the Supply Controller. -/
def tickSupply (r : SupplyRec) : SupplyRec :=
  { r with drainTimer := tickTimer r.drainTimer, refillTimer := tickTimer r.refillTimer }

/-- Time passes at the Backlight Controller. -/
def tickLight (r : LightRec) : LightRec :=
  { r with
    pin := r.pin.map fun p => { p with remaining := tickTimer p.remaining }
    stepTimer := tickTimer r.stepTimer
    readTimer := tickTimer r.readTimer }

/-- Time passes at the Motion Monitor. -/
def tickMotion (r : MotionRec) : MotionRec := { r with sampleTimer := tickTimer r.sampleTimer }

/-- Time passes at a park line. -/
def tickLine (l : LineRec) : LineRec := { l with parkTimer := tickTimer l.parkTimer, unparkTimer := tickTimer l.unparkTimer }

/-- Time passes at System Power Control. -/
def tickSystem (r : SystemRec) : SystemRec :=
  { r with pressTimer := tickTimer r.pressTimer, holdTimer := tickTimer r.holdTimer,
           startTimer := tickTimer r.startTimer, stopTimer := tickTimer r.stopTimer }

/-- Time passes at the Profile Store. -/
def tickStore (r : StoreRec) : StoreRec :=
  { r with storing := r.storing.map fun x => { x with timer := x.timer - 1 } }

/-- Half a millisecond passes: every running timer has that much less remaining. -/
def tick (s : State) : State :=
  { s with
    load := s.load.mapEntries fun _ e => tickEntry e
    supply := tickSupply s.supply
    bayA := tickBay s.bayA
    bayB := tickBay s.bayB
    light := tickLight s.light
    motion := tickMotion s.motion
    episode := s.episode.mapLines fun _ l => tickLine l
    system := tickSystem s.system
    store := tickStore s.store }

/-- What the part does when no command waits. A part that has stopped does nothing (R112). -/
def idle (s : State) : Result :=
  if s.power = .stopped then .next s
  else match s.handed with
    | c :: _ => exec c s
    | [] =>
      match (dueEvents s).head? with
      | some c => exec c s
      | none => .next (tick s)

end Sys2Proof.Machine
end

