-- ==== Sys2Proof/Machine/Step.lean ====
section
/-!
DEFINITION. The step of the machine: the command at the front of the queue is taken, and on an empty queue the part does what it does of
itself.
-/
namespace Sys2Proof.Machine

/-- One step: the front of the queue, run with the queue's rest. -/
def step (s : State) : Host.Outcome State Fault Refusal :=
  match s.pending with
  | c :: cs => exec c { s with pending := cs }
  | [] => idle s

/-- The command that a word spells, put at the front of the queue; the operation table gives no row any bits, so no word spells
one. -/
def State.withFetchWord (s : State) (nbits w : Nat) : State :=
  match decodeTableWord nbits w with
  | some c => { s with pending := c :: s.pending }
  | none => s

end Sys2Proof.Machine
end

