-- ==== Sys2Proof/Safety.lean ====
section
/-!
DEFINITION. The words the statements are written in: a part that takes events, the state a request leaves that changes nothing but the
reply, the laws that every step keeps, and which commands may change which record.
-/
namespace Sys2Proof.Machine

/-- R112: the part has supply, or still takes what was handed over when its supply failed: it takes events. -/
def Alive (s : State) : Prop := s.power ≠ .stopped

/-- The state that a request leaves that changes nothing but the held reply. -/
def answered (r : Reply) (s : State) : State := finish { s with port := s.port.answer r }

/-- R180: the state that a refused request leaves. -/
def refusedWith (st : Status) (s : State) : State := answered (refusal st) s

/-- An event of the Load Manager: `u` is what its changes make of `m`, the walk follows, and its results are handed over (R4, R27, R37). -/
def walkedEvent (m u : State) : State := handLoadResults m.load false (runWalk u)

/-- A reason is pending at its source. -/
def Pending (a : Attention) (s : State) : Prop := s.attention.sets[a.source] &&& a.bit ≠ 0

/-- R112: the part is kept alive by a bay whose path is closed, which is one ONLINE or WITHDRAWING (R68), by the inlet, or by a reserve of the
bridge cell. -/
def Fed (t : State) : Prop :=
  t.bayA.state = .online ∨ t.bayA.state = .withdrawing ∨ t.bayB.state = .online ∨ t.bayB.state = .withdrawing ∨
  t.supply.inletPresent = true ∨ 0 < t.supply.reserve

/-- R199: a contact or an inlet that a power-on reset found has not been taken yet. -/
def SourceWaits (t : State) : Prop :=
  .contactMade .bayA ∈ t.handed ∨ .contactMade .bayB ∈ t.handed ∨ .inletEvent true ∈ t.handed

/-- R112: the part has no supply: it takes what was handed over, and has stopped once nothing waits (notes/assumptions/9.md). -/
def WithoutSupply (t : State) : Prop := t.power = if t.handed = [] then .stopped else .failing

/-- R112: what an event makes, in `t`, of the supply of a part whose power was `before`. A supplied part stays so while it is fed and is without
supply else, and one whose supply had failed stays without. One that a power-on reset has started comes under this rule once something feeds it and
what the reset found has been taken; until then a pack in contact keeps it alive (R199; notes/assumptions/9.md). -/
def PowerJudged (before : Power) (t : State) : Prop :=
  (before = .supplied → (Fed t → t.power = .supplied) ∧ (¬Fed t → WithoutSupply t)) ∧
  (before = .failing → WithoutSupply t) ∧
  (before = .gained → (Fed t → ¬SourceWaits t → t.power = .supplied) ∧
    (¬Fed t ∨ SourceWaits t → t.bayA.contact = .made ∨ t.bayB.contact = .made ∨ SourceWaits t → t.power = .gained))

/-- A command is the expiry of a timer that stands at 0 (R40, R45, R61, R69, R73, R78, R81, R85, R107, R110, R128, R133, R163, R168, R194 to
R197). A lease that is LAPSED does not run (R58). -/
def IsDue (c : Instr) (s : State) : Prop :=
  match c with
  | .graceExpiry i => ∃ e g, s.load.entry i = some e ∧ e.grace = some g ∧ g.remaining = 0
  | .holdoffExpiry i => ∃ e, s.load.entry i = some e ∧ e.holdoff = some 0
  | .lapse i => ∃ e l, s.load.entry i = some e ∧ e.lease = some l ∧ l.remaining = 0 ∧ e.state ≠ .lapsed
  | .missedAnswer b => (s.bay b).answerWindow = some 0
  | .conditionQuery b => (s.bay b).queryTimer = some 0
  | .probeTimerExpiry b => (s.bay b).probeTimer = some 0
  | .linkStepTimerExpiry b => (s.bay b).stepTimer = some 0
  | .ejectWindowExpiry b => (s.bay b).ejectWindow = some 0
  | .requalifyExpiry b => ∃ q, (s.bay b).requalify = some q ∧ q.remaining = 0
  | .drainTimerExpiry => s.supply.drainTimer = some 0
  | .refillTimerExpiry => s.supply.refillTimer = some 0
  | .rampStep => s.light.stepTimer = some 0
  | .pinExpiry => ∃ p, s.light.pin = some p ∧ p.remaining = some 0
  | .parkTimerExpiry n => (s.episode.lines[n]).parkTimer = some 0
  | .unparkTimerExpiry n => (s.episode.lines[n]).unparkTimer = some 0
  | .pressTimerExpiry => s.system.pressTimer = some 0
  | .holdTimerExpiry => s.system.holdTimer = some 0
  | .startTimerExpiry => s.system.startTimer = some 0
  | .stopTimerExpiry => s.system.stopTimer = some 0
  | _ => False

/-- Nothing that was handed over on the route of `c` before it still waits, so that `c` is taken at once (R149, R157). -/
def Foremost (c : Instr) (s : State) : Prop := s.before c = []

/-! ### Laws of the outputs, the supply and the bays -/

/-- The output of a bay's pack link. -/
def Pins.link (p : Pins) : Bay → Option Byte
  | .bayA => p.linkA
  | .bayB => p.linkB

/-- R12, R68, R69, R94, R95, R106, R115, R161, R183, R192, R193: the outputs and the supply mode follow the records, a supplied part is fed, and one
whose supply has failed stops when nothing handed over waits (R112). The alert line is low while a source holds an unmasked reason; a rail is on while a live entry that
names it is GRANTED; a bay's path is CLOSED in ONLINE and WITHDRAWING and its lamp ON in RELEASED and FAULTED; a bay whose answer window is open
has sent the byte 0xC7 on its pack link, and one whose window is closed shows nothing there (notes/assumptions/36.md). -/
structure OutputsFollow (s : State) : Prop where
  alert : s.pins.alertLow = true ↔ ∃ i : Fin 30, s.attention.sets[i] &&& ~~~(maskAt s.attention.masks i) ≠ 0
  rails : ∀ r : Fin 12, s.pins.rails[r] = true ↔ ∃ i e, s.load.entry i = some e ∧ e.rail = some r ∧ e.state = .granted
  pathA : s.pins.pathA = true ↔ s.bayA.state = .online ∨ s.bayA.state = .withdrawing
  pathB : s.pins.pathB = true ↔ s.bayB.state = .online ∨ s.bayB.state = .withdrawing
  lampA : s.pins.lampA = true ↔ s.bayA.state = .released ∨ s.bayA.state = .faulted
  lampB : s.pins.lampB = true ↔ s.bayB.state = .released ∨ s.bayB.state = .faulted
  links : ∀ b, s.pins.link b = if (s.bay b).answerWindow = none then none else some 0xC7
  inletPath : s.pins.inletPath = s.supply.inletPresent
  bridgePath : s.pins.bridgePath = s.supply.carrying
  parkRequests : ∀ n : Line, s.pins.parkRequests[n] = (s.episode.lines[n]).requestOn
  backlight : s.pins.backlight = s.light.output
  systemOn : s.pins.systemOn = true ↔ s.system.state ≠ .dark
  mode : s.supply.mode =
    if s.supply.carrying = true then .bridging else if s.supply.slot = none then .steady else .withdrawal
  supplied : s.power = .supplied → Fed s
  failing : s.power = .failing → s.handed ≠ []
  gained : s.power = .gained → ¬Fed s ∨ SourceWaits s

/-- A bay on its way out of the supply (R68). -/
def BayRec.leaving (r : BayRec) : Bool := r.state == .withdrawing || r.state == .released

/-- R64, R67, R69, R73, R78, R84: what goes with the state, the contact and the link step of one bay. -/
structure BayLaw (r : BayRec) : Prop where
  contact : r.contact = .lost ↔ r.state = .empty
  link : r.link.isSome = (r.contact == .made)
  polling : r.queryTimer.isSome = (r.contact == .made)
  runs : r.goodRun ≤ 2 ∧ r.missRun ≤ 4
  probe : r.probeTimer.isSome = (r.state == .probing)
  step : r.stepTimer.isSome = (r.link == some .outOfStep)
  cause : r.cause.isSome = r.leaving
  window : r.ejectWindow.isSome = true → r.cause = some .eject
  requalify : r.requalify.isSome = true → r.state = .online ∨ r.state = .withdrawing

/-- R68, R97: the withdrawal slot holds the one bay that is WITHDRAWING or RELEASED, its phase goes with that bay's state, and the waiting bay
is the other bay, ONLINE. -/
structure WithdrawalLaw (s : State) : Prop where
  bayA : BayLaw s.bayA
  bayB : BayLaw s.bayB
  slot : ∀ b, (s.bay b).leaving = true ↔ s.supply.slot = some b
  phase : s.supply.phase.isSome = s.supply.slot.isSome
  opened : ∀ b, s.supply.slot = some b → (s.supply.phase = some .opened ↔ (s.bay b).state = .released)
  waiting : ∀ b, s.supply.waiting = some b → s.supply.slot = some (otherBay b) ∧ (s.bay b).state = .online
  reason : s.supply.waitReason.isSome = s.supply.waiting.isSome

/-- R106, R107, R110: the reserve stays within 60 s, the bridge carries only while no bay and no inlet supplies, the drain timer runs while
it carries, and the refill timer exactly while it does not, a bay or the inlet supplies and the reserve is below 60 s. -/
structure BridgeLaw (s : State) : Prop where
  reserve : s.supply.reserve ≤ 60
  source : s.supply.carrying = true → someSource s = false
  drain : s.supply.drainTimer.isSome = s.supply.carrying
  refill : s.supply.refillTimer.isSome = true ↔
    s.supply.carrying = false ∧ s.supply.reserve < 60 ∧
      (s.supply.inletPresent = true ∨ s.bayA.state = .online ∨ s.bayA.state = .withdrawing ∨ s.bayB.state = .online ∨
        s.bayB.state = .withdrawing)

/-- R90: what a bay adds to the source sum while the withdrawal under way, if any, is in a phase. -/
def bayAdds (phase : Option Phase) (r : BayRec) : Nat :=
  match r.state with
  | .online => r.counted
  | .withdrawing => if phase = some .blocked then r.counted else 0
  | .empty | .probing | .qualified | .released | .faulted => 0

/-- R90: what the bays and the inlet add to the source sum. -/
def sourcesAdd (s : State) : Nat :=
  bayAdds s.supply.phase s.bayA + bayAdds s.supply.phase s.bayB +
  if s.supply.inletPresent then s.supply.inletSet.getD s.store.working.inletDefault else 0

/-- R90 to R92: the bridge counts 300 pu in STARTING and RUN while it has a reserve and nothing else adds; the planning ceiling is the source sum
less the allowance and the margin, or 0. -/
structure SupplyFollows (s : State) : Prop where
  bridge : s.supply.bridgeCounted = true ↔
    (s.system.state = .starting ∨ s.system.state = .run) ∧ 0 < s.supply.reserve ∧ sourcesAdd s = 0
  sum : s.supply.sourceSum = sourcesAdd s + if s.supply.bridgeCounted then 300 else 0
  ceiling : s.supply.ceiling = s.supply.sourceSum - s.store.working.allowance - s.store.working.margin

/-! ### What an event of the supply side leaves -/

/-- R76: the pack of a bay asks to be disconnected and the policy has the bay answer. -/
def AsksDisconnect (r : BayRec) : Prop := r.policy = .act ∧ ∃ c, r.accepted = some c ∧ c.request = .disconnect

/-- R82: the pack of a RELEASED bay may come back. -/
def SoundAtRelock (r : BayRec) : Prop :=
  r.link = some .inStep ∧ (∃ c, r.accepted = some c ∧ c.state = .ready ∧ 0 < c.capability) ∧ ¬AsksDisconnect r

/-- R99: the bridge test blocks a withdrawal of the bay. -/
def BridgeBlocks (b : Bay) (s : State) : Prop :=
  (s.bay (otherBay b)).state ≠ .online ∧ s.supply.inletPresent = false ∧
  (((s.system.state = .starting ∨ s.system.state = .run) ∧ s.supply.reserve < s.store.working.bridgeMinimum) ∨
   s.system.state = .stopping ∨ (s.system.state = .dark ∧ s.supply.reserve = 0))

/-- R98, R101, R102: the withdrawal of a bay is under way: BLOCKED, or CLEARING while the total held is above the ceiling; or its path has
opened, which leaves the bay RELEASED, and FAULTED out of the slot after a DISCONNECT. -/
def OnItsWay (b : Bay) (cause : Cause) (t : State) : Prop :=
  t.supply.waiting ≠ some b ∧
  (((t.bay b).state = .withdrawing ∧ (t.bay b).cause = some cause ∧ t.supply.slot = some b ∧
      (t.supply.phase = some .blocked ∨ (t.supply.phase = some .clearing ∧ t.supply.ceiling < t.supply.totalHeld))) ∨
   (t.supply.totalHeld ≤ t.supply.ceiling ∧ cause ≠ .disconnect ∧ (t.bay b).state = .released ∧ (t.bay b).cause = some cause ∧
      t.supply.slot = some b ∧ t.supply.phase = some .opened ∧ Pending (.bay b .readyToRemove) t) ∨
   (cause = .disconnect ∧ (t.bay b).state = .faulted ∧ t.supply.slot ≠ some b ∧ Pending (.bay b .fault) t))

/-- R105 step 2, R106: what answers, in `t`, the loss that leaves `s` without a supplying source. -/
def NoSourceAnswered (s t : State) : Prop :=
  (s.supply.carrying = false → s.system.state = .starting ∨ s.system.state = .run → 0 < s.supply.reserve →
    t.supply.carrying = true ∧ t.pins.bridgePath = true ∧ t.supply.drainTimer = some (sec 1) ∧ t.supply.refillTimer = none ∧
    Pending (.supply .bridging) t ∧ (s.supply.reserve ≤ 15 → Pending (.supply .bridgeLow) t)) ∧
  ((s.system.state = .starting ∨ s.system.state = .run) ∧ s.supply.reserve = 0 ∨ s.system.state = .stopping →
    .forcedOff ∈ t.handed)

/-- R97: the withdrawal of a bay is BLOCKED. -/
def HeldBlocked (b : Bay) (t : State) : Prop :=
  (t.bay b).state = .withdrawing ∧ t.supply.slot = some b ∧ t.supply.phase = some .blocked

/-- R98, R99: the withdrawal of a bay has started, and `t` is what its event leaves. The bridge test is that of `u`: where it blocks, the phase is
BLOCKED with WITHDRAW_BLOCKED raised and the bay counts on (SupplyFollows); else the bay is on its way. -/
def WithdrawalStarted (b : Bay) (cause : Cause) (u t : State) : Prop :=
  OnItsWay b cause t ∧
  (BridgeBlocks b u → HeldBlocked b t ∧ Pending (.supply .withdrawBlocked) t) ∧
  (¬BridgeBlocks b u → ¬HeldBlocked b t)

/-- R99, R100: what an event that tests it makes, in `t`, of the withdrawal under way in `u`, the state before the event with the condition that
the event changes. One that is BLOCKED stays so while the bridge test blocks it, and else goes on its way. One in phase CLEARING goes on its
way, unless the event tests it too (`again`) and the bridge test blocks it: then it returns to BLOCKED. -/
def WithdrawalTested (again : Bool) (u t : State) : Prop :=
  ∀ b cause, u.supply.slot = some b → (u.bay b).cause = some cause →
    (u.supply.phase = some .blocked →
      (BridgeBlocks b u → HeldBlocked b t) ∧ (¬BridgeBlocks b u → OnItsWay b cause t ∧ ¬HeldBlocked b t)) ∧
    (u.supply.phase = some .clearing →
      (again = true → BridgeBlocks b u → HeldBlocked b t ∧ Pending (.supply .withdrawBlocked) t) ∧
      (again = false ∨ ¬BridgeBlocks b u → OnItsWay b cause t ∧ ¬HeldBlocked b t))

/-- R108: the state with a bay come ONLINE, before what follows from it. -/
def withOnline (b : Bay) (s : State) : State := s.setBay b { s.bay b with state := .online }

/-- R105: what answers, in `t`, the loss of a bay that supplied in `s`: step 2 when no source is left, and the test of step 3 of a withdrawal
of the other bay. R112: the loss may leave the part itself without supply. -/
def LossAnswered (b : Bay) (s t : State) : Prop :=
  PowerJudged s.power t ∧
  ((s.bay (otherBay b)).state ≠ .online → (s.bay (otherBay b)).state ≠ .withdrawing → s.supply.inletPresent = false →
    NoSourceAnswered s t) ∧
  (s.supply.slot ≠ some b → WithdrawalTested true (s.setBay b { s.bay b with state := .faulted }) t)

/-- R103: what becomes, in `t`, of the bay that waits in `s` while `b` holds the slot that the event frees. A withdrawal that starts there is tested
with `b` as the event leaves it (R99). -/
def SlotPassesOn (b : Bay) (s t : State) : Prop :=
  let o := otherBay b
  s.supply.slot = some b → s.supply.waiting = some o →
    (AsksDisconnect (s.bay o) → (s.bay o).leverTaken = .opened ∨ s.supply.waitReason = some .disconnect →
      WithdrawalStarted o .disconnect t t) ∧
    (¬AsksDisconnect (s.bay o) → (s.bay o).leverTaken = .opened → WithdrawalStarted o .lever t t) ∧
    ((s.bay o).leverTaken = .locked → ¬(s.supply.waitReason = some .disconnect ∧ AsksDisconnect (s.bay o)) →
      (t.bay o).state = .online ∧ t.supply.waiting = none ∧ t.supply.slot = none)

/-- R74: what a bay counts whose accepted condition is `c` while no requalify runs. -/
def countsNow (c : Condition) (exhausted : Bool) (policy : Policy) : Nat :=
  if c.state = .fault ∨ exhausted = true then 0
  else if policy = .act ∧ c.request = .reduce then c.capability / 2
  else c.capability

/-- R74: the counted capability of a bay is what its record gives. -/
def CountedFollows (r : BayRec) : Prop :=
  match r.requalify, r.accepted with
  | some q, _ => r.counted = q.held
  | none, none => r.counted = 0
  | none, some c => r.counted = countsNow c r.exhausted r.policy

/-- R73: the runs, the link step and the step timer of a bay as a good answer moves them from `r` to `u`. What it does to the runs in LOST is the
model's choice (notes/assumptions/11.md). -/
def LinkMoves (r u : BayRec) : Prop :=
  (r.link ≠ none → u.goodRun = min 2 (r.goodRun + 1)) ∧
  (r.link = some .seeking → u.link = some (if 1 ≤ r.goodRun then .inStep else .seeking) ∧ u.missRun = 0 ∧ u.stepTimer = r.stepTimer) ∧
  (r.link = some .inStep → u.link = some .inStep ∧ u.missRun = 0 ∧ u.stepTimer = r.stepTimer) ∧
  (r.link = some .outOfStep →
    (1 ≤ r.goodRun → u.link = some .inStep ∧ u.missRun = 0 ∧ u.stepTimer = none) ∧
    (r.goodRun = 0 → u.link = some .outOfStep ∧ u.missRun = r.missRun ∧ u.stepTimer = r.stepTimer)) ∧
  (r.link = some .lost → u.link = some .lost ∧ u.missRun = r.missRun ∧ u.stepTimer = r.stepTimer)

/-- R71 to R74: what every good answer leaves of the bay that hears it, whatever it accepts: the charge, whether the pack is exhausted, the
candidate and the link step by the answer, the counted capability by the record, and the levers, the contact and the policy as they were. -/
def AnswerHeard (lowCharge : Nat) (a : Answer) (r u : BayRec) : Prop :=
  u.candidate = some a.condition ∧ u.charge = some a.charge ∧ u.exhausted = decide (a.charge ≤ lowCharge) ∧ u.answerWindow = none ∧
  LinkMoves r u ∧ CountedFollows u ∧ u.leverInput = r.leverInput ∧ u.leverTaken = r.leverTaken ∧ u.deferred = r.deferred ∧
  u.contact = r.contact ∧ u.policy = r.policy ∧ u.queryTimer = r.queryTimer

/-! ### Laws of the backlight, the Monitor and the Sequencer -/

/-- R125: the target and its source are what the first row that applies gives. -/
def TargetFollows (s : State) : Prop :=
  let r := s.light
  (r.panelOn = false ∨ s.system.state = .dark → r.target = 0 ∧ r.source = .off) ∧
  (r.panelOn = true → s.system.state ≠ .dark →
    (∀ pin, r.pin = some pin → r.target = pin.level ∧ r.source = .pin) ∧
    (r.pin = none → r.estimate = none ∨ r.curve = [] → r.target = r.settings.failsafeLevel ∧ r.source = .failsafe) ∧
    (∀ lux, r.pin = none → r.estimate = some lux → r.curve ≠ [] → r.target = curveLevel r.curve lux ∧ r.source = .curve))

/-- R131, R133: the level cap is that of the grant taken, the output is within the cap, the destination is the lesser of target and cap,
and the ramp and its timer go with output and destination. -/
structure LightLaw (r : LightRec) : Prop where
  cap : r.cap = capOf r.settings r.grantTaken
  output : r.output ≤ r.cap
  destination : r.destination = min r.target r.cap
  ramp : r.ramp = rampOf r.output r.destination
  timer : r.stepTimer.isSome = (r.output != r.destination)

/-- R139, R141, R147: sampling goes with the state, a Monitor that is OFF counts nothing, one that samples is armed, and an IMPACT has a
class. -/
structure MotionLaw (r : MotionRec) : Prop where
  timer : r.sampleTimer.isSome = (r.state != .off)
  off : r.state = .off → r.lowCount = 0 ∧ r.quietCount = 0 ∧ r.missedCount = 0 ∧ r.faultInFall = false
  missed : r.missedCount ≤ 8
  armed : r.state ≠ .off → r.armed = true
  impact : r.state = .impact → r.cls ≠ .none

/-- R161, R163, R168: what goes with the state of a park line, in an episode of a state. -/
structure LineLaw (e : EpisodeState) (l : LineRec) : Prop where
  request : l.requestOn = true → e = .protecting ∨ e = .holding
  idle : l.state = .idle → l.requestOn = false ∧ l.parkTimer = none ∧ l.unparkTimer = none
  park : l.parkTimer.isSome = true → l.state = .requested ∧ l.requestOn = true
  unpark : l.unparkTimer.isSome = true → e = .recovering
  ended : e = .idle → l.state = .idle

/-- R156, R158, R161: a protect claim is waited for in IDLE or PROTECTING, nothing is held without one, and every line keeps its law. -/
structure EpisodeLaw (e : EpisodeRec) : Prop where
  pending : e.protectPending = true → e.state = .idle ∨ e.state = .protecting
  held : e.settleHeld = true ∨ e.disarmHeld = true → e.protectPending = true
  lines : ∀ n : Line, LineLaw e.state e.lines[n]

/-! ### Laws of the load table -/

/-- R9: one member of the Grant Order stands before another. -/
def Before (L : LoadRec) (i j : Slot) : Prop :=
  ∃ ei ej, L.entry i = some ei ∧ L.entry j = some ej ∧ precedes ei ej = true

/-- R9, R13, R14: the Grant Order holds exactly the live entries in PENDING, GRANTED, REDUCED or SHED, in order of rank then sequence, and the
sequences of host entries are unique and below the counter. -/
structure GrantOrderLaw (L : LoadRec) : Prop where
  members : ∀ i, i ∈ L.order ↔ ∃ e, L.entry i = some e ∧ e.state.isMember = true
  sorted : L.order.Pairwise (Before L)
  unique : ∀ i j ei ej, L.entry i = some ei → L.entry j = some ej → ei.sequence = ej.sequence → i = j
  below : ∀ i e, L.entry i = some e → e.sequence < L.counter
  backlight : ∃ e, L.entry 0 = some e ∧ e.sequence = 0
  counter : 1 ≤ L.counter ∧ L.counter ≤ counterLimit

/-- R2, R3, R4, R8: what goes with the kind and the state of one entry. -/
structure EntryLaw (e : Entry) : Prop where
  counted : e.counted = match e.grace with
    | some g => g.value
    | none => e.granted
  granted : e.granted = 0 ∨ (e.minimum ≤ e.granted ∧ e.granted ≤ e.requested)
  bounds : e.minimum ≤ e.requested
  off : e.state = .pending ∨ e.state = .shed ∨ e.state = .lapsed ∨ e.state = .held → e.granted = 0
  full : e.state = .granted → e.granted = e.requested ∧ 0 < e.granted
  reduced : e.state = .reduced → 0 < e.granted ∧ e.granted < e.requested
  grace : e.grace.isSome = true → e.kind = .throttled ∧ e.state.isMember = true
  holdoff : e.holdoff.isSome = true → e.state = .shed

/-- R3, R6: the fields that the kind of an entry allows it. -/
structure KindLaw (i : Slot) (e : Entry) : Prop where
  backlight : e.kind = .backlight ↔ i = 0
  rail : e.rail.isSome = true ↔ e.kind = .switched
  switched : e.kind = .switched → e.minimum = e.requested
  cut : e.fallAction = some .cut → e.kind = .switched
  slot0 : e.kind = .backlight → e.fallAction = none ∧ e.mark = .clear ∧ e.state ≠ .held

/-- R4, R8, R9, R11, R48, R50: the law of the whole load table. -/
structure TableLaw (L : LoadRec) : Prop where
  order : GrantOrderLaw L
  entries : ∀ i e, L.entry i = some e → EntryLaw e ∧ KindLaw i e
  rails : ∀ i j ei ej, L.entry i = some ei → L.entry j = some ej → ei.rail.isSome = true → ei.rail = ej.rail → i = j
  draft : L.draft.length ≤ draftLimit
  within : L.countedTotal ≤ L.ceiling ∨ L.overcommit = true

/-- R57: the Draft List is empty while the system is DARK or STARTING, as the Load Manager meets it: the clear that empties it is taken
before any request (notes/assumptions/17.md). -/
def DraftLaw (s : State) : Prop :=
  s.load.draft = [] ∨ s.system.state = .run ∨ s.system.state = .stopping ∨ .loadManagerSystemOffClear ∈ s.handed

/-! ### Laws of the profile, the curve and the attention state -/

/-- R121: a curve table as the part holds it. -/
def curveOk (ps : List Point) : Bool := curveOrdered ps && ps.all pointInRange && decide (ps.length ≤ curveLimit)

/-- R140, R200: the constraints of a profile. -/
def profileOk (p : Profile) : Bool := p.consistent && curveOk p.defaultCurve && masksValid p.masks

/-- R121, R182, R200: every profile the store holds, the curve table, the power map and the masks keep their constraints. -/
structure SettingsLaw (s : State) : Prop where
  working : profileOk s.store.working = true
  stored : profileOk s.store.stored = true
  snapshot : ∀ x, s.store.storing = some x → profileOk x.snapshot = true
  curve : curveOk s.light.curve = true
  map : s.light.settings.p0 ≤ s.light.settings.pfull
  masks : masksValid s.attention.masks = true

/-- R181: a source holds only reasons of its kind. -/
def ReasonsLaw (a : AttentionRec) : Prop := ∀ i : Fin 30, a.sets[i] &&& ~~~(sourceReasons i) = 0

/-! ### Which commands may change which record -/

/-- A request that the Load Manager takes (1.8, 2.6, chapter 3). -/
def isLoadRequest : Instr → Bool
  | .admitEntry _ | .stagedAdmit _ | .revise _ | .stagedRevise _ | .release _ | .stagedRelease _ | .query _ | .findTag _
  | .findRail _ | .order | .confirm _ | .renew _ | .commit | .discard | .draftRead => true
  | _ => false

/-- An event of the Load Manager's own. -/
def isLoadEvent : Instr → Bool
  | .ceilingHandover _ | .slot0Claim _ _ | .graceExpiry _ | .holdoffExpiry _ | .lapse _ | .protectClaim | .lineDoneClaim _
  | .lineFailedClaim _ | .lateClaim | .cutReturnClaim | .lineReturnClaim _ | .liftClaim | .loadManagerPartReset
  | .loadManagerSystemOffClear => true
  | _ => false

/-- An event of the Supply Controller or a Bay Unit, or a request that one of them takes and that changes its record. -/
def isSupplyCommand : Instr → Bool
  | .reprobe _ | .eject _ | .setInlet _ | .countedTotalHandover _ | .inletEvent _ | .drainTimerExpiry | .refillTimerExpiry
  | .deferClaim | .releaseClaim | .supplyStateNotice _ | .supplyProfileChange | .policyChange _ _ | .leverEvent _ _
  | .contactMade _ | .contactLoss _ | .conditionQuery _ | .goodAnswer _ _ | .badAnswer _ _ | .missedAnswer _
  | .probeTimerExpiry _ | .linkStepTimerExpiry _ | .ejectWindowExpiry _ | .requalify _ | .requalifyExpiry _ => true
  | _ => false

/-- A command that the Backlight Controller takes and that changes its record. -/
def isLightCommand : Instr → Bool
  | .curveSet _ | .curveAdd _ | .curveRemove _ | .panel _ | .pin _ _ | .unpin | .readEvent _ _ | .slot0GrantHandoff _ _
  | .rampStep | .pinExpiry | .episodeActiveNotice | .episodeEndedNotice | .backlightStateNotice _ | .backlightProfileChange _
  | .backlightPartReset => true
  | _ => false

/-- A command that the Motion Monitor takes and that changes its record. -/
def isMotionCommand : Instr → Bool
  | .arm | .disarm | .simulateFall | .sampleEvent _ | .motionStateNotice _ | .motionPartReset => true
  | _ => false

/-- A command that the Protection Sequencer takes and that changes its record. -/
def isEpisodeCommand : Instr → Bool
  | .resume | .fallStart | .impact _ | .settled _ | .disarmNotice | .protectAnswer _ | .doneInputChange _ _
  | .parkTimerExpiry _ | .unparkTimerExpiry _ | .sequencerSystemOffClear | .sequencerPartReset => true
  | _ => false

/-- A command that changes the system record. -/
def isSystemCommand : Instr → Bool
  | .ready | .powerOff | .forcedOff | .buttonChange _ | .pressTimerExpiry | .holdTimerExpiry | .startTimerExpiry
  | .stopTimerExpiry => true
  | _ => false

/-- A command that changes the Profile Store. -/
def isStoreCommand : Instr → Bool
  | .partReset | .profileWrite _ _ | .profileStore | .storeTimerExpiry _ => true
  | _ => false

/-- A frame may carry any request, and a power-on reset builds every record afresh. -/
def isAnyRecord : Instr → Bool
  | .frame _ | .powerOnReset _ => true
  | _ => false

/-- A request of the host, sent alone or in a frame, or a frame of a longer one: what changes the held reply. -/
def isRequest : Instr → Bool
  | .frame _ | .moreFollowsFrame _ _ | .bayStatus _ | .reprobe _ | .eject _ | .supplyStatus | .setInlet _ | .lightStatus _
  | .curveSet _ | .curveAdd _ | .curveRemove _ | .panel _ | .pin _ _ | .unpin | .fallStatus | .arm | .disarm | .simulateFall
  | .resume | .ready | .powerOff | .partReset | .profileRead _ | .profileWrite _ _ | .profileStore | .summary
  | .acknowledge _ _ | .mask _ => true
  | c => isLoadRequest c

/-! ### What a host sends for a request -/

/-- 9.4: the code and the argument bytes that spell a request; `none` for a command that is no request of the catalog. -/
def requestFrame : Instr → Option (Byte × List Byte)
  | .admitEntry a => some (0x10, admitBytes a)
  | .stagedAdmit a => some (0x90, admitBytes a)
  | .revise a => some (0x11, reviseBytes a)
  | .stagedRevise a => some (0x91, reviseBytes a)
  | .release h => some (0x12, handleBytes h)
  | .stagedRelease h => some (0x92, handleBytes h)
  | .query h => some (0x13, handleBytes h)
  | .findTag tag => some (0x14, word tag)
  | .findRail rail => some (0x15, [byte rail])
  | .order => some (0x16, [])
  | .confirm h => some (0x17, handleBytes h)
  | .renew h => some (0x18, handleBytes h)
  | .commit => some (0x20, [])
  | .discard => some (0x21, [])
  | .draftRead => some (0x22, [])
  | .bayStatus bay => some (0x30, [byte bay])
  | .reprobe bay => some (0x31, [byte bay])
  | .eject bay => some (0x32, [byte bay])
  | .supplyStatus => some (0x33, [])
  | .setInlet c => some (0x34, word c)
  | .lightStatus part => some (0x40, [byte part])
  | .curveSet ps => some (0x41, curveBytes ps)
  | .curveAdd p => some (0x42, leBytes 3 p.lux ++ word p.level)
  | .curveRemove lux => some (0x43, leBytes 3 lux)
  | .panel v => some (0x44, [byte v])
  | .pin level duration => some (0x45, word level ++ word duration)
  | .unpin => some (0x46, [])
  | .fallStatus => some (0x50, [])
  | .arm => some (0x51, [])
  | .disarm => some (0x52, [])
  | .simulateFall => some (0x53, [])
  | .resume => some (0x54, [])
  | .ready => some (0x60, [])
  | .powerOff => some (0x61, [])
  | .partReset => some (0x62, [])
  | .profileRead n => some (0x63, [byte n])
  | .profileWrite n value => if settingExists n && settingFills n value then some (0x64, byte n :: value) else none
  | .profileStore => some (0x65, [])
  | .summary => some (0x70, [])
  | .acknowledge source reasons => some (0x71, [byte source, reasons])
  | .mask none => some (0x72, [])
  | .mask (some m) => some (0x72, maskList m)
  | _ => none

end Sys2Proof.Machine
end

