-- ==== Sys2Proof/WellFormed.lean ====
section
/-!
DEFINITION. What makes a command well formed: every operand fits the width in which it crosses the port (R188), or lies in
the range that the rule handing it over gives. A well-formed request may still be out of its rule's range: the rule then
refuses it (R180). Every command has a meaning, well formed or not; this check says which ones the part can meet.
-/
namespace Sys2Proof

/-- R188: a value of one byte. -/
def fitsByte (n : Nat) : Bool := decide (n < 256)
/-- R188: a value of two bytes. -/
def fitsWord (n : Nat) : Bool := decide (n < 65536)
/-- R188: a lux value, of three bytes. -/
def fitsLux (n : Nat) : Bool := decide (n < 16777216)

/-- R189: the two bytes of a handle. -/
def Handle.wellFormed (h : Handle) : Bool := fitsByte h.slot && fitsByte h.generation

/-- R122: the lux and level widths of a point. -/
def Point.wellFormed (p : Point) : Bool := fitsLux p.lux && fitsWord p.level

/-- 9.4: the widths of ADMIT's eight arguments. -/
def AdmitArgs.wellFormed (a : AdmitArgs) : Bool :=
  fitsByte a.kind && fitsByte a.rank && fitsWord a.requested && fitsWord a.tag && fitsByte a.rail && fitsWord a.minimum &&
  fitsByte a.fallAction && fitsWord a.leasePeriod

/-- 9.4: the widths of REVISE's nine arguments. -/
def ReviseArgs.wellFormed (a : ReviseArgs) : Bool :=
  a.handle.wellFormed && fitsByte a.rank && fitsWord a.requested && fitsWord a.minimum && fitsWord a.tag &&
  fitsByte a.fallAction && fitsWord a.leasePeriod && fitsByte a.rail

/-- R92: a planning ceiling. R4: a counted total. R2: a power of slot 0. -/
def fitsPower (limit n : Nat) : Bool := decide (n ≤ limit)

/-- R192: an answer is complete when its sixth byte has arrived; the operand of a
GOOD_ANSWER or BAD_ANSWER is a complete answer. -/
def completeAnswer (bytes : List Byte) : Bool := decide (6 ≤ bytes.length)

/-- A command whose operands the part can meet. -/
def Instr.wellFormed : Instr → Bool
  | .frame _ => true
  | .moreFollowsFrame _ args => decide (args.length ≤ 40)
  | .admitEntry a => a.wellFormed
  | .stagedAdmit a => a.wellFormed
  | .revise a => a.wellFormed
  | .stagedRevise a => a.wellFormed
  | .release h => h.wellFormed
  | .stagedRelease h => h.wellFormed
  | .query h => h.wellFormed
  | .findTag tag => fitsWord tag
  | .findRail rail => fitsByte rail
  | .order => true
  | .confirm h => h.wellFormed
  | .renew h => h.wellFormed
  | .commit => true
  | .discard => true
  | .draftRead => true
  | .bayStatus bay => fitsByte bay
  | .reprobe bay => fitsByte bay
  | .eject bay => fitsByte bay
  | .supplyStatus => true
  | .setInlet c => fitsWord c
  | .lightStatus part => fitsByte part
  | .curveSet ps => decide (1 + 5 * ps.length ≤ 96) && ps.all Point.wellFormed
  | .curveAdd p => p.wellFormed
  | .curveRemove lux => fitsLux lux
  | .panel v => fitsByte v
  | .pin level duration => fitsWord level && fitsWord duration
  | .unpin => true
  | .fallStatus => true
  | .arm => true
  | .disarm => true
  | .simulateFall => true
  | .resume => true
  | .ready => true
  | .powerOff => true
  | .partReset => true
  | .profileRead n => fitsByte n
  | .profileWrite n value => fitsByte n && decide (1 + value.length ≤ 96)
  | .profileStore => true
  | .summary => true
  | .acknowledge source _ => fitsByte source
  | .mask _ => true
  | .ceilingHandover c => fitsPower 3000 c
  | .slot0Claim r m => fitsPower 800 r && fitsPower 800 m
  | .graceExpiry _ => true
  | .holdoffExpiry _ => true
  | .lapse _ => true
  | .protectClaim => true
  | .lineDoneClaim _ => true
  | .lineFailedClaim _ => true
  | .lateClaim => true
  | .cutReturnClaim => true
  | .lineReturnClaim _ => true
  | .liftClaim => true
  | .loadManagerPartReset => true
  | .loadManagerSystemOffClear => true
  | .countedTotalHandover t => fitsPower 19200 t
  | .inletEvent _ => true
  | .drainTimerExpiry => true
  | .refillTimerExpiry => true
  | .deferClaim => true
  | .releaseClaim => true
  | .supplyStateNotice _ => true
  | .supplyProfileChange => true
  | .policyChange _ _ => true
  | .forcedOff => true
  | .leverEvent _ _ => true
  | .contactMade _ => true
  | .contactLoss _ => true
  | .conditionQuery _ => true
  | .goodAnswer _ bytes => completeAnswer bytes
  | .badAnswer _ bytes => completeAnswer bytes
  | .missedAnswer _ => true
  | .probeTimerExpiry _ => true
  | .linkStepTimerExpiry _ => true
  | .ejectWindowExpiry _ => true
  | .requalify _ => true
  | .requalifyExpiry _ => true
  | .readEvent _ _ => true
  | .slot0GrantHandoff g _ => fitsPower 800 g
  | .rampStep => true
  | .pinExpiry => true
  | .episodeActiveNotice => true
  | .episodeEndedNotice => true
  | .backlightStateNotice _ => true
  | .backlightProfileChange n => decide (11 ≤ n) && decide (n ≤ 18)
  | .backlightPartReset => true
  | .sampleEvent _ => true
  | .motionStateNotice _ => true
  | .motionPartReset => true
  | .fallStart => true
  | .impact _ => true
  | .settled _ => true
  | .disarmNotice => true
  | .protectAnswer lines => decide lines.Nodup
  | .doneInputChange _ _ => true
  | .parkTimerExpiry _ => true
  | .unparkTimerExpiry _ => true
  | .sequencerSystemOffClear => true
  | .sequencerPartReset => true
  | .attentionSystemOffClear => true
  | .buttonChange _ => true
  | .pressTimerExpiry => true
  | .holdTimerExpiry => true
  | .startTimerExpiry => true
  | .stopTimerExpiry => true
  | .storeTimerExpiry _ => true
  | .powerOnReset _ => true

end Sys2Proof
end

