-- ==== Sys2Proof/Certificates/Slice0/Obligations.lean ====
section
/-!
DEFINITION. The statements about the UL440, for the provers: the step of the machine, the laws its steps keep, what each command leaves as
it was, and what each command does.
-/
open Sys2Proof Sys2Proof.Machine

/-! ### The step -/

/-- The front of the queue is taken, and it runs with the queue's rest. -/
def Obligations.StepRunsTheFront : Prop :=
  ∀ (c : Instr) (s : State), step { s with pending := c :: s.pending } = exec c s

/-- The model's choices (notes/assumptions/3.md, 9.md): on an empty queue the part takes the oldest claim handed over, else the first timer due,
else half a millisecond passes. The half millisecond takes one off every timer that runs and changes nothing else: a timer at 0 waits there, and
the lease of a LAPSED entry stands still (R58; 24.md). Due are the expiries of the timers at 0, but for the read timer, the sample timer and the
store timer, whose events carry what a sensor or the store answers and wait for their commands (3.md). R112: a part that has stopped changes nothing
on any command but a power-on reset, which it takes like any other part; that a contact or the inlet makes no step of its own then, and that the
reset leaves the power gained, is the model's choice (9.md). -/
def Obligations.IdleAndStoppedParts : Prop :=
  (∀ s : State, s.pending = [] →
    (s.power = .stopped → step s = .next s) ∧
    (s.power ≠ .stopped → ∀ c cs, s.handed = c :: cs → step s = exec c s) ∧
    (s.power ≠ .stopped → s.handed = [] → ∀ c cs, dueEvents s = c :: cs → step s = exec c s) ∧
    (s.power ≠ .stopped → s.handed = [] → dueEvents s = [] → step s = .next (tick s))) ∧
  (∀ (s : State) (c : Instr), c ∈ dueEvents s ↔ IsDue c s) ∧
  (∀ s : State,
    let less := Option.map fun n : Nat => n - 1
    let entry := fun e : Entry => { e with
      lease := if e.state = .lapsed then e.lease else e.lease.map fun l => { l with remaining := l.remaining - 1 }
      holdoff := less e.holdoff
      grace := e.grace.map fun g => { g with remaining := g.remaining - 1 } }
    let bay := fun r : BayRec => { r with
      ejectWindow := less r.ejectWindow
      probeTimer := less r.probeTimer
      stepTimer := less r.stepTimer
      requalify := r.requalify.map fun q => { q with remaining := q.remaining - 1 }
      queryTimer := less r.queryTimer
      answerWindow := less r.answerWindow }
    tick s = { s with
      load := { s.load with slots := s.load.slots.map fun x => { x with entry := x.entry.map entry } }
      bayA := bay s.bayA
      bayB := bay s.bayB
      supply := { s.supply with drainTimer := less s.supply.drainTimer, refillTimer := less s.supply.refillTimer }
      light := { s.light with
        pin := s.light.pin.map fun p => { p with remaining := less p.remaining }
        stepTimer := less s.light.stepTimer
        readTimer := less s.light.readTimer }
      motion := { s.motion with sampleTimer := less s.motion.sampleTimer }
      episode := { s.episode with
        lines := s.episode.lines.map fun l => { l with parkTimer := less l.parkTimer, unparkTimer := less l.unparkTimer } }
      system := { s.system with
        pressTimer := less s.system.pressTimer
        holdTimer := less s.system.holdTimer
        startTimer := less s.system.startTimer
        stopTimer := less s.system.stopTimer }
      store := { s.store with storing := s.store.storing.map fun x => { x with timer := x.timer - 1 } } }) ∧
  (∀ s : State, s.power = .stopped →
    (∀ c, (∀ x, c ≠ .powerOnReset x) → exec c s = .next s) ∧
    (∀ x, exec (.powerOnReset x) s = .next (finish (powerOnState x s)) ∧ (finish (powerOnState x s)).power = .gained))

/-- No command stops the machine, none touches the queue, and only a release of deferred levers, and a defer claim behind one that still waits, read
the free choice. -/
def Obligations.EveryCommandAnswersNext : Prop :=
  ∀ (c : Instr) (s : State), ∃ t, exec c s = .next t ∧ t.pending = s.pending ∧
    (c ≠ .releaseClaim → c ≠ .deferClaim → t.freeCount = s.freeCount)

/-- R130, R149, R157: what one party has handed another is taken in the order it was handed: a command behind something older of its route does what
it does once that has been taken as its own event. R57, R203: so does a load request behind a reset handed to the Load Manager. That every pair of
parties keeps its order, and that a claim nobody handed comes last, is the model's choice (notes/assumptions/4.md, 17.md). -/
def Obligations.ClaimsAreTakenInTheOrderHanded : Prop :=
  ∀ (c d : Instr) (front back : List Instr) (s : State), s.handed = front ++ d :: back →
    (∀ x, route c = some x → route d = some x → d ≠ c → (∀ y ∈ front, route y ≠ some x) →
      ∃ t, exec d s = .next t ∧ exec c s = exec c t) ∧
    (isLoadRequest c = true → d = .loadManagerPartReset ∨ d = .loadManagerSystemOffClear →
      (∀ y ∈ front, y ≠ .loadManagerPartReset ∧ y ≠ .loadManagerSystemOffClear) →
      ∃ t, exec d s = .next t ∧ exec c s = exec c t)

/-! ### The laws that every step keeps -/

/-- The state right after reset keeps every law. -/
def Obligations.LawsHoldAtReset : Prop :=
  OutputsFollow State.reset ∧ WithdrawalLaw State.reset ∧ BridgeLaw State.reset ∧ TableLaw State.reset.load ∧ DraftLaw State.reset ∧
  LightLaw State.reset.light ∧ MotionLaw State.reset.motion ∧ EpisodeLaw State.reset.episode ∧ SettingsLaw State.reset ∧
  ReasonsLaw State.reset.attention ∧ State.reset.load.grantHanded = State.reset.load.slot0Grant

/-- R12, R68, R69, R94, R95, R106, R115, R161, R183, R192, R193: every step leaves the outputs and the supply mode as the records say: the alert
line, the rails, the paths, the lamps, the queries on the pack links, the park requests, the backlight drive, the system-on output. That a query is
shown on its link while its answer is awaited is the model's choice (notes/assumptions/36.md). R112: no step leaves a part supplied that no closed
path, no inlet and no reserve feeds, and one whose supply has failed stops when nothing handed over waits; how it stops, and how it starts, is the
model's choice (notes/assumptions/9.md). -/
def Obligations.OutputsFollowEveryStep : Prop :=
  ∀ s t : State, OutputsFollow s → step s = .next t → OutputsFollow t

/-- R64, R67, R68, R97, R106, R107, R110: every step keeps the law of the withdrawal slot and the bays, and the law of the bridge. -/
def Obligations.WithdrawalAndBridgeKept : Prop :=
  ∀ s t : State, WithdrawalLaw s → BridgeLaw s → step s = .next t → WithdrawalLaw t ∧ BridgeLaw t

/-- R2, R3, R4, R8, R9, R11, R14, R48, R50: every step keeps the law of the load table. -/
def Obligations.LoadTableKept : Prop :=
  ∀ s t : State, TableLaw s.load → step s = .next t → TableLaw t.load

/-- R131, R133, R139, R141: every step keeps the laws of the backlight record and of the motion record. R156, R158, R161, R163, R168: every step
keeps the law of the episode and its park lines. -/
def Obligations.LightMotionAndEpisodeKept : Prop :=
  (∀ s t : State, step s = .next t →
    (LightLaw s.light → LightLaw t.light) ∧ (MotionLaw s.motion → MotionLaw t.motion)) ∧
  (∀ s t : State, EpisodeLaw s.episode → step s = .next t → EpisodeLaw t.episode)

/-- R121, R129, R140, R181, R182, R200: every step keeps the constraints of the profiles, the curve, the power map and the masks, and every source
holds only reasons of its kind. R57: every step keeps the Draft List empty while the system is DARK or STARTING, but for what the clear still handed
over will drop (notes/assumptions/17.md). -/
def Obligations.SettingsReasonsAndDraftKept : Prop :=
  ∀ s t : State, step s = .next t →
    (SettingsLaw s → SettingsLaw t) ∧ (ReasonsLaw s.attention → ReasonsLaw t.attention) ∧ (DraftLaw s → DraftLaw t)

/-! ### What each command leaves as it was -/

/-- R15, R177: the load table is changed by a load request or an event of the Load Manager only, and the bays and the supply record by a command of
the supply side only. R177: the records of the Backlight Controller, the Motion Monitor, the Protection Sequencer, System Power Control and the
Profile Store, what it has handed to the Supply Controller, the masks and the held reply are each changed by their own commands only. R112: what
feeds the part is changed by the events of the supply side only: another command leaves a supplied part that is fed supplied, one that a reset has
started as it was while nothing feeds it, and one whose supply has failed without supply (notes/assumptions/9.md). -/
def Obligations.RecordsKeptByOtherCommands : Prop :=
  (∀ (c : Instr) (s t : State), exec c s = .next t → isAnyRecord c = false →
    (isLoadRequest c = false → isLoadEvent c = false → t.load = s.load) ∧
    (isSupplyCommand c = false → t.bayA = s.bayA ∧ t.bayB = s.bayB ∧ (OutputsFollow s → t.supply = s.supply))) ∧
  (∀ (c : Instr) (s t : State), exec c s = .next t → isAnyRecord c = false →
    (isLightCommand c = false → t.light = s.light) ∧
    (isMotionCommand c = false → t.motion = s.motion) ∧
    (isEpisodeCommand c = false → t.episode = s.episode) ∧
    (isSystemCommand c = false → t.system = s.system) ∧
    (isStoreCommand c = false → t.store = s.store ∧ (c ≠ .supplyProfileChange → t.bridgeTests = s.bridgeTests)) ∧
    (isRequest c = false → t.port = s.port) ∧
    (isSupplyCommand c = false → (Fed t ↔ Fed s) ∧ PowerJudged s.power t ∧
      (s.power = .gained → ¬Fed s ∨ SourceWaits s → t.power = .gained)) ∧
    (c ≠ .partReset → (∀ m, c ≠ .mask m) → t.attention.masks = s.attention.masks))

/-- R4, R37, R92: a command that leaves another counted total, another slot 0 grant or another planning ceiling hands it over, and a changed ceiling
leaves CEILING pending. -/
def Obligations.ChangedTotalsAreHandedOver : Prop :=
  ∀ (c : Instr) (s t : State), (∀ x, c ≠ .powerOnReset x) → exec c s = .next t →
    (t.load.countedTotal ≠ s.load.countedTotal → .countedTotalHandover t.load.countedTotal ∈ t.handed) ∧
    (s.load.grantHanded = s.load.slot0Grant → t.load.grantHanded = t.load.slot0Grant ∧
      (t.load.slot0Grant ≠ s.load.slot0Grant → ∃ answer, .slot0GrantHandoff t.load.slot0Grant answer ∈ t.handed)) ∧
    (t.supply.ceiling ≠ s.supply.ceiling → .ceilingHandover t.supply.ceiling ∈ t.handed ∧ Pending (.supply .ceiling) t)

/-! ### The request port -/

/-- R177 steps 1, 2 and 4, R178: the frames that the port refuses, each with its status and with any assembly discarded. R177 step 5 and R178: a
final frame whose arguments, behind those of an assembly of its code, spell a request does what the request does; a write transfer without a data
byte changes nothing (R176). R187: a length byte up to 40 is the length, one from 0x80 to 0xA8 is the length with the more-follows mark, and any other
(41 to 127, 0xA9 to 0xFF) is undefined. 9.4: the codes of the catalog are the ones listed; any other is unknown. R177 step 4: arguments that do not
fill the layout of their code give BAD_LENGTH, and a PROFILE_WRITE of a setting outside 1 to 29 gives BAD_ARGUMENT before any length is compared. -/
def Obligations.FramesAreRefusedOrCarryTheirRequest : Prop :=
  (∀ s : State, Alive s → ∀ code len : Byte, ∀ args : List Byte,
    exec (.frame [code]) s = .next (refusedWith .badLength s) ∧
    (readLength len = none → exec (.frame (code :: len :: args)) s = .next (refusedWith .badLength s)) ∧
    (∀ n more, readLength len = some (n, more) → args.length ≠ n →
      exec (.frame (code :: len :: args)) s = .next (refusedWith .badLength s)) ∧
    (∀ more, readLength len = some (args.length, more) →
      (catalogHas code = false → exec (.frame (code :: len :: args)) s = .next (refusedWith .unknownRequest s)) ∧
      (catalogHas code = true → 96 < (heldArgs code s.port ++ args).length →
        exec (.frame (code :: len :: args)) s = .next (refusedWith .badLength s))) ∧
    (readLength len = some (args.length, false) → catalogHas code = true → (heldArgs code s.port ++ args).length ≤ 96 →
      ∀ st, decodeRequest code (heldArgs code s.port ++ args) = .error st →
        exec (.frame (code :: len :: args)) s = .next (refusedWith st s))) ∧
  (∀ len : Byte,
    (len.toNat ≤ 40 → readLength len = some (len.toNat, false)) ∧
    (41 ≤ len.toNat → len.toNat ≤ 127 → readLength len = none) ∧
    (0x80 ≤ len.toNat → len.toNat ≤ 0xA8 → readLength len = some (len.toNat - 0x80, true)) ∧
    (0xA9 ≤ len.toNat → readLength len = none)) ∧
  (∀ (code : Byte) (p : PortRec), heldArgs code p = match p.assembly with
    | some a => if a.code = code then a.args else []
    | none => []) ∧
  (let sized : List (Byte × Nat) :=
      [(0x10, 12), (0x90, 12), (0x11, 14), (0x91, 14), (0x12, 2), (0x92, 2), (0x13, 2), (0x14, 2), (0x15, 1), (0x16, 0), (0x17, 2),
       (0x18, 2), (0x20, 0), (0x21, 0), (0x22, 0), (0x30, 1), (0x31, 1), (0x32, 1), (0x33, 0), (0x34, 2), (0x40, 1), (0x42, 5),
       (0x43, 3), (0x44, 1), (0x45, 4), (0x46, 0), (0x50, 0), (0x51, 0), (0x52, 0), (0x53, 0), (0x54, 0), (0x60, 0), (0x61, 0),
       (0x62, 0), (0x63, 1), (0x65, 0), (0x70, 0), (0x71, 2)]
    let counted : List Byte := [0x41, 0x64, 0x72]
    (∀ code : Byte, catalogHas code = true ↔ code ∈ sized.map Prod.fst ∨ code ∈ counted) ∧
    (∀ x ∈ sized, ∀ args : List Byte, args.length ≠ x.2 → decodeRequest x.1 args = .error .badLength) ∧
    decodeRequest 0x41 [] = .error .badLength ∧
    (∀ (n : Byte) (points : List Byte), points.length ≠ 5 * n.toNat → decodeRequest 0x41 (n :: points) = .error .badLength) ∧
    (∀ args : List Byte, args.length ≠ 0 → args.length ≠ 6 → decodeRequest 0x72 args = .error .badLength) ∧
    decodeRequest 0x64 [] = .error .badLength ∧
    (∀ (n : Byte) (value : List Byte),
      let width := if n.toNat ∈ [5, 7, 8, 9, 10, 15, 27, 28] then 1 else if n.toNat = 29 then 6 else 2
      let fills := if n.toNat = 18 then 5 * (value.headD 0).toNat + 1 = value.length else value.length = width
      (n.toNat = 0 ∨ 29 < n.toNat → decodeRequest 0x64 (n :: value) = .error .badArgument) ∧
      (1 ≤ n.toNat → n.toNat ≤ 29 → ¬fills → decodeRequest 0x64 (n :: value) = .error .badLength))) ∧
  ((∀ (s : State) (code : Byte) (args : List Byte) (c : Instr), args.length ≤ 40 →
    (heldArgs code s.port ++ args).length ≤ 96 → decodeRequest code (heldArgs code s.port ++ args) = .ok c →
    ∃ t, exec (.frame (code :: byte args.length :: args)) s = .next t ∧ exec c s = .next t) ∧
  ∀ s : State, exec (.frame []) s = .next s)

/-- R178: a frame with the more-follows mark starts an assembly or is appended to the one of its code, and is answered with the bytes now held; it
changes nothing else. R176: the address by the strap; the port acknowledges it for writes and reads, acknowledges every data byte of a write at it, and
acknowledges neither the general call nor any other address, whose transfers do not reach it; FRAME is the write at its address, and a read before the
stop condition of a write returns the reply held before the write. R176, R179: what a read transfer returns: status, payload length, payload, then
0xFF; NO_REPLY when no reply is held. That a part without supply acknowledges nothing is the model's reading of R112 (notes/assumptions/21.md). -/
def Obligations.LongRequestsAndReadTransfers : Prop :=
  (∀ (s : State) (code : Byte) (args : List Byte), Alive s → args.length ≤ 40 → catalogHas code = true →
    let held := match s.port.assembly with
      | some a => if a.code = code then a.args ++ args else args
      | none => args
    (held.length ≤ 96 →
      exec (.moreFollowsFrame code args) s = .next (finish { s with port := { s.port with
        assembly := some { code := code, args := held }, reply := some (okReply [byte held.length]) } })) ∧
    (96 < held.length → exec (.moreFollowsFrame code args) s = .next (refusedWith .badLength s)) ∧
    exec (.frame (code :: byte (0x80 + args.length) :: args)) s = exec (.moreFollowsFrame code args) s) ∧
  (∀ p : PortRec, portAddress p = if p.strapHigh then 0x3B else 0x3A) ∧
  (∀ (s : State) (address length : Nat) (bytes : List Byte),
    acknowledges 0 s = false ∧
    writeThenRead address bytes length s = (readTransferAt address length s, writeTransfer address bytes s) ∧
    (Alive s → address = portAddress s.port →
      acknowledges address s = true ∧ writeAcknowledges address bytes s = (true, List.replicate bytes.length true) ∧
      writeTransfer address bytes s = exec (.frame bytes) s ∧
      readTransferAt address length s = some (readTransfer s.port length)) ∧
    (s.power = .stopped ∨ address ≠ portAddress s.port →
      acknowledges address s = false ∧ writeAcknowledges address bytes s = (false, List.replicate bytes.length false) ∧
      writeTransfer address bytes s = .next s ∧ readTransferAt address length s = none)) ∧
  (∀ (p : PortRec) (r : Reply) (n : Nat), p.reply = some r →
    readTransfer p (2 + r.payload.length + n) =
      r.status.code :: byte r.payload.length :: (r.payload ++ List.replicate n 0xFF)) ∧
  (∀ (p : PortRec) (n : Nat), p.reply = none → readTransfer p (2 + n) = 0xFE :: 0x00 :: List.replicate n 0xFF)

/-- 9.4, R187 to R189: every request that a host can spell is read back from its code and arguments as it was. -/
def Obligations.RequestsRoundTrip : Prop :=
  ∀ (c : Instr) (code : Byte) (args : List Byte), c.wellFormed = true → requestFrame c = some (code, args) →
    decodeRequest code args = .ok c ∧ args.length ≤ 96

/-! ### Requests that read -/

/-- R87, R113, R136, R154, R184, R188, R191, R200, R201: the requests that read a record answer with its items in their order and change nothing but
the reply: a time in ms, an absent item as its layout writes it, an enumeration by its place in its table. That an absent inlet counts 0 and one not
set the profile default at once is the model's choice (notes/assumptions/16.md). -/
def Obligations.StatusReadsChangeNothing : Prop :=
  (∀ s : State, Alive s →
    let answers : List Byte → Result := fun bytes => .next (answered (okReply bytes) s)
    let flag : Bool → Byte := fun x => if x then 1 else 0
    let opt1 : Option Nat → Byte := fun o => o.elim 0xFF byte
    let opt2 : Option Nat → List Byte := fun o => o.elim [0xFF, 0xFF] (leBytes 2)
    let opt3 : Option Nat → List Byte := fun o => o.elim [0xFF, 0xFF, 0xFF] (leBytes 3)
    let time : Option Nat → List Byte := fun o => o.elim [0xFF, 0xFF, 0xFF, 0xFF] fun t => leBytes 4 (t / 2)
    let condition : Option Condition → List Byte := fun o =>
      o.elim [0, 0, 0, 0] fun c => [byte c.state.code] ++ leBytes 2 c.capability ++ [byte c.request.code]
    let sensor : Sensor → List Byte := fun x => [flag x.failed, byte x.failedReads] ++ opt3 x.last
    let curve : List Point → List Byte := fun ps => byte ps.length :: ps.flatMap fun p => leBytes 3 p.lux ++ leBytes 2 p.level
    (∀ b, let r := s.bay b
      exec (.bayStatus (bayCode b)) s = answers (
        [byte (bayCode b), byte r.state.code, byte (leverCode r.leverInput), byte (leverCode r.leverTaken), byte r.contact.code,
         opt1 (r.link.map LinkStep.code), byte r.goodRun, byte r.missRun] ++
        condition r.candidate ++ condition r.accepted ++ [opt1 r.charge, flag r.exhausted] ++ leBytes 2 r.counted ++
        [byte (policyCode r.policy), opt1 (r.cause.map Cause.code)] ++ time r.ejectWindow ++ time r.probeTimer ++
        time r.stepTimer ++ time (r.requalify.map Requalify.remaining) ++ opt2 (r.requalify.map Requalify.held) ++
        [flag (decide (r.state = .online ∨ r.state = .withdrawing)), flag (decide (r.state = .released ∨ r.state = .faulted)),
         s.attention.sets[baySource b],
         if s.supply.slot = some b then 1 else if s.supply.waiting = some b then 2 else 0])) ∧
    (∀ n, 2 ≤ n → exec (.bayStatus n) s = .next (refusedWith .badArgument s)) ∧
    (let r := s.supply
     exec .supplyStatus s = answers (
       [byte r.mode.code] ++ leBytes 2 r.ceiling ++ leBytes 2 r.sourceSum ++
       [flag r.bridgeCounted, flag r.carrying, byte r.reserve] ++ time r.drainTimer ++ time r.refillTimer ++
       [opt1 (r.slot.map bayCode), opt1 (r.phase.map Phase.code), opt1 (r.waiting.map bayCode),
        opt1 (r.waitReason.map WaitReason.code), flag r.inletPresent] ++
       leBytes 2 (if r.inletPresent then r.inletSet.getD s.store.working.inletDefault else 0) ++ [flag r.inletSet.isSome] ++
       leBytes 2 r.totalHeld ++ [flag s.load.overcommit, s.attention.sets[supplySource]])) ∧
    (let r := s.light
     exec (.lightStatus 0) s = answers (
       sensor r.front ++ sensor r.rear ++ [byte r.window.length] ++ opt3 r.estimate ++ leBytes 2 r.target ++
       [byte r.source.code] ++
       r.pin.elim [0xFF, 0xFF, 0xFF, 0xFF, 0xFF, 0xFF] (fun pin => leBytes 2 pin.level ++
         pin.remaining.elim [0xFE, 0xFF, 0xFF, 0xFF] fun t => leBytes 4 (t / 2)) ++
       [flag r.panelOn] ++ leBytes 2 r.claimSent.requested ++ leBytes 2 r.claimSent.minimum ++ [flag r.inFlight] ++
       leBytes 2 r.grantTaken ++ leBytes 2 r.cap ++ [flag r.capped] ++ leBytes 2 r.destination ++ leBytes 2 r.output ++
       [byte r.ramp.code, flag r.freeze, s.attention.sets[lightSource]])) ∧
    exec (.lightStatus 1) s = answers (curve s.light.curve) ∧
    (∀ n, 2 ≤ n → exec (.lightStatus n) s = .next (refusedWith .badArgument s)) ∧
    (let m := s.motion
     let e := s.episode
     exec .fallStatus s = answers (
       [flag m.armed, byte m.state.code] ++ leBytes 2 m.lowCount ++ leBytes 2 m.quietCount ++
       [byte m.missedCount, byte (classCode m.cls), flag m.faultInFall] ++ opt2 m.lastMagnitude ++
       [byte e.state.code, byte (classCode e.cls)] ++ (List.finRange 4).map (fun n => byte e.lines[n].state.code) ++
       [s.attention.sets[fallSource]])) ∧
    (let pending := (List.finRange 30).filter fun i => s.attention.sets[i] != 0
     exec .summary s = answers (
       flag (decide (∃ i : Fin 30, s.attention.sets[i] &&& ~~~(maskAt s.attention.masks i) ≠ 0)) :: byte pending.length ::
       pending.flatMap fun i => [byte i.val, s.attention.sets[i]])) ∧
    (let p := s.store.working
     let settings : List (List Byte) :=
       [leBytes 2 p.allowance, leBytes 2 p.margin, leBytes 2 p.startThreshold, leBytes 2 p.throttleGrace, [byte p.holdoff],
        leBytes 2 p.inletDefault, [byte (policyCode p.policyA)], [byte (policyCode p.policyB)], [byte p.lowCharge],
        [byte p.bridgeMinimum], leBytes 2 p.p0, leBytes 2 p.pfull, leBytes 2 p.minLevel, leBytes 2 p.failsafeLevel,
        [byte p.rearFactor], leBytes 2 p.upStep, leBytes 2 p.downStep, curve p.defaultCurve, leBytes 2 p.lowThreshold,
        leBytes 2 p.quietFloor, leBytes 2 p.quietCeiling, leBytes 2 p.lightThreshold, leBytes 2 p.hardThreshold,
        leBytes 2 p.qualifyCount, leBytes 2 p.settleCount, leBytes 2 p.parkTimeout, [byte p.protectionMode.code],
        [flag p.armedAtStart],
        [p.masks.entry, p.masks.bay, p.masks.supply, p.masks.light, p.masks.fall, p.masks.part]]
     (∀ k bytes, settings[k]? = some bytes → exec (.profileRead (k + 1)) s = answers bytes) ∧
     (∀ n, n = 0 ∨ 29 < n → exec (.profileRead n) s = .next (refusedWith .badArgument s)))) ∧
  ([BayState.empty, .probing, .qualified, .online, .withdrawing, .released, .faulted].map BayState.code = List.range 7 ∧
   [Lever.locked, .opened].map leverCode = [0, 1] ∧ [Contact.made, .lost].map Contact.code = [0, 1] ∧
   [LinkStep.seeking, .inStep, .outOfStep, .lost].map LinkStep.code = List.range 4 ∧
   [PackState.ready, .fault].map PackState.code = [1, 2] ∧
   [PackRequest.none, .reduce, .disconnect].map PackRequest.code = List.range 3 ∧
   [Policy.act, .refer].map policyCode = [0, 1] ∧ [Cause.lever, .eject, .disconnect].map Cause.code = List.range 3 ∧
   [Bay.bayA, .bayB].map bayCode = [0, 1] ∧ [SupplyMode.steady, .withdrawal, .bridging].map SupplyMode.code = List.range 3 ∧
   [Phase.blocked, .clearing, .opened].map Phase.code = List.range 3 ∧
   [WaitReason.lever, .disconnect].map WaitReason.code = [0, 1] ∧
   [TargetSource.off, .pin, .failsafe, .curve].map TargetSource.code = List.range 4 ∧
   [Ramp.idle, .rising, .falling].map Ramp.code = List.range 3 ∧
   [MotionState.off, .level, .suspect, .falling, .impact, .settling, .fault].map MotionState.code = List.range 7 ∧
   [ImpactClass.none, .light, .hard].map classCode = List.range 3 ∧
   [EpisodeState.idle, .protecting, .holding, .recovering].map EpisodeState.code = List.range 4 ∧
   [LineState.idle, .requested, .done, .failed].map LineState.code = List.range 4 ∧
   [ProtectionMode.auto, .hold].map ProtectionMode.code = [0, 1])

/-! ### The load requests -/

/-- R5: a handle names a live slot whose generation it carries, and no other. R19 to R22, R56, R57, R203: the requests that read the table answer
from it as the resets handed to the Load Manager before have left it (notes/assumptions/17.md), and change nothing but the reply; in DARK and
STARTING the Draft List they find is empty. R190, R191: the bytes of QUERY and of DRAFT_READ, and the codes in them (R188). -/
def Obligations.HandlesAndReadsOfTheTable : Prop :=
  ((∀ (L : LoadRec) (h : Handle) (i : Slot) (e : Entry),
    L.lookup h = some (i, e) ↔ h.slot = i.val ∧ L.entry i = some e ∧ L.slots[i].generation = h.generation) ∧
  ∀ (L : LoadRec) (i : Slot) (e : Entry), L.entry i = some e → L.lookup (L.handleOf i) = some (i, e)) ∧
  (∀ s : State, let m := atLoadManager s
    let opt2 : Option Nat → List Byte := fun o => o.elim [0xFF, 0xFF] (leBytes 2)
    let handle : Handle → List Byte := fun h => [byte h.slot, byte h.generation]
    let handles : List Handle → List Byte := fun hs => byte hs.length :: hs.flatMap handle
    let change : Change → List Byte := fun c => match c with
      | .admitEntry a => [0x90, byte a.kind, byte a.rank] ++ leBytes 2 a.requested ++ leBytes 2 a.tag ++ [byte a.rail] ++
          leBytes 2 a.minimum ++ [byte a.fallAction] ++ leBytes 2 a.leasePeriod
      | .revise a => [0x91] ++ handle a.handle ++ [a.named, byte a.rank] ++ leBytes 2 a.requested ++ leBytes 2 a.minimum ++
          leBytes 2 a.tag ++ [byte a.fallAction] ++ leBytes 2 a.leasePeriod ++ [byte a.rail]
      | .release h => 0x92 :: handle h
    Alive m →
    (.loadManagerPartReset ∉ s.handed → .loadManagerSystemOffClear ∉ s.handed → m = s) ∧
    (∀ h i e, m.load.lookup h = some (i, e) → exec (.query h) s = .next (answered (okReply (
      [byte i.val, byte m.load.slots[i].generation] ++ leBytes 2 e.tag ++
      [byte e.kind.code, e.rail.elim 0xFF (fun r => byte r.val), byte e.rank] ++ leBytes 2 e.requested ++ leBytes 2 e.minimum ++
      leBytes 2 e.granted ++ leBytes 2 e.counted ++ [byte e.state.code] ++ leBytes 4 e.sequence ++
      [byte (fallActionCode e.fallAction), byte e.mark.code] ++ leBytes 2 (e.lease.elim 0 Lease.period) ++
      opt2 (e.lease.map fun l => l.remaining / 200) ++ opt2 (e.holdoff.map fun t => t / 2) ++ opt2 (e.grace.map Grace.value) ++
      opt2 (e.grace.map fun g => g.remaining / 2) ++ [m.attention.sets[entrySource i]])) m)) ∧
    (∀ h, m.load.lookup h = none → exec (.query h) s = .next (refusedWith .staleHandle m)) ∧
    (∀ tag, exec (.findTag tag) s = .next (answered (okReply (handles
      (((List.finRange 24).filter fun i => (m.load.entry i).any fun e => e.tag == tag).map m.load.handleOf))) m)) ∧
    (∀ (r : Fin 12) i e, m.load.entry i = some e → e.rail = some r →
      (∀ j ej, m.load.entry j = some ej → ej.rail = some r → j = i) →
      exec (.findRail r.val) s = .next (answered (okReply (handle (m.load.handleOf i))) m)) ∧
    (∀ r : Fin 12, (∀ i e, m.load.entry i = some e → e.rail ≠ some r) →
      exec (.findRail r.val) s = .next (answered (okReply [0xFF, 0xFF]) m)) ∧
    (∀ n, 12 ≤ n → exec (.findRail n) s = .next (refusedWith .badArgument m)) ∧
    exec .order s = .next (answered (okReply (handles (m.load.order.map m.load.handleOf))) m) ∧
    exec .draftRead s = .next (answered (okReply (byte m.load.draft.length ::
      (m.load.draft.zipIdx 1).flatMap fun x => byte x.2 :: change x.1)) m) ∧
    (DraftLaw s → s.system.state = .dark ∨ s.system.state = .starting →
      exec .draftRead s = .next (answered (okReply [0]) m))) ∧
  ([Kind.switched, .throttled, .backlight].map Kind.code = [1, 2, 3] ∧
   [EntryState.pending, .granted, .reduced, .shed, .lapsed, .held].map EntryState.code = [1, 2, 3, 4, 5, 6] ∧
   [Mark.clear, .parking, .parked, .parkFailed].map Mark.code = [0, 1, 2, 3] ∧
   fallActionCode none = 0x00 ∧ (∀ n : Line, fallActionCode (some (.park n)) = 0x10 + n.val) ∧ fallActionCode (some .cut) = 0x20)

/-- R16: the record that the arguments of an ADMIT give, by the kind, and the arguments that give none. R10, R13, R14: an admission gives the entry
the counter's value and advances the counter; at 4294967295 the live host entries are renumbered first, in the order of their sequences, slot 0
keeping its own. The entry joins the Grant Order where its rank and sequence place it, the others keeping their order. -/
def Obligations.AdmittedRecordAndItsNumber : Prop :=
  ((∀ (a : AdmitArgs) (r : Fin 12) (fall : Option FallAction), a.kind = 1 → a.rank ≤ 7 → 1 ≤ a.requested → a.requested ≤ 800 →
    a.rail = r.val → (a.minimum = 0xFFFF ∨ a.minimum = a.requested) → a.fallAction = fallActionCode fall → a.leasePeriod ≤ 600 →
    admitRecord a = some {
      tag := a.tag, kind := .switched, rail := some r, rank := a.rank, requested := a.requested, minimum := a.requested,
      granted := 0, counted := 0, state := .pending, sequence := 0, fallAction := fall, mark := .clear,
      lease := if a.leasePeriod = 0 then none else some { period := a.leasePeriod, remaining := sec a.leasePeriod },
      holdoff := none, grace := none }) ∧
  (∀ (a : AdmitArgs) (fall : Option FallAction), a.kind = 2 → a.rank ≤ 7 → 1 ≤ a.requested → a.requested ≤ 800 →
    a.rail = 0xFF → 1 ≤ a.minimum → a.minimum ≤ a.requested → a.fallAction = fallActionCode fall → fall ≠ some .cut →
    a.leasePeriod ≤ 600 →
    admitRecord a = some {
      tag := a.tag, kind := .throttled, rail := none, rank := a.rank, requested := a.requested, minimum := a.minimum,
      granted := 0, counted := 0, state := .pending, sequence := 0, fallAction := fall, mark := .clear,
      lease := if a.leasePeriod = 0 then none else some { period := a.leasePeriod, remaining := sec a.leasePeriod },
      holdoff := none, grace := none }) ∧
  (∀ a : AdmitArgs, (admitRecord a).isSome = true →
    a.rank ≤ 7 ∧ 1 ≤ a.requested ∧ a.requested ≤ 800 ∧ a.leasePeriod ≤ 600 ∧
    ∃ fall : Option FallAction, a.fallAction = fallActionCode fall ∧
      ((a.kind = 1 ∧ a.rail < 12 ∧ (a.minimum = 0xFFFF ∨ a.minimum = a.requested)) ∨
       (a.kind = 2 ∧ a.rail = 0xFF ∧ 1 ≤ a.minimum ∧ a.minimum ≤ a.requested ∧ fall ≠ some .cut)))) ∧
  (∀ (L : LoadRec) (i : Slot) (e : Entry), i ≠ 0 → L.entry i = none → i ∉ L.order →
    let live := (List.finRange 24).filter fun j => j != 0 && (L.entry j).isSome
    (L.counter ≠ 4294967295 →
      (L.place i e).counter = L.counter + 1 ∧ (L.place i e).entry i = some { e with sequence := L.counter } ∧
      ∀ j, j ≠ i → (L.place i e).entry j = L.entry j) ∧
    (L.counter = 4294967295 →
      (L.place i e).counter = live.length + 2 ∧ (L.place i e).entry i = some { e with sequence := live.length + 1 } ∧
      (∀ j ej, j ≠ i → j ≠ 0 → L.entry j = some ej → (L.place i e).entry j = some { ej with
        sequence := (live.filter fun k => (L.entry k).any fun ek => decide (ek.sequence < ej.sequence)).length + 1 }) ∧
      (L.place i e).entry 0 = L.entry 0) ∧
    (L.place i e).order.erase i = L.order ∧ i ∈ (L.place i e).order ∧
    (GrantOrderLaw L → (L.place i e).order.Pairwise fun j k =>
      ∃ ej ek, (L.place i e).entry j = some ej ∧ (L.place i e).entry k = some ek ∧
        (ej.rank < ek.rank ∨ (ej.rank = ek.rank ∧ ej.sequence < ek.sequence))) ∧
    (∀ j : Slot, (L.place i e).slots[j].generation = L.slots[j].generation))

/-- R15, R16: ADMIT is refused in the order of R15, or takes the lowest FREE slot from 1 upward and runs the walk. -/
def Obligations.AdmitTakesTheLowestFreeSlot : Prop :=
  ∀ (s : State) (a : AdmitArgs),
    let m := atLoadManager s
    Alive m →
    (m.system.state ≠ .run → exec (.admitEntry a) s = .next (refusedWith .notRunning m)) ∧
    (m.system.state = .run →
      (admitRecord a = none → exec (.admitEntry a) s = .next (refusedWith .badArgument m)) ∧
      ∀ e, admitRecord a = some e →
        ((∀ i : Slot, i ≠ 0 → (m.load.entry i).isSome = true) → exec (.admitEntry a) s = .next (refusedWith .tableFull m)) ∧
        ∀ i : Slot, i ≠ 0 → m.load.entry i = none → (∀ j : Slot, j ≠ 0 → j < i → (m.load.entry j).isSome = true) →
          ((∃ j ej, m.load.entry j = some ej ∧ e.rail.isSome = true ∧ ej.rail = e.rail) →
            exec (.admitEntry a) s = .next (refusedWith .railTaken m)) ∧
          ((∀ j ej, m.load.entry j = some ej → e.rail.isSome = true → ej.rail ≠ e.rail) →
            exec (.admitEntry a) s = .next (answered (okReply (handleBytes { slot := i.val, generation := m.load.slots[i].generation }))
              (walkedEvent m { m with load := m.load.place i e }))))

/-- R3, R6, R11, R15, R17: REVISE is refused in the order of R15: by the handle, by the ranges of the values it names and by what the kind allows,
by the state of the entry, by the rail; or its named fields take their values, and the walk runs when it names rank, requested or minimum of a
member. That the named minimum of a SWITCHED entry is accepted when it equals the requested power that results is the model's choice
(notes/assumptions/15.md). R10, R17: the record that an accepted REVISE leaves, field by field; the other entries stay as they are, and the entry
stands where its rank and sequence place it. -/
def Obligations.ReviseIsCheckedAndSetsItsFields : Prop :=
  (∀ (s : State) (a : ReviseArgs),
    let m := atLoadManager s
    let names : Nat → Prop := fun k => a.named.getLsbD k = true
    let inRange := a.named ≠ 0 ∧ ¬names 7 ∧ (names 0 → a.rank ≤ 7) ∧ (names 1 → 1 ≤ a.requested ∧ a.requested ≤ 800) ∧
      (names 2 → 1 ≤ a.minimum ∧ a.minimum ≤ 800) ∧
      (names 4 → ∃ fall : Option FallAction, a.fallAction = fallActionCode fall) ∧
      (names 5 → a.leasePeriod ≤ 600) ∧ (names 6 → a.rail < 12)
    Alive m →
    (m.system.state ≠ .run → exec (.revise a) s = .next (refusedWith .notRunning m)) ∧
    (m.system.state = .run →
      (m.load.lookup a.handle = none → exec (.revise a) s = .next (refusedWith .staleHandle m)) ∧
      ∀ i e, m.load.lookup a.handle = some (i, e) →
        let q := if a.named.getLsbD 1 then a.requested else e.requested
        let k := if a.named.getLsbD 2 then a.minimum else if e.kind = .switched then q else e.minimum
        let fits := (e.kind = .switched → k = q) ∧
          (e.kind = .throttled → ¬names 6 ∧ k ≤ q ∧ ¬(names 4 ∧ a.fallAction = fallActionCode (some .cut))) ∧
          (e.kind = .backlight → ¬names 1 ∧ ¬names 2 ∧ ¬names 4 ∧ ¬names 6)
        let held := ((names 1 ∨ names 2) ∧ e.grace.isSome = true) ∨ (names 4 ∧ e.mark ≠ .clear) ∨
          (names 5 ∧ a.leasePeriod = 0 ∧ e.state = .lapsed)
        let taken := names 6 ∧ ∃ (r : Fin 12) (j : Slot) (ej : Entry), a.rail = r.val ∧ m.load.entry j = some ej ∧
          ej.rail = some r ∧ j ≠ i
        (¬(inRange ∧ fits) → exec (.revise a) s = .next (refusedWith .badArgument m)) ∧
        (inRange → fits → held → exec (.revise a) s = .next (refusedWith .wrongState m)) ∧
        (inRange → fits → ¬held → taken → exec (.revise a) s = .next (refusedWith .railTaken m)) ∧
        (inRange → fits → ¬held → ¬taken →
          let u := { m with load := m.load.revise i a e }
          exec (.revise a) s = .next (answered (okReply []) (handLoadResults m.load false
            (if e.state.isMember = true ∧
                (a.named.getLsbD 0 = true ∨ a.named.getLsbD 1 = true ∨ a.named.getLsbD 2 = true)
             then runWalk u else u)))))) ∧
  (∀ (L : LoadRec) (i : Slot) (a : ReviseArgs) (e : Entry), L.entry i = some e →
    (∀ j, j ≠ i → (L.revise i a e).entry j = L.entry j) ∧
    ((L.revise i a e).order.filter fun j => j != i) = L.order.filter (fun j => j != i) ∧
    (GrantOrderLaw L → (∀ j, j ∈ (L.revise i a e).order ↔ j ∈ L.order) ∧ (L.revise i a e).order.Pairwise fun j k =>
      ∃ ej ek, (L.revise i a e).entry j = some ej ∧ (L.revise i a e).entry k = some ek ∧
        (ej.rank < ek.rank ∨ (ej.rank = ek.rank ∧ ej.sequence < ek.sequence))) ∧
    ∃ e', (L.revise i a e).entry i = some e' ∧
      e'.rank = (if a.named.getLsbD 0 then a.rank else e.rank) ∧
      e'.requested = (if a.named.getLsbD 1 then a.requested else e.requested) ∧
      (a.named.getLsbD 2 = true → e'.minimum = a.minimum) ∧
      (a.named.getLsbD 2 = false → e'.minimum = if e.kind = .switched then e'.requested else e.minimum) ∧
      e'.tag = (if a.named.getLsbD 3 then a.tag else e.tag) ∧
      (a.named.getLsbD 4 = false → e'.fallAction = e.fallAction) ∧
      (∀ fall, a.named.getLsbD 4 = true → a.fallAction = fallActionCode fall → e'.fallAction = fall) ∧
      (a.named.getLsbD 5 = false → e'.lease = e.lease) ∧
      (a.named.getLsbD 5 = true → e.state ≠ .lapsed → e'.lease = if a.leasePeriod = 0 then none else
        some { period := a.leasePeriod, remaining := sec a.leasePeriod }) ∧
      (a.named.getLsbD 5 = true → e.state = .lapsed → e'.lease = some { period := a.leasePeriod, remaining := 0 }) ∧
      (a.named.getLsbD 6 = false → e'.rail = e.rail) ∧
      (∀ r : Fin 12, a.named.getLsbD 6 = true → a.rail = r.val → e'.rail = some r) ∧
      e'.kind = e.kind ∧ e'.granted = e.granted ∧ e'.counted = e.counted ∧ e'.state = e.state ∧ e'.sequence = e.sequence ∧
      e'.mark = e.mark ∧ e'.holdoff = e.holdoff ∧ e'.grace = e.grace)

/-- R18: RELEASE retires the entry: the slot is FREE with its generation advanced, out of the Grant Order, its reasons cleared, and the walk runs;
slot 0 and a stale handle are refused. -/
def Obligations.ReleaseRetiresTheEntry : Prop :=
  ∀ (s : State) (h : Handle),
    let m := atLoadManager s
    Alive m →
    (m.system.state ≠ .run → exec (.release h) s = .next (refusedWith .notRunning m)) ∧
    (m.system.state = .run →
      (m.load.lookup h = none → exec (.release h) s = .next (refusedWith .staleHandle m)) ∧
      ∀ i e, m.load.lookup h = some (i, e) →
        (i = 0 → exec (.release h) s = .next (refusedWith .wrongState m)) ∧
        (i ≠ 0 → exec (.release h) s = .next (answered (okReply []) (walkedEvent m { m with
          load := { m.load with
            slots := m.load.slots.set i { generation := (m.load.slots[i].generation + 1) % 256, entry := none }
            order := m.load.order.filter fun j => j != i }
          attention := m.attention.empty (entrySource i) }))))

/-- R44, R45: CONFIRM and the expiry of a grace each end the grace of the entry in one event, with its counted power at its grant and the walk run;
the expiry raises OVERDUE, and whichever comes second finds no grace. A grace with time remaining, one that the walk of the CONFIRM taken first has
started, does not expire. -/
def Obligations.ConfirmOrExpiryEndsTheGrace : Prop :=
  (∀ (s : State) (h : Handle),
    let m := atLoadManager s
    Alive m →
    (m.load.lookup h = none → exec (.confirm h) s = .next (refusedWith .staleHandle m)) ∧
    ∀ i e, m.load.lookup h = some (i, e) →
      (e.grace = none → exec (.confirm h) s = .next (refusedWith .wrongState m)) ∧
      (∀ g, e.grace = some g → exec (.confirm h) s = .next (answered (okReply [])
        (walkedEvent m { m with load := m.load.setEntry i (some { e with grace := none, counted := e.granted }) })))) ∧
  (∀ (s : State) (i : Slot) (e : Entry), Alive s → s.load.entry i = some e →
    (e.grace = none → exec (.graceExpiry i) s = .next (finish s)) ∧
    (∀ g, e.grace = some g → 0 < g.remaining → exec (.graceExpiry i) s = .next (finish s)) ∧
    (∀ g, e.grace = some g → g.remaining = 0 → exec (.graceExpiry i) s = .next (finish (walkedEvent s
      (({ s with load := s.load.setEntry i (some { e with grace := none, counted := e.granted }) }).raise
        (.entry i .overdue))))))

/-- R59, R60: RENEW restarts a lease with its whole period; a LAPSED entry returns to the Grant Order PENDING with nothing granted, and the walk
runs. -/
def Obligations.RenewRestartsTheLease : Prop :=
  ∀ (s : State) (h : Handle),
    let m := atLoadManager s
    Alive m →
    (m.system.state ≠ .run → exec (.renew h) s = .next (refusedWith .notRunning m)) ∧
    (m.system.state = .run →
      (m.load.lookup h = none → exec (.renew h) s = .next (refusedWith .staleHandle m)) ∧
      ∀ i e, m.load.lookup h = some (i, e) →
        (e.lease = none → exec (.renew h) s = .next (refusedWith .wrongState m)) ∧
        ∀ l, e.lease = some l →
          let back := { e with lease := some { l with remaining := sec l.period } }
          (e.state ≠ .lapsed → exec (.renew h) s =
            .next (answered (okReply []) { m with load := m.load.setEntry i (some back) })) ∧
          (e.state = .lapsed →
            let e' := { back with state := .pending, granted := 0, counted := 0 }
            exec (.renew h) s = .next (answered (okReply [])
              (walkedEvent m { m with load := (m.load.setEntry i (some e')).join i e' }))))

/-- R51: a staged request is checked against its own arguments alone, an ADMIT by its record and a REVISE by the ranges of the values it names,
refused when the list is full, and joins the end of the Draft List; it changes nothing else. R55: DISCARD drops every change of the Draft List
unapplied and answers with their number; it changes nothing else. -/
def Obligations.DraftTakesStagedRequestsAndDiscard : Prop :=
  (∀ (s : State) (x : Instr) (c : Change) (ok : Bool),
    let m := atLoadManager s
    Alive m →
    ((∃ a, x = .stagedAdmit a ∧ c = .admitEntry a ∧ ok = (admitRecord a).isSome) ∨
     (∃ a : ReviseArgs, x = .stagedRevise a ∧ c = .revise a ∧
        let names : Nat → Prop := fun k => a.named.getLsbD k = true
        (ok = true ↔ a.named ≠ 0 ∧ ¬names 7 ∧ (names 0 → a.rank ≤ 7) ∧ (names 1 → 1 ≤ a.requested ∧ a.requested ≤ 800) ∧
          (names 2 → 1 ≤ a.minimum ∧ a.minimum ≤ 800) ∧
          (names 4 → ∃ fall : Option FallAction, a.fallAction = fallActionCode fall) ∧
          (names 5 → a.leasePeriod ≤ 600) ∧ (names 6 → a.rail < 12))) ∨
     (∃ h, x = .stagedRelease h ∧ c = .release h ∧ ok = true)) →
    (m.system.state ≠ .run → exec x s = .next (refusedWith .notRunning m)) ∧
    (m.system.state = .run →
      (ok = false → exec x s = .next (refusedWith .badArgument m)) ∧
      (ok = true →
        (8 ≤ m.load.draft.length → exec x s = .next (refusedWith .draftFull m)) ∧
        (m.load.draft.length < 8 → exec x s = .next (answered (okReply [byte (m.load.draft.length + 1)])
          { m with load := { m.load with draft := m.load.draft ++ [c] } }))))) ∧
  (∀ s : State,
    let m := atLoadManager s
    Alive m →
    (.loadManagerPartReset ∉ s.handed → .loadManagerSystemOffClear ∉ s.handed → m = s) ∧
    exec .discard s = .next (answered (okReply [byte m.load.draft.length]) { m with load := { m.load with draft := [] } }))

/-- R52 to R54: COMMIT applies the changes from the head, each against the table the ones before it left, up to the first that fails; the walk runs
once when one was applied, the rest stay, and the reply says how far it went. R52: a change applied does to the table what the request does when it
is sent alone, less the walk, and fails with the status with which the request sent alone is refused. -/
def Obligations.CommitAppliesUpToTheFirstFailure : Prop :=
  (∀ s : State,
    let m := atLoadManager s
    Alive m →
    (m.system.state ≠ .run → exec .commit s = .next (refusedWith .notRunning m)) ∧
    (m.system.state = .run →
      (m.load.draft = [] → exec .commit s = .next (refusedWith .draftEmpty m)) ∧
      (m.load.draft ≠ [] →
        let r := commitChanges m.load.draft m
        (r.applied = 0 → ∃ st, r.stop = some st ∧
          exec .commit s = .next (answered { status := .partialDone, payload := [0, 0, 1, st.code] } m)) ∧
        (0 < r.applied →
          let u := walkedEvent m { r.state with load := { r.state.load with draft := r.rest } }
          let done := byte r.applied :: handleList r.handles
          (r.stop = none → exec .commit s = .next (answered { status := .ok, payload := done } u)) ∧
          (∀ st, r.stop = some st → exec .commit s =
            .next (answered { status := .partialDone, payload := done ++ [byte (r.applied + 1), st.code] } u)))))) ∧
  (∀ (cs : List Change) (s : State),
    (commitChanges cs s).rest = cs.drop (commitChanges cs s).applied ∧
    ((commitChanges cs s).stop = none ↔ (commitChanges cs s).rest = []) ∧
    (cs = [] → (commitChanges cs s).state = s ∧ (commitChanges cs s).applied = 0 ∧ (commitChanges cs s).handles = []) ∧
    (∀ c s' hs, applyChange c s = .ok (s', hs) →
      (commitChanges (c :: cs) s).state = (commitChanges cs s').state ∧
      (commitChanges (c :: cs) s).applied = (commitChanges cs s').applied + 1 ∧
      (commitChanges (c :: cs) s).handles = hs ++ (commitChanges cs s').handles) ∧
    (∀ c st, applyChange c s = .error st →
      (commitChanges (c :: cs) s).state = s ∧ (commitChanges (c :: cs) s).applied = 0 ∧
      (commitChanges (c :: cs) s).handles = [] ∧ (commitChanges (c :: cs) s).stop = some st)) ∧
  (∀ (c : Change) (s : State),
    let m := atLoadManager s
    let alone : Instr := match c with
      | .admitEntry a => .admitEntry a
      | .revise a => .revise a
      | .release h => .release h
    let walks := ∀ a, c = .revise a → ∃ x, m.load.lookup a.handle = some x ∧ x.2.state.isMember = true ∧
      (a.named.getLsbD 0 = true ∨ a.named.getLsbD 1 = true ∨ a.named.getLsbD 2 = true)
    Alive m → m.system.state = .run →
    (∀ st, applyChange c m = .error st → exec alone s = .next (refusedWith st m)) ∧
    (∀ u hs, applyChange c m = .ok (u, hs) →
      (walks → exec alone s = .next (answered (okReply (hs.flatMap handleBytes)) (walkedEvent m u))) ∧
      (¬walks → exec alone s = .next (answered (okReply (hs.flatMap handleBytes)) (handLoadResults m.load false u)))))

/-! ### The events of the Load Manager -/

/-- R7, R26, R38: a ceiling or a slot 0 claim that changes what the walk reads replaces it and runs the walk; one that does not changes nothing. A
claim is answered with slot 0's grant either way. R40, R61: a holdoff that runs out is removed and the walk runs; a lease that has run out makes its
entry LAPSED, out of the Grant Order with nothing granted or counted, with LAPSED raised, and the walk runs. R59, R62: a lease with time remaining,
because a RENEW or a REVISE has started it again, does not lapse. -/
def Obligations.CeilingClaimHoldoffAndLeaseRunTheWalk : Prop :=
  ((∀ (s : State) (c : Nat), Alive s → Foremost (.ceilingHandover c) s →
    let m := s.take (.ceilingHandover c)
    (c = s.load.ceiling → exec (.ceilingHandover c) s = .next (finish m)) ∧
    (c ≠ s.load.ceiling → exec (.ceilingHandover c) s =
      .next (finish (walkedEvent m { m with load := { m.load with ceiling := c } })))) ∧
  (∀ (s : State) (r k : Nat) (e : Entry), Alive s → Foremost (.slot0Claim r k) s → s.load.entry 0 = some e →
    let m := s.take (.slot0Claim r k)
    let q := min r 800
    let e' := { e with
      requested := q
      minimum := min k q
      holdoff := if q = 0 then none else e.holdoff
      state := if q = 0 ∧ e.state.isMember = true then .pending else e.state }
    let u := { m with load := m.load.setEntry 0 (some e') }
    (q = e.requested ∧ min k q = e.minimum → exec (.slot0Claim r k) s = .next (finish (handLoadResults m.load true m))) ∧
    (¬(q = e.requested ∧ min k q = e.minimum) → e.state = .lapsed →
      exec (.slot0Claim r k) s = .next (finish (handLoadResults m.load true u))) ∧
    (¬(q = e.requested ∧ min k q = e.minimum) → e.state ≠ .lapsed →
      exec (.slot0Claim r k) s = .next (finish (handLoadResults m.load true (runWalk u)))) ∧
    ∃ t, exec (.slot0Claim r k) s = .next t ∧ .slot0GrantHandoff t.load.slot0Grant true ∈ t.handed)) ∧
  (∀ (s : State) (i : Slot) (e : Entry), Alive s → s.load.entry i = some e →
    (e.holdoff = none → exec (.holdoffExpiry i) s = .next (finish s)) ∧
    (e.holdoff ≠ none → exec (.holdoffExpiry i) s =
      .next (finish (walkedEvent s { s with load := s.load.setEntry i (some { e with holdoff := none }) }))) ∧
    (e.lease = none ∨ e.state = .lapsed → exec (.lapse i) s = .next (finish s)) ∧
    (∀ l, e.lease = some l → 0 < l.remaining → exec (.lapse i) s = .next (finish s)) ∧
    (∀ l, e.lease = some l → l.remaining = 0 → e.state ≠ .lapsed →
      let e' := { e with grace := none, holdoff := none, granted := 0, counted := 0, state := .lapsed }
      exec (.lapse i) s = .next (finish (walkedEvent s
        (({ s with load := { s.load.setEntry i (some e') with order := s.load.order.filter fun j => j != i } }).raise
          (.entry i .lapsed))))))

/-- R159: a protect claim sets the freeze, marks every granted PARK entry PARKING, cuts every granted CUT entry to HELD with HELD raised, and
answers with the lines of the granted PARK entries, each once. That the answer names them in ascending order is the model's choice
(notes/assumptions/27.md). -/
def Obligations.ProtectClaimMarksAndCuts : Prop :=
  ∀ s : State, Alive s → Foremost .protectClaim s → ∃ t, exec .protectClaim s = .next t ∧ t.load.freeze = true ∧
    .protectAnswer ((List.finRange 4).filter fun n =>
      (List.finRange 24).any fun i => (s.load.entry i).any fun e => decide (0 < e.granted ∧ e.fallAction = some (.park n))) ∈
      t.handed ∧
    ∀ i e, s.load.entry i = some e →
      (0 < e.granted → e.fallAction = some .cut → Pending (.entry i .held) t ∧ i ∉ t.load.order ∧
        t.load.entry i = some { e with state := .held, granted := 0, counted := 0, holdoff := none }) ∧
      ∃ e', t.load.entry i = some e' ∧ e'.granted ≤ e.granted ∧
        (∀ n, 0 < e.granted → e.fallAction = some (.park n) → e'.mark = .parking) ∧
        ((e.granted = 0 ∨ ∀ n, e.fallAction ≠ some (.park n)) → e'.mark = e.mark)

/-- R164, R165: a line done claim marks the PARKING entries of its line PARKED; a line failed claim marks them PARK_FAILED with the reason raised
and cuts the SWITCHED ones; a late claim raises PARK_LATE at every PARKING entry. -/
def Obligations.LineClaimsMarkTheEntries : Prop :=
  (∀ (s : State) (n : Line), Alive s → Foremost (.lineDoneClaim n) s →
    let m := s.take (.lineDoneClaim n)
    let parked : Slot → Entry → Entry := fun _ e =>
      if e.fallAction = some (.park n) ∧ e.mark = .parking then { e with mark := .parked } else e
    exec (.lineDoneClaim n) s = .next (finish { m with load := m.load.mapEntries parked })) ∧
  (∀ (s : State) (n : Line), Alive s → Foremost (.lineFailedClaim n) s → ∃ t, exec (.lineFailedClaim n) s = .next t ∧
    ∀ i e, s.load.entry i = some e →
      (e.fallAction = some (.park n) → e.mark = .parking → Pending (.entry i .parkFailed) t ∧
        (e.kind = .switched → e.state = .pending ∨ e.state = .granted ∨ e.state = .shed →
          Pending (.entry i .held) t ∧ i ∉ t.load.order ∧ t.load.entry i =
            some { e with mark := .parkFailed, state := .held, granted := 0, counted := 0, holdoff := none })) ∧
      ∃ e', t.load.entry i = some e' ∧
        e'.mark = if e.fallAction = some (.park n) ∧ e.mark = .parking then .parkFailed else e.mark) ∧
  (∀ s : State, Alive s → Foremost .lateClaim s → exec .lateClaim s = .next (finish ((s.take .lateClaim).raiseAll
    (((List.finRange 24).filter fun i => (s.load.entry i).any fun e => e.mark == .parking).map fun i => .entry i .parkLate))))

/-- R33: a lift claim while the freeze is set lifts it and runs the walk; one while it is lifted changes nothing. R169: the cut return claim returns
every HELD entry whose mark is CLEAR; the line return claim clears the marks of its line and returns its HELD entries. Under the freeze each
returned entry stands SHED without holdoff, and no other HELD entry is returned. -/
def Obligations.ReturnAndLiftClaims : Prop :=
  (∀ s : State, Alive s → Foremost .liftClaim s →
    let m := s.take .liftClaim
    (s.load.freeze = true → exec .liftClaim s =
      .next (finish (walkedEvent m { m with load := { m.load with freeze := false } }))) ∧
    (s.load.freeze = false → exec .liftClaim s = .next (finish (handLoadResults m.load false m)))) ∧
  (∀ s : State, Alive s → s.load.freeze = true → TableLaw s.load →
    (Foremost .cutReturnClaim s → ∃ t, exec .cutReturnClaim s = .next t ∧ ∀ i e, s.load.entry i = some e →
      (e.state = .held → e.mark = .clear → i ∈ t.load.order ∧
        t.load.entry i = some { e with state := .shed, holdoff := none }) ∧
      (e.state = .held → e.mark ≠ .clear → t.load.entry i = some e)) ∧
    ∀ n : Line, Foremost (.lineReturnClaim n) s → ∃ t, exec (.lineReturnClaim n) s = .next t ∧ ∀ i e, s.load.entry i = some e →
      (e.fallAction = some (.park n) → e.mark ≠ .clear → e.state = .held → i ∈ t.load.order ∧
        t.load.entry i = some { e with state := .shed, holdoff := none, mark := .clear }) ∧
      (e.state = .held → ¬(e.fallAction = some (.park n) ∧ e.mark ≠ .clear) → t.load.entry i = some e) ∧
      ∃ e', t.load.entry i = some e' ∧ (e.fallAction = some (.park n) → e'.mark = .clear))

/-- R24, R25: PART_RESET and the system-off clear release every host slot, advancing its generation, and empty the Draft List; the clear also takes
slot 0's powers to 0 and clears the reasons of the entry sources. R24: the walk runs once after the releases of PART_RESET, a changed counted total
is handed over, and slot 0, the one member left, has the grant that the ceiling allows it, unless a holdoff keeps it SHED. R25: after the clear
slot 0 stands PENDING with nothing granted unless it is LAPSED, and the counted total, 0 now, is handed over when it was another. -/
def Obligations.LoadManagerResets : Prop :=
  ∀ s : State, Alive s →
    (Foremost .loadManagerPartReset s →
      let m := s.take .loadManagerPartReset
      let goes : Slot → Bool := fun i => i != 0 && (s.load.entry i).isSome
      let released : LoadRec := { m.load with
        slots := Vector.ofFn fun i => if goes i then { entry := none, generation := (s.load.slots[i].generation + 1) % 256 }
          else s.load.slots[i]
        order := s.load.order.filter fun i => !goes i
        draft := [] }
      let sets : Vector Byte 30 := Vector.ofFn fun n =>
        if (List.finRange 24).any fun i => goes i && entrySource i == n then 0 else s.attention.sets[n]
      ∃ t, exec .loadManagerPartReset s = .next t ∧
      t = finish (walkedEvent m { m with load := released, attention := { m.attention with sets := sets } }) ∧
      (t.load.countedTotal ≠ s.load.countedTotal → .countedTotalHandover t.load.countedTotal ∈ t.handed) ∧
      t.load.draft = [] ∧
      t.load.counter = s.load.counter ∧ t.load.ceiling = s.load.ceiling ∧ t.load.freeze = s.load.freeze ∧
      (∀ i : Slot, i ≠ 0 → t.load.slots[i] = { entry := none, generation :=
        if (s.load.entry i).isSome then (s.load.slots[i].generation + 1) % 256 else s.load.slots[i].generation }) ∧
      ∀ e, s.load.entry 0 = some e → ∃ e', t.load.entry 0 = some e' ∧ t.load.slots[(0 : Slot)].generation =
        s.load.slots[(0 : Slot)].generation ∧ e'.rank = e.rank ∧ e'.tag = e.tag ∧ e'.lease = e.lease ∧
        e'.sequence = e.sequence ∧ e'.requested = e.requested ∧ e'.minimum = e.minimum ∧
        (e.state = .lapsed → 0 ∉ s.load.order → e'.state = .lapsed) ∧
        (TableLaw s.load → t.load.countedTotal = e'.counted ∧ (e.state = .shed → e.holdoff ≠ none → e' = e) ∧
          (e.state ≠ .lapsed → e.state ≠ .shed ∨ e.holdoff = none →
            let limit := if s.load.freeze then min e.requested e.granted else e.requested
            let first := if s.load.freeze = true ∧ limit < e.minimum then 0
              else if e.rank = 0 ∨ e.minimum ≤ s.load.ceiling then e.minimum else 0
            let grant := if 0 < first ∧ first < limit then min limit (max first s.load.ceiling) else first
            e'.granted = grant ∧ e'.counted = grant ∧ e'.grace = none ∧
            e'.state = if e.requested = 0 then .pending else if grant = 0 then (if e.state = .pending then .pending else .shed)
              else if grant = e.requested then .granted else .reduced))) ∧
    (Foremost .loadManagerSystemOffClear s → ∃ t, exec .loadManagerSystemOffClear s = .next t ∧ t.load.draft = [] ∧
      t.load.counter = s.load.counter ∧ t.load.ceiling = s.load.ceiling ∧ t.load.freeze = s.load.freeze ∧
      (∀ i : Slot, t.attention.sets[entrySource i] = 0) ∧
      (∀ i : Slot, i ≠ 0 → t.load.slots[i] = { entry := none, generation :=
        if (s.load.entry i).isSome then (s.load.slots[i].generation + 1) % 256 else s.load.slots[i].generation }) ∧
      (∀ e, s.load.entry 0 = some e → ∃ e', t.load.entry 0 = some e' ∧ t.load.slots[(0 : Slot)].generation =
        s.load.slots[(0 : Slot)].generation ∧ e'.requested = 0 ∧ e'.minimum = 0 ∧ e'.rank = e.rank ∧ e'.tag = e.tag ∧
        e'.lease = e.lease ∧ e'.sequence = e.sequence ∧ (e.state = .lapsed → 0 ∉ s.load.order → e'.state = .lapsed) ∧
        (TableLaw s.load → e'.granted = 0 ∧ e'.counted = 0 ∧ e'.holdoff = none ∧ e'.grace = none ∧
          (e.state ≠ .lapsed → e'.state = .pending))) ∧
      (TableLaw s.load → t.load.countedTotal = 0 ∧ t.load.overcommit = false ∧
        (s.load.countedTotal ≠ 0 → .countedTotalHandover 0 ∈ t.handed)))

/-- R28 to R32: what a walk gives. A round's first pass gives each entry in turn its minimum, or nothing when the headroom left falls short of it,
rank 0 aside, or the freeze keeps it below; the second raises each to its limit as far as the headroom goes. R31: an entry that a round lowers while
it is THROTTLED is fixed at that grant, goes into grace counting the power it had, and a further round runs over the others. -/
def Obligations.WalkGivesItsGrants : Prop :=
  (∀ (freeze : Bool) (h : Int) (es : List (Slot × Entry)),
    let limit : Entry → Nat := fun e => if freeze then min e.requested e.granted else e.requested
    ∃ first more : List Nat, first.length = es.length ∧ more.length = es.length ∧
      (walkRound freeze h es).length = es.length ∧
      ∀ n i e, es[n]? = some (i, e) →
        let f := first.getD n 0
        let left := h - ((first.take n).sum : Nat)
        let spare := h - (first.sum : Nat) - ((more.take n).sum : Nat)
        (walkRound freeze h es)[n]? = some (i, e, f + more.getD n 0) ∧
        f = (if freeze = true ∧ limit e < e.minimum then 0 else if e.rank = 0 ∨ (e.minimum : Int) ≤ left then e.minimum else 0) ∧
        more.getD n 0 = (if 0 < f ∧ f < limit e then min (limit e - f) spare.toNat else 0)) ∧
  (∀ (freeze : Bool) (ceiling total : Nat) (es : List (Slot × Entry)),
    let rounds : Nat → List (Slot × Entry) → List GrantResult := fun total es => walkRounds freeze ceiling (es.length + 1) total es
    let round := walkRound freeze ((ceiling : Int) - (total : Int)) es
    let lowers : Slot × Entry × Nat → Bool := fun x => decide (x.2.1.kind = .throttled ∧ x.2.2 < x.2.1.granted)
    let low := round.filter lowers
    let others := round.filter fun x => !lowers x
    (low = [] → rounds total es = round.map fun x => ⟨x.1, x.2.2, false⟩) ∧
    (low ≠ [] → rounds total es = (low.map fun x => ⟨x.1, x.2.2, true⟩) ++
      rounds (total + (low.map fun x => x.2.1.counted).sum) (others.map fun x => (x.1, x.2.1)))) ∧
  (∀ L : LoadRec,
    let members := L.order.filterMap fun i => (L.entry i).map fun e => (i, e)
    let eligible := members.filter fun p => decide (p.2.grace = none ∧ ¬(p.2.state = .shed ∧ p.2.holdoff ≠ none))
    walkResults L = walkRounds L.freeze L.ceiling (eligible.length + 1)
      (members.map fun p => (p.2.grace.map Grace.value).getD 0).sum eligible ∧
    (eligible.map fun p => p.1).Perm ((walkResults L).map GrantResult.slot))

/-- R28, R32, R34, R47: a walk changes only the grant, counted power, state, holdoff and grace of entries, raises no grant under the freeze, and
leaves the overcommit condition as the overcommit sum says, raising OVERCOMMIT when it sets it. R8, R34, R35, R37, R39, R42: the record and the
reasons of an entry that the walk gives a grant; every other entry and source stays as it was. -/
def Obligations.WalkKeepsToItsFields : Prop :=
  ∀ s : State,
    (runWalk s).load.order = s.load.order ∧ (runWalk s).load.ceiling = s.load.ceiling ∧
    (∀ i, ((runWalk s).load.entry i).isSome = (s.load.entry i).isSome) ∧
    (∀ i e e', s.load.entry i = some e → (runWalk s).load.entry i = some e' →
      e' = { e with granted := e'.granted, counted := e'.counted, state := e'.state, holdoff := e'.holdoff, grace := e'.grace } ∧
      (s.load.freeze = true → e'.granted ≤ e.granted) ∧
      (e.grace.isSome = true → e' = e) ∧ (i ∉ s.load.order → e' = e)) ∧
    ((runWalk s).load.overcommit = true ↔ (runWalk s).load.ceiling <
      ((runWalk s).load.members.map fun p =>
        (p.2.grace.map Grace.value).getD (if p.2.rank = 0 then p.2.minimum else 0)).sum) ∧
    (s.load.overcommit = false → (runWalk s).load.overcommit = true → Pending (.supply .overcommit) (runWalk s)) ∧
    (TableLaw s.load →
      (∀ r ∈ walkResults s.load, ∃ e, s.load.entry r.slot = some e ∧
        let idle := e.kind = .backlight ∧ e.requested = 0
        let state : EntryState := if idle then .pending else if r.grant = 0 then (if e.state = .pending then .pending else .shed)
          else if r.grant = e.requested then .granted else .reduced
        let reason : Byte := if e.granted < r.grant then 0x01 else if idle then 0 else if r.grant < e.granted then
          (if r.grant = 0 then 0x04 else 0x02) else 0
        (runWalk s).load.entry r.slot = some { e with
          granted := r.grant
          counted := if r.intoGrace then e.counted else r.grant
          state := state
          holdoff := if state = .shed ∧ 0 < e.granted ∧ 0 < s.store.working.holdoff then some (sec s.store.working.holdoff) else none
          grace := if r.intoGrace then some { value := e.counted, remaining := ms s.store.working.throttleGrace } else none } ∧
        (runWalk s).attention.sets[entrySource r.slot] = s.attention.sets[entrySource r.slot] ||| reason) ∧
      (∀ i : Slot, i ∉ (walkResults s.load).map GrantResult.slot → (runWalk s).load.entry i = s.load.entry i ∧
        (runWalk s).attention.sets[entrySource i] = s.attention.sets[entrySource i])) ∧
    (∀ n : Fin 30, (∀ i, n ≠ entrySource i) →
      (runWalk s).attention.sets[n] = s.attention.sets[n] |||
        if n = supplySource ∧ s.load.overcommit = false ∧ (runWalk s).load.overcommit = true then 0x04 else 0)

/-! ### The supply -/

/-- R90 to R92, R96, R111, R114: a changed setting, the reload of PART_RESET, a notice of a system state and an accepted SET_INLET each leave the
source sum, the bridge's count and the planning ceiling as the sources give them. R99, R100: a changed bridge minimum has the withdrawal tested
again; no other change of the profile blocks or frees one. R99, R100, R111: each notice has a BLOCKED withdrawal tested again, and STARTING and
STOPPING one in phase CLEARING too. That the reload does not, and that a change that nobody handed over does, is the model's
choice (notes/assumptions/28.md). -/
def Obligations.PlanningCeilingFollowsTheSources : Prop :=
  ∀ s : State, Alive s →
    (∃ t, exec .supplyProfileChange s = .next t ∧ SupplyFollows t ∧ t.bridgeTests = s.bridgeTests.tail ∧
      (WithdrawalLaw s → ∀ b, s.supply.slot = some b →
        (s.bridgeTests.head? = some false →
          (s.supply.phase = some .blocked → t.supply.slot = some b ∧ t.supply.phase = some .blocked) ∧
          (s.supply.phase = some .clearing → t.supply.slot = some b → t.supply.phase ≠ some .blocked)) ∧
        (s.bridgeTests.head? ≠ some false → s.supply.phase ≠ some .opened →
          (BridgeBlocks b s → t.supply.slot = some b ∧ t.supply.phase = some .blocked ∧
            (s.supply.phase = some .clearing → Pending (.supply .withdrawBlocked) t)) ∧
          (¬BridgeBlocks b s → t.supply.slot = some b → t.supply.phase ≠ some .blocked)))) ∧
    (∀ st, Foremost (.supplyStateNotice st) s → ∃ t, exec (.supplyStateNotice st) s = .next t ∧ SupplyFollows t ∧
      (WithdrawalLaw s → WithdrawalTested (st == .starting || st == .stopping) s t)) ∧
    (∀ c, 1200 < c → exec (.setInlet c) s = .next (refusedWith .badArgument s)) ∧
    (∀ c, c ≤ 1200 → s.supply.inletPresent = false → exec (.setInlet c) s = .next (refusedWith .wrongState s)) ∧
    (∀ c, c ≤ 1200 → s.supply.inletPresent = true → ∃ t, exec (.setInlet c) s = .next t ∧
      t.port.reply = some (okReply []) ∧ t.supply.inletSet = some c ∧ SupplyFollows t)

/-- R95, R99, R100, R105, R106, R108: the inlet becoming present closes its path, ends bridging and frees a BLOCKED withdrawal; its becoming absent
removes its capability and has the withdrawal tested, so that one in phase CLEARING that the bridge test now blocks returns to BLOCKED; with no
source left the bridge carries in STARTING or RUN, or the forced-off claim is handed over when the reserve is 0 or in STOPPING. R110: the refill timer
starts at 5 s when the inlet comes and the reserve is below 60 s. R112: a part whose supply had not failed is supplied once the inlet is present and
nothing else that a reset found waits; its supply fails when the inlet leaves no closed path and no reserve. How a part starts and how it stops
is the model's choice (notes/assumptions/9.md). -/
def Obligations.InletComesAndGoes : Prop :=
  ∀ (s : State) (p : Bool), Alive s → Foremost (.inletEvent p) s →
    (s.supply.inletPresent = p → exec (.inletEvent p) s = .next (finish (s.take (.inletEvent p)))) ∧
    (s.supply.inletPresent = false → p = true → ∃ t, exec (.inletEvent p) s = .next t ∧ t.supply.inletPresent = true ∧
      t.pins.inletPath = true ∧ t.supply.carrying = false ∧ t.pins.bridgePath = false ∧
      PowerJudged s.power t ∧ SupplyFollows t ∧ (s.supply.refillTimer = none → s.supply.reserve < 60 → t.supply.refillTimer = some (sec 5)) ∧
      (WithdrawalLaw s → t.supply.phase ≠ some .blocked ∧
        WithdrawalTested false { s with supply := { s.supply with inletPresent := true } } t)) ∧
    (s.supply.inletPresent = true → p = false → ∃ t, exec (.inletEvent p) s = .next t ∧ t.supply.inletPresent = false ∧
      t.pins.inletPath = false ∧ t.supply.inletSet = none ∧ SupplyFollows t ∧ PowerJudged s.power t ∧
      (∀ b, s.supply.slot = some b → s.supply.phase = some .clearing →
        BridgeBlocks b { s with supply := { s.supply with inletPresent := false } } →
        t.supply.slot = some b ∧ t.supply.phase = some .blocked ∧ Pending (.supply .withdrawBlocked) t) ∧
      (WithdrawalLaw s → WithdrawalTested true { s with supply := { s.supply with inletPresent := false } } t) ∧
      ((∀ b, (s.bay b).state ≠ .online ∧ (s.bay b).state ≠ .withdrawing) → NoSourceAnswered s t))

/-- R106, R107, R109, R111: while the bridge carries, each drain takes a second off the reserve, raises BRIDGE_LOW at 15 s, and at 0 ends the
carrying with the forced-off claim; STARTING with no source starts the carrying, STOPPING and DARK end it. R110: each expiry of the refill timer
raises the reserve by a second up to 60 s, and the timer runs on at 5 s while the condition holds below 60 s; a BLOCKED withdrawal is tested with the
raised reserve (R100). R110: whatever starts the refill timer, it starts at 5 s. R112: the drain that leaves no reserve, with no path closed and
no inlet, leaves the part without supply, whatever packs are seated. That a notice is judged by the system state of its taking, that the carrying starts with a reserve of 0 and
ends with its first drain, and how a part stops whose supply fails are the model's choices (notes/assumptions/8.md, 10.md, 9.md). -/
def Obligations.BridgeDrainsAndRefills : Prop :=
  (∀ s : State, Alive s → WithdrawalLaw s → BridgeLaw s →
    (s.supply.carrying = false → exec .drainTimerExpiry s = .next (finish s)) ∧
    (s.supply.carrying = true → ∃ t, exec .drainTimerExpiry s = .next t ∧
      t.supply.reserve = s.supply.reserve - 1 ∧ SupplyFollows t ∧ PowerJudged s.power t ∧
      (s.power = .supplied → s.supply.reserve ≤ 1 → WithoutSupply t) ∧
      (1 < s.supply.reserve → t.supply.carrying = true ∧ t.supply.drainTimer = some (sec 1)) ∧
      (s.supply.reserve = 16 → Pending (.supply .bridgeLow) t) ∧
      (s.supply.reserve ≤ 1 → t.supply.carrying = false ∧ t.supply.drainTimer = none ∧ t.pins.bridgePath = false ∧
        .forcedOff ∈ t.handed)) ∧
    (Foremost (.supplyStateNotice .starting) s → someSource s = false → s.system.state = .starting ∨ s.system.state = .run →
      ∃ t, exec (.supplyStateNotice .starting) s = .next t ∧ t.supply.carrying = true ∧ t.pins.bridgePath = true) ∧
    (Foremost (.supplyStateNotice .stopping) s → s.supply.carrying = true →
      ∃ t, exec (.supplyStateNotice .stopping) s = .next t ∧ t.supply.carrying = false ∧ .forcedOff ∈ t.handed) ∧
    (Foremost (.supplyStateNotice .dark) s → s.system.state = .dark →
      ∃ t, exec (.supplyStateNotice .dark) s = .next t ∧ t.supply.carrying = false)) ∧
  (∀ s : State, Alive s →
    (s.supply.refillTimer = none → exec .refillTimerExpiry s = .next (finish s)) ∧
    (s.supply.refillTimer ≠ none → ∃ t, exec .refillTimerExpiry s = .next t ∧
      t.supply.reserve = min 60 (s.supply.reserve + 1) ∧ SupplyFollows t ∧ PowerJudged s.power t ∧
      t.supply.refillTimer = (if t.supply.carrying = false ∧ someSource t = true ∧ t.supply.reserve < 60
        then some (sec 5) else none) ∧
      (WithdrawalLaw s → WithdrawalTested false { s with supply := { s.supply with
        reserve := min 60 (s.supply.reserve + 1) } } t))) ∧
  (∀ s t : State, step s = .next t → s.supply.refillTimer = none → t.supply.refillTimer ≠ none →
    t.supply.refillTimer = some (sec 5))

/-- R66, R170: a deferral holds the last lever level of each bay and nothing reacts; its release clears what is held, and each bay whose held level
differs from the one taken takes it as a lever event (R65), in an order the manual leaves open (notes/assumptions/1.md). -/
def Obligations.DeferralHoldsLeverEvents : Prop :=
  ∀ s : State, Alive s →
    (Foremost .deferClaim s →
     let m := s.take .deferClaim
     exec .deferClaim s = .next (finish { m with supply := { m.supply with deferral := true } })) ∧
    (∀ b lv, s.supply.deferral = true → (s.bay b).leverInput ≠ lv → exec (.leverEvent b lv) s =
      .next (finish (s.setBay b { s.bay b with leverInput := lv, deferred := some lv }))) ∧
    (Foremost .releaseClaim s →
     let m := s.take .releaseClaim
     let u := { m with supply := { m.supply with deferral := false } }
     let clear := fun (b : Bay) (s : State) => s.setBay b { s.bay b with deferred := none }
     let owes := fun (b : Bay) (lv : Lever) => (s.bay b).deferred = some lv ∧ lv ≠ (s.bay b).leverTaken
     let idle := fun (b : Bay) => (s.bay b).deferred = none ∨ (s.bay b).deferred = some (s.bay b).leverTaken
     (idle .bayA → idle .bayB → exec .releaseClaim s = .next (finish (clear .bayB (clear .bayA u)))) ∧
     (∀ lv, owes .bayA lv → idle .bayB → ∃ t, exec .releaseClaim s = .next t ∧ t.bayA.deferred = none ∧ t.bayA.leverTaken = lv ∧
       t = finish (clear .bayB (takeLever .bayA lv (clear .bayA u)))) ∧
     (∀ lv, owes .bayB lv → idle .bayA → ∃ t, exec .releaseClaim s = .next t ∧ t.bayB.deferred = none ∧ t.bayB.leverTaken = lv ∧
       t = finish (takeLever .bayB lv (clear .bayB (clear .bayA u)))) ∧
     (∀ la lb, owes .bayA la → owes .bayB lb →
       let v := { u with freeCount := u.freeCount + 1 }
       exec .releaseClaim s = .next (finish (takeLever .bayB lb (clear .bayB (takeLever .bayA la (clear .bayA v))))) ∨
       exec .releaseClaim s = .next (finish (takeLever .bayA la (clear .bayA (takeLever .bayB lb (clear .bayB v)))))))

/-- R93, R101, R102: in phase CLEARING a counted total above the planning ceiling leaves the path closed; one within it opens the path: the bay is
RELEASED with READY_TO_REMOVE, or FAULTED with FAULT after a DISCONNECT, and the bridge carries when it was the last source in STARTING or RUN.
R103: the slot that a DISCONNECT frees passes to the waiting bay. R112: once the path is open the part lives on what still feeds it (how it
starts and stops is the model's choice, notes/assumptions/9.md). R93: while no withdrawal is CLEARING, a counted total replaces the one held and
changes nothing else. -/
def Obligations.PathOpensWhenTheTotalFits : Prop :=
  (∀ (s : State) (total : Nat), Alive s → BridgeLaw s → s.supply.phase ≠ some .clearing → Foremost (.countedTotalHandover total) s →
    let m := s.take (.countedTotalHandover total)
    exec (.countedTotalHandover total) s = .next (finish { m with supply := { m.supply with totalHeld := total } })) ∧
  ∀ (s : State) (b : Bay) (total : Nat), Alive s → WithdrawalLaw s → s.supply.slot = some b → s.supply.phase = some .clearing →
    Foremost (.countedTotalHandover total) s →
    (∃ t, exec (.countedTotalHandover total) s = .next t ∧ PowerJudged s.power t) ∧
    (s.supply.ceiling < total → ∃ t, exec (.countedTotalHandover total) s = .next t ∧ t.supply.totalHeld = total ∧
      t.supply.phase = some .clearing ∧ t.bay b = s.bay b) ∧
    (total ≤ s.supply.ceiling → (s.bay b).cause ≠ some .disconnect → ∃ t, exec (.countedTotalHandover total) s = .next t ∧
      t.supply.totalHeld = total ∧ (t.bay b).state = .released ∧ t.supply.slot = some b ∧ t.supply.phase = some .opened ∧
      Pending (.bay b .readyToRemove) t ∧ SupplyFollows t ∧
      (lastSource b s = true → s.system.state = .starting ∨ s.system.state = .run → t.supply.carrying = true)) ∧
    (total ≤ s.supply.ceiling → (s.bay b).cause = some .disconnect → ∃ t, exec (.countedTotalHandover total) s = .next t ∧
      t.supply.totalHeld = total ∧ (t.bay b).state = .faulted ∧ t.supply.slot ≠ some b ∧ Pending (.bay b .fault) t ∧
      (lastSource b s = true → s.system.state = .starting ∨ s.system.state = .run → t.supply.carrying = true) ∧
      SlotPassesOn b s t)

/-! ### The bays -/

/-- R67, R77: contact made starts the probing of a pack; contact lost empties the bay, frees what it held of the withdrawal, and raises LOST out of
ONLINE or WITHDRAWING and REMOVED out of any other state. R103, R105: a loss out of the supply is answered when no source is left, a withdrawal of
the other bay is tested again, and the slot passes to the waiting bay. R99, R100: a loss of another kind tests none. R112: the supply fails when the
loss leaves no path closed, no inlet and no reserve. That a pack in contact keeps alive a part that a reset has started until something of R112 feeds
it, that the loss of the last such pack ends that, and how a part stops whose supply fails, is the model's choice (notes/assumptions/9.md). -/
def Obligations.ContactMakesAndLosesABay : Prop :=
  ∀ (s : State) (b : Bay), Alive s →
    (Foremost (.contactMade b) s →
      ((s.bay b).contact = .lost →
        let m := s.take (.contactMade b)
        let r := { s.bay b with
          contact := .made, state := .probing, link := some .seeking, goodRun := 0, missRun := 0, probeTimer := some (sec 2),
          queryTimer := some (ms 100) }
        exec (.contactMade b) s = .next (finish ((m.setBay b r).raise (.bay b .inserted)))) ∧
      ((s.bay b).contact = .made → exec (.contactMade b) s = .next (finish (s.take (.contactMade b))))) ∧
    (Foremost (.contactLoss b) s →
      ((s.bay b).contact = .lost → exec (.contactLoss b) s = .next (finish (s.take (.contactLoss b)))) ∧
      ((s.bay b).contact = .made → WithdrawalLaw s →
        let r := { s.bay b with
          contact := .lost, state := .empty, link := none, candidate := none, accepted := none, charge := none,
          probeTimer := none, stepTimer := none, requalify := none, ejectWindow := none, cause := none, goodRun := 0,
          missRun := 0, exhausted := false, counted := 0, queryTimer := none, answerWindow := none }
        ∃ t, exec (.contactLoss b) s = .next t ∧ t.bay b = r ∧ t.supply.slot ≠ some b ∧ t.supply.waiting ≠ some b ∧
          SupplyFollows t ∧ PowerJudged s.power t ∧ SlotPassesOn b s t ∧
          (s.power = .gained → ¬Fed t → ¬SourceWaits t → t.bayA.contact = .lost → t.bayB.contact = .lost → WithoutSupply t) ∧
          ((s.bay b).state = .online ∨ (s.bay b).state = .withdrawing → Pending (.bay b .lost) t ∧ LossAnswered b s t) ∧
          ((s.bay b).state ≠ .online → (s.bay b).state ≠ .withdrawing → Pending (.bay b .removed) t ∧
            ∀ cause, s.supply.slot = some (otherBay b) → (s.bay (otherBay b)).cause = some cause →
              (s.supply.phase = some .blocked → HeldBlocked (otherBay b) t) ∧
              (s.supply.phase = some .clearing → OnItsWay (otherBay b) cause t ∧ ¬HeldBlocked (otherBay b) t))))

/-- R69, R70, R73, R192: a query sends the byte 0xC7 on the pack link of its bay, and of that bay alone, opens a window of 10 ms and sets the next
query 250 ms on; a missed or a bad answer removes the candidate and moves the link step, the fourth in a row putting it OUT_OF_STEP with LINK_OUT and
a step timer of 3 s. That the byte is shown on the link until the query has its result is the model's choice (notes/assumptions/36.md). -/
def Obligations.QueriesAndMissedAnswers : Prop :=
  ∀ (s : State) (b : Bay), Alive s →
    ((s.bay b).queryTimer ≠ none →
      let t := finish (s.setBay b { s.bay b with queryTimer := some (ms 250), answerWindow := some (ms 10) })
      exec (.conditionQuery b) s = .next t ∧ t.pins.link b = some 0xC7 ∧
        (OutputsFollow s → t.pins.link (otherBay b) = s.pins.link (otherBay b))) ∧
    ((s.bay b).queryTimer = none → exec (.conditionQuery b) s = .next (finish s)) ∧
    ((s.bay b).answerWindow = none → exec (.missedAnswer b) s = .next (finish s)) ∧
    (∃ t, exec (.missedAnswer b) s = .next t ∧ t.pins.link b = none) ∧
    ((s.bay b).answerWindow ≠ none →
      let r := { s.bay b with candidate := none, answerWindow := none, goodRun := 0 }
      ((r.link = some .seeking ∨ r.link = some .inStep) → r.missRun < 3 →
        exec (.missedAnswer b) s = .next (finish (s.setBay b { r with missRun := r.missRun + 1 }))) ∧
      ((r.link = some .seeking ∨ r.link = some .inStep) → 3 ≤ r.missRun →
        exec (.missedAnswer b) s = .next (finish ((s.setBay b
          { r with missRun := 4, link := some .outOfStep, stepTimer := some (sec 3) }).raise (.bay b .linkOut)))) ∧
      ((r.link = some .outOfStep ∨ r.link = some .lost) →
        exec (.missedAnswer b) s = .next (finish (s.setBay b r))) ∧
      (∀ bytes, 6 ≤ bytes.length → readAnswer bytes = none → exec (.badAnswer b bytes) s = exec (.missedAnswer b) s))

/-- R70, R192: an answer is good when its first six bytes sum to 0 modulo 256 and every field lies in its range. R71 to R74, R101: a good answer that
repeats no candidate becomes the candidate; one that repeats the candidate and the accepted condition, the poll of a settled pack, accepts nothing
and raises nothing of it. Either gives the charge and whether the pack is exhausted, moves the runs and the link step, and has the bay count by its
record, so that a charge that crosses the low charge changes the counted capability and the ceiling; a withdrawal whose path the new ceiling opens
goes on, and one of the other bay passes the slot to a bay that waits. R79: the return of the link step to IN_STEP brings a
QUALIFIED bay with its lever LOCKED ONLINE, which has a BLOCKED withdrawal of the other bay tested again (R100). An answer that no query awaits is
ignored. That an answer in LOST counts in the good run and leaves the miss run is the model's choice (notes/assumptions/11.md). -/
def Obligations.AnswersAreReadAndBecomeCandidates : Prop :=
  ((∀ (c : Condition) (charge : Nat) (more : List Byte), c.capability ≤ 800 → charge ≤ 100 →
    let body := [byte c.state.code, byte c.capability, byte (c.capability / 256), byte charge, byte c.request.code]
    readAnswer (body ++ (-(body.sum)) :: more) = some { condition := c, charge := charge }) ∧
  (∀ (b0 b1 b2 b3 b4 b5 : Byte) (more : List Byte) (a : Answer), readAnswer (b0 :: b1 :: b2 :: b3 :: b4 :: b5 :: more) = some a →
    b0 + b1 + b2 + b3 + b4 + b5 = 0 ∧ b0.toNat = a.condition.state.code ∧
    b1.toNat + 256 * b2.toNat = a.condition.capability ∧ a.condition.capability ≤ 800 ∧ b3.toNat = a.charge ∧ a.charge ≤ 100 ∧
    b4.toNat = a.condition.request.code) ∧
  ∀ bytes : List Byte, bytes.length < 6 → readAnswer bytes = none) ∧
  (∀ (s : State) (b : Bay) (bytes : List Byte) (a : Answer), Alive s → readAnswer bytes = some a →
    ((s.bay b).answerWindow = none → exec (.goodAnswer b bytes) s = .next (finish s)) ∧
    ((s.bay b).answerWindow ≠ none →
      (s.bay b).candidate ≠ some a.condition ∨ (s.bay b).accepted = some a.condition → WithdrawalLaw s →
      ∃ t, exec (.goodAnswer b bytes) s = .next t ∧
      SupplyFollows t ∧ AnswerHeard s.store.working.lowCharge a (s.bay b) (t.bay b) ∧ (t.bay b).accepted = (s.bay b).accepted ∧
      (t.bay b).requalify =
        (if (t.bay b).state = .online ∨ (t.bay b).state = .withdrawing then (s.bay b).requalify else none) ∧
      (∀ x, x = .inserted ∨ x = .removed ∨ x = .lost ∨ x = .packRequest ∨ x = .linkOut →
        (Pending (.bay b x) t ↔ Pending (.bay b x) s)) ∧
      ((s.bay b).state = .probing ∨ (s.bay b).state = .released ∨ (s.bay b).state = .faulted →
        (t.bay b).state = (s.bay b).state) ∧
      ((s.bay b).state = .qualified →
        ((s.bay b).leverTaken = .locked → (s.bay b).link ≠ some .inStep → (t.bay b).link = some .inStep →
          (t.bay b).state = .online ∧ Pending (.bay b .qualified) t ∧ WithdrawalTested false (withOnline b s) t) ∧
        ((s.bay b).leverTaken = .opened ∨ (s.bay b).link = some .inStep ∨ (t.bay b).link ≠ some .inStep →
          (t.bay b).state = .qualified)) ∧
      ((s.bay b).state = .online → s.supply.waiting ≠ some b → (t.bay b).state = .online) ∧
      ((s.bay b).state = .online → s.supply.waiting = some b →
        ((t.bay b).state = .online ∧ (t.supply.waiting = some b ∨ t.supply.slot = none)) ∨
        (¬AsksDisconnect (s.bay b) ∧ (s.bay b).leverTaken = .opened ∧ WithdrawalStarted b .lever t t) ∨
        (AsksDisconnect (s.bay b) ∧ WithdrawalStarted b .disconnect t t)) ∧
      (∀ cause, (s.bay b).state = .withdrawing → (s.bay b).cause = some cause → OnItsWay b cause t ∧
        (s.supply.phase = some .blocked → t.supply.phase = some .blocked) ∧
        (s.supply.phase = some .clearing → ¬HeldBlocked b t))))

/-- R71 to R76, R78, R80, R98, R99: the second of two agreeing answers accepts their condition, gives the charge and whether the pack is exhausted,
moves the runs and the link step, and has the bay count by its record. It decides a PROBING bay: FAULTED, QUALIFIED or ONLINE,
which has a BLOCKED withdrawal of the other bay tested again (R100); in ONLINE a FAULT is an unplanned loss (R105) and a DISCONNECT under ACT
starts the withdrawal, or makes the bay wait while the other holds the slot; the start is BLOCKED where the bridge test says so. PACK_REQUEST goes out for a request newly
made under REFER, and for no other. That PACK_REQUEST goes out of a bay
that the same acceptance makes FAULTED is the model's choice (notes/assumptions/12.md).
R112: a loss out of the supply may leave the part itself without
supply, whether or not the pack is still seated (how it starts and stops is the model's choice, notes/assumptions/9.md). -/
def Obligations.AgreeingAnswersAreAccepted : Prop :=
  ∀ (s : State) (b : Bay) (bytes : List Byte) (a : Answer), Alive s → WithdrawalLaw s → readAnswer bytes = some a →
    (s.bay b).answerWindow ≠ none → (s.bay b).candidate = some a.condition → (s.bay b).accepted ≠ some a.condition →
    let unfit := a.condition.state = .fault ∨ a.condition.capability = 0 ∨
      ((s.bay b).policy = .act ∧ a.condition.request = .disconnect)
    let asksAnew := (s.bay b).policy = .refer ∧ a.condition.request ≠ .none ∧ (s.bay b).state ≠ .faulted ∧
      (s.bay b).accepted.map Condition.request ≠ some a.condition.request
    ∃ t, exec (.goodAnswer b bytes) s = .next t ∧ (t.bay b).accepted = some a.condition ∧
    AnswerHeard s.store.working.lowCharge a (s.bay b) (t.bay b) ∧
    (asksAnew → Pending (.bay b .packRequest) t) ∧
    (¬asksAnew → (Pending (.bay b .packRequest) t ↔ Pending (.bay b .packRequest) s)) ∧
    ((s.bay b).state = .probing → (t.bay b).probeTimer = none ∧
      (unfit → (t.bay b).state = .faulted ∧ Pending (.bay b .fault) t) ∧
      (¬unfit → Pending (.bay b .qualified) t ∧
        ((s.bay b).leverTaken = .opened → (t.bay b).state = .qualified) ∧
        ((s.bay b).leverTaken = .locked → (t.bay b).state = .online ∧ SupplyFollows t ∧
          WithdrawalTested false (withOnline b s) t))) ∧
    ((s.bay b).state = .online → a.condition.state = .fault →
      (t.bay b).state = .faulted ∧ Pending (.bay b .fault) t ∧ t.supply.waiting ≠ some b ∧ SupplyFollows t ∧
      LossAnswered b s t) ∧
    ((s.bay b).state = .online → a.condition.state = .ready → (s.bay b).requalify = none ∨ 0 < a.condition.capability →
      (s.bay b).policy = .act → a.condition.request = .disconnect →
      (s.supply.slot = none → SupplyFollows t ∧ WithdrawalStarted b .disconnect s t) ∧
      (s.supply.slot = some (otherBay b) → s.supply.phase ≠ some .clearing → (t.bay b).state = .online ∧
        t.supply.waiting = some b ∧ t.supply.waitReason = some .disconnect) ∧
      (s.supply.slot = some (otherBay b) → s.supply.phase = some .clearing →
        ((t.bay b).state = .online ∧ t.supply.waiting = some b ∧ t.supply.waitReason = some .disconnect) ∨
        (t.supply.slot ≠ some (otherBay b) ∧ WithdrawalStarted b .disconnect t t)))

/-- R71, R73, R74, R76, R79, R81, R83, R85: what an acceptance does in the other states, and in an ONLINE bay that goes on. In every state it gives
the charge and whether the pack is exhausted, moves the runs and the link step, and has the bay count by its record. QUALIFIED: an unfit condition
makes the bay FAULTED, a fit one leaves it, or brings it ONLINE when the same answer returns its link to IN_STEP. ONLINE and WITHDRAWING: a FAULT,
or the capability 0 that ends a requalify, is an unplanned loss; any other acceptance ends the requalify, counts afresh, and under ACT turns a
withdrawal to DISCONNECT. RELEASED and FAULTED bays only hold it. That the acceptance comes before the return of the link, so that an unfit
condition makes the bay FAULTED though the same answer returns its link, is the model's choice (notes/assumptions/11.md).
R112: a loss out of the supply may leave the part itself without
supply, whether or not the pack is still seated (how it starts and stops is the model's choice, notes/assumptions/9.md). -/
def Obligations.AcceptanceInTheOtherStates : Prop :=
  ∀ (s : State) (b : Bay) (bytes : List Byte) (a : Answer), Alive s → WithdrawalLaw s → readAnswer bytes = some a →
    (s.bay b).answerWindow ≠ none → (s.bay b).candidate = some a.condition → (s.bay b).accepted ≠ some a.condition →
    let c := a.condition
    let asks := (s.bay b).policy = .act ∧ c.request = .disconnect
    let fails := c.state = .fault ∨ ((s.bay b).requalify ≠ none ∧ c.capability = 0)
    let returns := (s.bay b).link ≠ some .inStep ∧ (s.bay b).link ≠ some .lost ∧ 1 ≤ (s.bay b).goodRun
    ∃ t, exec (.goodAnswer b bytes) s = .next t ∧ (t.bay b).accepted = some c ∧
    AnswerHeard s.store.working.lowCharge a (s.bay b) (t.bay b) ∧
    ((s.bay b).state = .qualified →
      (c.state = .fault ∨ c.capability = 0 ∨ asks → (t.bay b).state = .faulted ∧ Pending (.bay b .fault) t) ∧
      (c.state = .ready → 0 < c.capability → ¬asks → (t.bay b).accepted = some c ∧
        ((s.bay b).leverTaken = .locked → returns →
          (t.bay b).state = .online ∧ Pending (.bay b .qualified) t ∧ SupplyFollows t ∧
          WithdrawalTested false (withOnline b s) t) ∧
        ((s.bay b).leverTaken = .opened ∨ ¬returns → (t.bay b).state = .qualified))) ∧
    ((s.bay b).state = .online ∨ (s.bay b).state = .withdrawing → fails → (t.bay b).state = .faulted ∧
      (t.bay b).requalify = none ∧ Pending (.bay b .fault) t ∧ t.supply.slot ≠ some b ∧ t.supply.waiting ≠ some b ∧
      SupplyFollows t ∧ LossAnswered b s t ∧ SlotPassesOn b s t) ∧
    ((s.bay b).state = .online → ¬fails → ¬asks → s.supply.waiting ≠ some b → (t.bay b).state = .online ∧
      (t.bay b).accepted = some c ∧ (t.bay b).requalify = none ∧ SupplyFollows t ∧
      (t.bay b).counted = countsNow c (decide (a.charge ≤ s.store.working.lowCharge)) (s.bay b).policy) ∧
    ((s.bay b).state = .online → ¬fails → ¬asks → s.supply.waiting = some b → (t.bay b).accepted = some c ∧
      (t.bay b).requalify = none ∧
      (((t.bay b).state = .online ∧ (t.supply.waiting = some b ∨ t.supply.slot = none)) ∨
       ((s.bay b).leverTaken = .opened ∧ WithdrawalStarted b .lever t t))) ∧
    (∀ cause, (s.bay b).state = .withdrawing → (s.bay b).cause = some cause → ¬fails → (t.bay b).accepted = some c ∧
      (t.bay b).requalify = none ∧ SupplyFollows t ∧ (s.supply.phase = some .blocked → t.supply.phase = some .blocked) ∧
      (s.supply.phase = some .clearing → ¬HeldBlocked b t) ∧
      (asks → OnItsWay b .disconnect t ∧ (t.bay b).ejectWindow = none) ∧ (¬asks → OnItsWay b cause t)) ∧
    ((s.bay b).state = .released ∨ (s.bay b).state = .faulted → t.bay b = { t.bay b with
      state := (s.bay b).state, accepted := some c, cause := (s.bay b).cause, ejectWindow := (s.bay b).ejectWindow } ∧
      t.supply.slot = s.supply.slot ∧ t.supply.phase = s.supply.phase)

/-- R73, R78, R81, R82: the probe timer's expiry makes a PROBING bay FAULTED; the step timer's makes the link LOST and a bay with a path or
QUALIFIED FAULTED; the eject window's brings a WITHDRAWING bay back ONLINE and tests a RELEASED one: in step, READY with a capability, and not
asking to be disconnected under ACT. R103, R105: a loss out of the supply is answered when no source is left, and the slot passes to the waiting
bay.
R112: a loss out of the supply may leave the part itself without
supply, whether or not the pack is still seated (how it starts and stops is the model's choice, notes/assumptions/9.md). -/
def Obligations.BayTimersExpire : Prop :=
  ∀ (s : State) (b : Bay), Alive s → WithdrawalLaw s →
    ((s.bay b).state ≠ .probing → exec (.probeTimerExpiry b) s = .next (finish s)) ∧
    ((s.bay b).state = .probing → ∃ t, exec (.probeTimerExpiry b) s = .next t ∧ (t.bay b).state = .faulted ∧
      (t.bay b).probeTimer = none ∧ Pending (.bay b .fault) t ∧ t.supply.slot = s.supply.slot) ∧
    ((s.bay b).link ≠ some .outOfStep → exec (.linkStepTimerExpiry b) s = .next (finish s)) ∧
    ((s.bay b).link = some .outOfStep → ∃ t, exec (.linkStepTimerExpiry b) s = .next t ∧ (t.bay b).link = some .lost ∧
      (t.bay b).stepTimer = none ∧
      ((s.bay b).state = .qualified ∨ (s.bay b).state = .online ∨ (s.bay b).state = .withdrawing →
        (t.bay b).state = .faulted ∧ Pending (.bay b .fault) t ∧ t.supply.slot ≠ some b) ∧
      ((s.bay b).state = .online ∨ (s.bay b).state = .withdrawing → SupplyFollows t ∧ t.supply.waiting ≠ some b ∧
        LossAnswered b s t ∧ SlotPassesOn b s t) ∧
      ((s.bay b).state = .probing ∨ (s.bay b).state = .released ∨ (s.bay b).state = .faulted →
        (t.bay b).state = (s.bay b).state)) ∧
    ((s.bay b).ejectWindow = none → exec (.ejectWindowExpiry b) s = .next (finish s)) ∧
    ((s.bay b).ejectWindow ≠ none → ∃ t, exec (.ejectWindowExpiry b) s = .next t ∧ (t.bay b).ejectWindow = none ∧
      (t.bay b).cause = none ∧ t.supply.slot ≠ some b ∧ SupplyFollows t ∧ SlotPassesOn b s t ∧
      ((s.bay b).state = .withdrawing → (t.bay b).state = .online) ∧
      ((s.bay b).state = .released → SoundAtRelock (s.bay b) → (t.bay b).state = .online) ∧
      ((s.bay b).state = .released → ¬SoundAtRelock (s.bay b) → (t.bay b).state = .faulted ∧ Pending (.bay b .fault) t))

/-- R84, R85: a requalify starts in ONLINE only, holds the capability counted so far for 2 s and forgets the accepted condition; one that runs out
makes the bay FAULTED as an unplanned loss, which is answered when no source is left (R105), and the slot passes to the waiting bay (R103). That a
requalify claim does nothing in WITHDRAWING, one already running included, is the model's choice (notes/assumptions/13.md).
R112: a loss out of the supply may leave the part itself without
supply, whether or not the pack is still seated (how it starts and stops is the model's choice, notes/assumptions/9.md). -/
def Obligations.RequalifyHoldsTheCapability : Prop :=
  ∀ (s : State) (b : Bay), Alive s → WithdrawalLaw s →
    (Foremost (.requalify b) s →
      ((s.bay b).state ≠ .online → exec (.requalify b) s = .next (finish (s.take (.requalify b)))) ∧
      ((s.bay b).state = .online → ∃ t, exec (.requalify b) s = .next t ∧
        (t.bay b).accepted = none ∧ (t.bay b).candidate = none ∧ (t.bay b).goodRun = 0 ∧ SupplyFollows t ∧
        (s.supply.waiting ≠ some b → (t.bay b).state = .online) ∧
        (s.supply.waiting = some b → ((t.bay b).state = .online ∧ (t.supply.waiting = some b ∨ t.supply.slot = none)) ∨
          ((s.bay b).leverTaken = .opened ∧ WithdrawalStarted b .lever t t)) ∧
        ((t.bay b).state ≠ .released → ∃ held, (t.bay b).requalify = some { remaining := sec 2, held := held } ∧
          (t.bay b).counted = held ∧ ((s.bay b).requalify = none → held = (s.bay b).counted) ∧
          (∀ q, (s.bay b).requalify = some q → held = q.held)))) ∧
    ((s.bay b).requalify = none → exec (.requalifyExpiry b) s = .next (finish s)) ∧
    ((s.bay b).requalify ≠ none → ∃ t, exec (.requalifyExpiry b) s = .next t ∧ (t.bay b).state = .faulted ∧
      (t.bay b).requalify = none ∧ Pending (.bay b .fault) t ∧ t.supply.slot ≠ some b ∧ t.supply.waiting ≠ some b ∧
      SupplyFollows t ∧ LossAnswered b s t ∧ SlotPassesOn b s t)

/-- R65, R79 to R82, R98, R99, R103: a lever level newly taken. OPEN in ONLINE takes the free withdrawal slot, BLOCKED where the bridge test says so,
or waits while the other bay holds it, unless the slot comes free in the same event; LOCKED brings a QUALIFIED bay in step ONLINE, which ends bridging (R108), has a BLOCKED withdrawal of
the other bay tested again (R100) and starts the refill timer at 5 s (R110); it ends the waiting of an ONLINE bay unless its pack asks
to be disconnected under ACT, cancels a withdrawal that the lever started, and tests a RELEASED pack. R65, R81, R82: every other lever level is recorded
and changes nothing else: in EMPTY, PROBING and FAULTED, OPEN in QUALIFIED, LOCKED in QUALIFIED out of step or in ONLINE while the bay does not wait,
and, on the way out, OPEN but for an EJECT, whose cause it turns to LEVER, and LOCKED with another cause than LEVER. What a lever does to a bay that
already waits is the model's choice (notes/assumptions/14.md). -/
def Obligations.LeversMoveTheBays : Prop :=
  ∀ (s : State) (b : Bay), Alive s → WithdrawalLaw s →
    exec (.leverEvent b (s.bay b).leverInput) s = .next (finish s) ∧
    (s.supply.deferral = false → (s.bay b).leverInput = .locked → ∃ t, exec (.leverEvent b .opened) s = .next t ∧
      (t.bay b).leverInput = .opened ∧ (t.bay b).leverTaken = .opened ∧
      ((s.bay b).state = .online → s.supply.slot = none → SupplyFollows t ∧ WithdrawalStarted b .lever s t) ∧
      ((s.bay b).state = .online → s.supply.slot = some (otherBay b) → s.supply.phase ≠ some .clearing →
        (t.bay b).state = .online ∧ t.supply.waiting = some b ∧ t.supply.waitReason = some .lever) ∧
      ((s.bay b).state = .online → s.supply.slot = some (otherBay b) → s.supply.phase = some .clearing →
        ((t.bay b).state = .online ∧ t.supply.waiting = some b ∧ t.supply.waitReason = some .lever) ∨
        (t.supply.slot ≠ some (otherBay b) ∧ (AsksDisconnect (s.bay b) → WithdrawalStarted b .disconnect t t) ∧
          (¬AsksDisconnect (s.bay b) → WithdrawalStarted b .lever t t))) ∧
      ((s.bay b).state ≠ .online → (s.bay b).cause ≠ some .eject →
        t = finish (s.setBay b { s.bay b with leverInput := .opened, leverTaken := .opened })) ∧
      ((s.bay b).cause = some .eject → t = finish (s.setBay b
        { s.bay b with leverInput := .opened, leverTaken := .opened, cause := some .lever, ejectWindow := none }))) ∧
    (s.supply.deferral = false → (s.bay b).leverInput = .opened → ∃ t, exec (.leverEvent b .locked) s = .next t ∧
      (t.bay b).leverInput = .locked ∧ (t.bay b).leverTaken = .locked ∧
      ((s.bay b).state = .qualified → (s.bay b).link = some .inStep → (t.bay b).state = .online ∧ Pending (.bay b .qualified) t ∧
        SupplyFollows t ∧ t.supply.carrying = false ∧ WithdrawalTested false (withOnline b s) t ∧
        (s.supply.refillTimer = none → s.supply.reserve < 60 → t.supply.refillTimer = some (sec 5))) ∧
      ((s.bay b).state = .online → (t.bay b).state = .online ∧ t.supply.slot = s.supply.slot ∧
        t.supply.phase = s.supply.phase ∧ (s.supply.waiting = some b →
          (AsksDisconnect (s.bay b) → t.supply.waiting = some b ∧ t.supply.waitReason = some .disconnect) ∧
          (¬AsksDisconnect (s.bay b) → t.supply.waiting = none ∧ t.supply.waitReason = none))) ∧
      ((s.bay b).cause = some .lever → t.supply.slot ≠ some b ∧ SupplyFollows t ∧ SlotPassesOn b s t ∧
        ((s.bay b).state = .withdrawing → (t.bay b).state = .online) ∧
        ((s.bay b).state = .released → SoundAtRelock (s.bay b) → (t.bay b).state = .online) ∧
        ((s.bay b).state = .released → ¬SoundAtRelock (s.bay b) → (t.bay b).state = .faulted ∧ Pending (.bay b .fault) t)) ∧
      ((s.bay b).state = .empty ∨ (s.bay b).state = .probing ∨ (s.bay b).state = .faulted ∨
          ((s.bay b).state = .qualified ∧ (s.bay b).link ≠ some .inStep) ∨
          ((s.bay b).state = .online ∧ s.supply.waiting ≠ some b) ∨
          (((s.bay b).state = .withdrawing ∨ (s.bay b).state = .released) ∧ (s.bay b).cause ≠ some .lever) →
        t = finish (s.setBay b { s.bay b with leverInput := .locked, leverTaken := .locked })))

/-- R76, R98, R99, R103: a changed policy recounts the bay; ACT starts the withdrawal of an ONLINE bay whose accepted request is DISCONNECT, BLOCKED
where the bridge test says so, or makes it wait while the other bay holds the slot (the model's choice, notes/assumptions/14.md); REFER ends the waiting of a bay whose lever is LOCKED, and one
whose lever is OPEN waits on by its lever. -/
def Obligations.PolicyChangeRecountsTheBay : Prop :=
  ∀ (s : State) (b : Bay) (p : Policy), Alive s → WithdrawalLaw s → Foremost (.policyChange b p) s →
    ((s.bay b).policy = p → exec (.policyChange b p) s = .next (finish (s.take (.policyChange b p)))) ∧
    ((s.bay b).policy ≠ p → ∃ t, exec (.policyChange b p) s = .next t ∧ (t.bay b).policy = p ∧ SupplyFollows t ∧
      (∀ c, (s.bay b).accepted = some c → (s.bay b).requalify = none → (s.bay b).exhausted = false → c.state = .ready →
        (t.bay b).counted = if p = .act ∧ c.request = .reduce then c.capability / 2 else c.capability) ∧
      (p = .act → (s.bay b).state = .online → (s.bay b).accepted.map Condition.request = some .disconnect →
        s.supply.waiting ≠ some b →
        (s.supply.slot = none → WithdrawalStarted b .disconnect s t) ∧
        (s.supply.slot = some (otherBay b) → s.supply.phase ≠ some .clearing → (t.bay b).state = .online ∧
          t.supply.waiting = some b ∧ t.supply.waitReason = some .disconnect) ∧
        (s.supply.slot = some (otherBay b) → s.supply.phase = some .clearing →
          ((t.bay b).state = .online ∧ t.supply.waiting = some b ∧ t.supply.waitReason = some .disconnect) ∨
          (t.supply.slot ≠ some (otherBay b) ∧ WithdrawalStarted b .disconnect t t))) ∧
      (p = .refer → s.supply.waiting = some b →
        ((s.bay b).leverTaken = .locked → (t.bay b).state = .online ∧ t.supply.waiting ≠ some b) ∧
        ((s.bay b).leverTaken = .opened →
          ((t.bay b).state = .online ∧ t.supply.waiting = some b ∧ t.supply.waitReason = some .lever) ∨
          (t.supply.slot ≠ some (otherBay b) ∧ WithdrawalStarted b .lever t t))))

/-- R86: REPROBE is refused with BAD_ARGUMENT for no bay and with WRONG_STATE unless the bay is FAULTED and in contact; accepted, it makes the bay
PROBING, forgets what its pack said and starts the probe timer at 2 s and the next query at 100 ms. R98, R99, R104: EJECT is refused with BAD_ARGUMENT
for no bay, with WRONG_STATE unless the bay is ONLINE and with BUSY while the slot is held; accepted, it takes the slot with cause EJECT, BLOCKED where the bridge test says so, and
the event leaves the window at 30 s. -/
def Obligations.ReprobeAndEject : Prop :=
  (∀ s : State, Alive s →
    (∀ n, 2 ≤ n → exec (.reprobe n) s = .next (refusedWith .badArgument s)) ∧
    ∀ b, ((s.bay b).state ≠ .faulted ∨ (s.bay b).contact ≠ .made →
        exec (.reprobe (bayCode b)) s = .next (refusedWith .wrongState s)) ∧
      ((s.bay b).state = .faulted → (s.bay b).contact = .made → (s.bay b).requalify = none →
        let r := { s.bay b with
          state := .probing, answerWindow := none, candidate := none, accepted := none, stepTimer := none,
          link := some .seeking, goodRun := 0, missRun := 0, probeTimer := some (sec 2), queryTimer := some (ms 100),
          counted := 0 }
        exec (.reprobe (bayCode b)) s = .next (answered (okReply []) (s.setBay b r)))) ∧
  (∀ s : State, Alive s →
    (∀ n, 2 ≤ n → exec (.eject n) s = .next (refusedWith .badArgument s)) ∧
    ∀ b, ((s.bay b).state ≠ .online → exec (.eject (bayCode b)) s = .next (refusedWith .wrongState s)) ∧
      ((s.bay b).state = .online → s.supply.slot ≠ none → exec (.eject (bayCode b)) s = .next (refusedWith .busy s)) ∧
      ((s.bay b).state = .online → s.supply.slot = none → ∃ t, exec (.eject (bayCode b)) s = .next t ∧
        t.port.reply = some (okReply []) ∧ (t.bay b).ejectWindow = some (sec 30) ∧ SupplyFollows t ∧
        WithdrawalStarted b .eject s t))

/-! ### The backlight -/

/-- R121 to R124, R127, R128: the curve, panel and pin requests check their arguments in the order of their rules; each accepted one changes its
field, and the target is recomputed. -/
def Obligations.CurvePanelAndPinRequests : Prop :=
  ∀ s : State, Alive s →
    let done := fun (r : LightRec) => Host.Outcome.next (answered (okReply []) (retarget { s with light := r }))
    let no := fun (st : Status) => Host.Outcome.next (refusedWith st s)
    (∀ ps : List Point,
      (ps.all pointInRange = false → exec (.curveSet ps) s = no .badArgument) ∧
      (ps.all pointInRange = true → 12 < ps.length → exec (.curveSet ps) s = no .curveFull) ∧
      (ps.all pointInRange = true → ps.length ≤ 12 → curveOrdered ps = false → exec (.curveSet ps) s = no .curveOrder) ∧
      (ps.all pointInRange = true → ps.length ≤ 12 → curveOrdered ps = true →
        exec (.curveSet ps) s = done { s.light with curve := ps })) ∧
    (∀ (p : Point) (front back : List Point), s.light.curve = front ++ back → (∀ q ∈ front, q.lux < p.lux) →
      (∀ q ∈ back, p.lux ≤ q.lux) →
      (pointInRange p = false → exec (.curveAdd p) s = no .badArgument) ∧
      (pointInRange p = true → 12 ≤ s.light.curve.length → exec (.curveAdd p) s = no .curveFull) ∧
      (pointInRange p = true → s.light.curve.length < 12 → curveOrdered (front ++ p :: back) = false →
        exec (.curveAdd p) s = no .curveOrder) ∧
      (pointInRange p = true → s.light.curve.length < 12 → curveOrdered (front ++ p :: back) = true →
        exec (.curveAdd p) s = done { s.light with curve := front ++ p :: back })) ∧
    (∀ lux, (∀ q ∈ s.light.curve, q.lux ≠ lux) → exec (.curveRemove lux) s = no .badArgument) ∧
    (∀ q ∈ s.light.curve, exec (.curveRemove q.lux) s =
      done { s.light with curve := s.light.curve.filter fun x => x.lux != q.lux }) ∧
    (∀ n, 2 ≤ n → exec (.panel n) s = no .badArgument) ∧
    (∀ on : Bool, s.light.panelOn = on → exec (.panel on.toNat) s = .next (answered (okReply []) s)) ∧
    (∀ on : Bool, s.light.panelOn ≠ on → exec (.panel on.toNat) s = done { s.light with panelOn := on }) ∧
    (∀ level duration, 1023 < level ∨ 3600 < duration → exec (.pin level duration) s = no .badArgument) ∧
    (∀ level duration, level ≤ 1023 → duration ≤ 3600 → exec (.pin level duration) s = done { s.light with
      pin := some { level := level, remaining := if duration = 0 then none else some (sec duration) } }) ∧
    (s.light.pin = none → exec .unpin s = no .wrongState) ∧
    (s.light.pin ≠ none → exec .unpin s = done { s.light with pin := none })

/-- R125, R130, R132: a recomputed target follows the table of R125; an equal one changes nothing further; a different one gives the destination and
forms the pair, which is sent, held or passed over, and the capped test waits while a claim is in flight. R125: a curve in order gives a point's
level at its lux, the first point's level below it, the last point's above it, and the level between two neighbours by their proportion, rounded
down. -/
def Obligations.TargetFollowsItsTableAndCurve : Prop :=
  (∀ s : State,
    let t := retarget s
    let r := s.light
    let p := r.settings
    let pair : Claim := { requested := powerOf p t.light.target, minimum := min (powerOf p p.minLevel) (powerOf p t.light.target) }
    (r.panelOn = false ∨ s.system.state = .dark → t.light.target = 0 ∧ t.light.source = .off) ∧
    (r.panelOn = true → s.system.state ≠ .dark →
      (∀ pin, r.pin = some pin → t.light.target = pin.level ∧ t.light.source = .pin) ∧
      (r.pin = none → r.estimate = none ∨ r.curve = [] → t.light.target = p.failsafeLevel ∧ t.light.source = .failsafe) ∧
      (∀ lux, r.pin = none → r.estimate = some lux → r.curve ≠ [] →
        t.light.target = curveLevel r.curve lux ∧ t.light.source = .curve)) ∧
    (t.light.target = r.target → t = { s with light := { r with source := t.light.source } }) ∧
    (t.light.target ≠ r.target → t.light.destination = min t.light.target r.cap ∧ t.light.output = r.output ∧
      t.light.ramp = rampOf r.output t.light.destination ∧
      (r.inFlight = true → t.light.nextClaim = some pair ∧ t.light.claimSent = r.claimSent ∧ t.light.inFlight = true ∧
        t.light.capped = r.capped ∧ t.handed = s.handed) ∧
      (r.inFlight = false → pair ≠ r.claimSent → t.light.claimSent = pair ∧ t.light.inFlight = true ∧
        t.light.capped = r.capped ∧ t.handed = s.handed ++ [.slot0Claim pair.requested pair.minimum]) ∧
      (r.inFlight = false → pair = r.claimSent → t.light.inFlight = false ∧ t.handed = s.handed ∧
        t.light.capped = decide (r.cap < t.light.target) ∧
        (r.capped = false → r.cap < t.light.target → Pending (.light .capped) t)))) ∧
  (∀ ps : List Point, curveOrdered ps = true →
    (∀ q ∈ ps, curveLevel ps q.lux = q.level) ∧
    (∀ q rest lux, ps = q :: rest → lux ≤ q.lux → curveLevel ps lux = q.level) ∧
    (∀ q front lux, ps = front ++ [q] → q.lux ≤ lux → curveLevel ps lux = q.level) ∧
    (∀ a b front back lux, ps = front ++ a :: b :: back → a.lux < lux → lux < b.lux →
      curveLevel ps lux = a.level + (b.level - a.level) * (lux - a.lux) / (b.lux - a.lux)))

/-- R116 to R120, R134: a read event moves each sensor, raises SENSOR_FAIL at a third failed read, and, the freeze being off, joins the effective
reading to the last 20 and moves the estimate up on three readings or down on twenty, and leaves it otherwise; with no sensor OK both are cleared.
R125: a changed estimate has the target recomputed, an unchanged one leaves it. That a read event between the entry to DARK and the DARK notice still
reads is the model's choice (notes/assumptions/32.md). -/
def Obligations.ReadEventMovesTheEstimate : Prop :=
  ∀ (s : State) (front rear : Option Nat), Alive s →
    (s.light.readTimer = none → exec (.readEvent front rear) s = .next (finish s)) ∧
    (s.light.readTimer ≠ none → ∃ t, exec (.readEvent front rear) s = .next t ∧ t.light.readTimer = some (ms 100) ∧
      t.light.front = readSensor front s.light.front ∧ t.light.rear = readSensor rear s.light.rear ∧
      ((s.light.front.failed = false ∧ t.light.front.failed = true) ∨
        (s.light.rear.failed = false ∧ t.light.rear.failed = true) → Pending (.light .sensorFail) t) ∧
      (t.light.estimate = s.light.estimate → t.light.target = s.light.target ∧ t.handed = s.handed) ∧
      (t.light.estimate ≠ s.light.estimate → TargetFollows t) ∧
      (s.light.freeze = true → t.light.window = s.light.window ∧ t.light.estimate = s.light.estimate) ∧
      (s.light.freeze = false →
        (∀ v, (∃ f r, front = some f ∧ rear = some r ∧ f ≤ 131071 ∧ r ≤ 131071 ∧
                v = max f (r * s.store.working.rearFactor / 16)) ∨
              (front = some v ∧ v ≤ 131071 ∧ ∀ r, rear = some r → 131071 < r) ∨
              (∃ r, rear = some r ∧ r ≤ 131071 ∧ v = r * s.store.working.rearFactor / 16 ∧
                ∀ f, front = some f → 131071 < f) →
          t.light.window = (s.light.window ++ [v]).drop (s.light.window.length + 1 - 20) ∧
          (∀ old x y z, t.light.window = old ++ [x, y, z] →
            (s.light.estimate = none ∨ ∃ e, s.light.estimate = some e ∧ e < min x (min y z)) →
            t.light.estimate = some (min x (min y z))) ∧
          (∀ e g, s.light.estimate = some e → t.light.window.length = 20 → g ∈ t.light.window → (∀ x ∈ t.light.window, x ≤ g) →
            g < e → t.light.estimate = some g) ∧
          (∀ e, s.light.estimate = some e → (∀ old x y z, t.light.window = old ++ [x, y, z] → min x (min y z) ≤ e) →
            (t.light.window.length < 20 ∨ ∃ g ∈ t.light.window, e ≤ g) → t.light.estimate = some e) ∧
          (s.light.estimate = none → t.light.window.length < 3 → t.light.estimate = none)) ∧
        ((∀ f, front = some f → 131071 < f) → (∀ r, rear = some r → 131071 < r) →
          (t.light.front.failed = true ∧ t.light.rear.failed = true → t.light.window = [] ∧ t.light.estimate = none) ∧
          (t.light.front.failed = false ∨ t.light.rear.failed = false →
            t.light.window = s.light.window ∧ t.light.estimate = s.light.estimate)))) ∧
    (∀ (x : Sensor) (v : Nat), v ≤ 131071 → readSensor (some v) x = { failed := false, failedReads := 0, last := some v }) ∧
    (∀ (x : Sensor) (reading : Option Nat), (∀ v, reading = some v → 131071 < v) → readSensor reading x =
      if x.failed then x else { x with failedReads := x.failedReads + 1, failed := decide (3 ≤ x.failedReads + 1) })

/-- R130 to R133: a slot 0 grant gives the cap, drops an output above it at once, and as an answer ends the claim in flight or sends the next one; a
ramp step moves the output by the up step or the down step without passing the destination. R132: the capped test follows an answer, and a grant that
is none when it changes the cap, and waits while a claim is in flight. R129, R131: the power map gives 0 at level 0 and P0 + (Pfull - P0) * L / 1023,
rounded up, at a level L above it, never falls, and the level cap of a grant is the highest level whose power is no greater than the grant. R133: the
ramp is RISING below the destination, FALLING above it and IDLE at it. That a ramp step between the entry to DARK and the DARK notice still moves the
output, and a grant taken there follows the target held, is the model's choice (notes/assumptions/34.md, 35.md). -/
def Obligations.GrantsCapTheOutputAndStepsRamp : Prop :=
  ((∀ (s : State) (g : Nat) (answer : Bool), Alive s → Foremost (.slot0GrantHandoff g answer) s →
    ∃ t, exec (.slot0GrantHandoff g answer) s = .next t ∧
    t.light.grantTaken = g ∧ t.light.cap = capOf s.light.settings g ∧ t.light.output = min s.light.output t.light.cap ∧
    t.light.destination = min s.light.target t.light.cap ∧ t.light.ramp = rampOf t.light.output t.light.destination ∧
    t.light.target = s.light.target ∧
    (answer = false → t.light.inFlight = s.light.inFlight ∧ t.light.claimSent = s.light.claimSent ∧
      t.light.nextClaim = s.light.nextClaim ∧
      (s.light.inFlight = true ∨ t.light.cap = s.light.cap → t.light.capped = s.light.capped) ∧
      (s.light.inFlight = false → t.light.cap ≠ s.light.cap → t.light.capped = decide (t.light.cap < t.light.target) ∧
        (s.light.capped = false → t.light.cap < t.light.target → Pending (.light .capped) t))) ∧
    (answer = true → t.light.nextClaim = none ∧
      (∀ c, s.light.nextClaim = some c → c ≠ s.light.claimSent → t.light.claimSent = c ∧ t.light.inFlight = true ∧
        t.light.capped = s.light.capped ∧ .slot0Claim c.requested c.minimum ∈ t.handed) ∧
      (s.light.nextClaim = none ∨ s.light.nextClaim = some s.light.claimSent → t.light.inFlight = false ∧
        t.light.claimSent = s.light.claimSent ∧ t.light.capped = decide (t.light.cap < t.light.target) ∧
        (s.light.capped = false → t.light.cap < t.light.target → Pending (.light .capped) t)))) ∧
  (∀ s : State, Alive s →
    (s.light.stepTimer = none → exec .rampStep s = .next (finish s)) ∧
    (s.light.stepTimer ≠ none →
      let out := if s.light.output < s.light.destination then min s.light.destination (s.light.output + s.store.working.upStep)
        else max s.light.destination (s.light.output - s.store.working.downStep)
      exec .rampStep s = .next (finish { s with light := { s.light with
        output := out, ramp := rampOf out s.light.destination,
        stepTimer := if out = s.light.destination then none else some (ms 20) } })))) ∧
  (∀ p : LightSettings, p.p0 ≤ p.pfull → 1 ≤ p.pfull →
    powerOf p 0 = 0 ∧ powerOf p 1023 = p.pfull ∧ (∀ a b, a ≤ b → powerOf p a ≤ powerOf p b) ∧
    (∀ a, 1 ≤ a → 1 ≤ powerOf p a) ∧
    (∀ a, 1 ≤ a → a ≤ 1023 →
      let x := powerOf p a - p.p0
      p.p0 ≤ powerOf p a ∧ (p.pfull - p.p0) * a ≤ x * 1023 ∧ x * 1023 < (p.pfull - p.p0) * a + 1023) ∧
    (∀ g, capOf p g ≤ 1023 ∧ powerOf p (capOf p g) ≤ g ∧ ∀ a, capOf p g < a → a ≤ 1023 → g < powerOf p a)) ∧
  (∀ output destination : Nat, (rampOf output destination = .rising ↔ output < destination) ∧
    (rampOf output destination = .falling ↔ destination < output) ∧ (rampOf output destination = .idle ↔ output = destination))

/-- R125, R128, R129, R134, R135, R137, R138: what the expiry of a pin, the notices of an episode and of a system state, a changed setting and
PART_RESET do to the backlight record. R134: the end of an episode ends the freeze and clears the window; the estimate is unknown when no sensor is OK,
and a changed estimate has the target recomputed. R135: a changed P0 or Pfull, minimum level or failsafe level is the one in force from the event that takes
it; until then the one last taken is (notes/assumptions/26.md). That the event takes the value the profile then holds, though the change was told for
an earlier one, is the model's choice (33.md). That a STARTING notice taken in a system that is DARK again starts no reads and makes
the target OFF is the model's choice (notes/assumptions/8.md), and so is that a changed P0, Pfull or minimum level taken between the entry to DARK and
the DARK notice follows the target held (35.md). R132, R135, R138: PART_RESET sets capped to no, and the capped test follows unless a claim is in
flight; that it follows when neither the target nor the cap has changed is the model's choice (37.md). -/
def Obligations.BacklightTakesItsNotices : Prop :=
  ∀ s : State, Alive s →
    let p := s.store.working
    let held := s.light.settings
    let pair : LightSettings → Nat → Claim := fun q target =>
      { requested := powerOf q target, minimum := min (powerOf q q.minLevel) (powerOf q target) }
    let claims : State → Prop := fun t =>
      (s.light.inFlight = true → t.light.nextClaim = some (pair t.light.settings t.light.target)) ∧
      (s.light.inFlight = false → t.light.claimSent = pair t.light.settings t.light.target)
    (∀ pin, s.light.pin = some pin → pin.remaining ≠ none → exec .pinExpiry s =
      .next (finish (retarget (({ s with light := { s.light with pin := none } }).raise (.light .pinExpired))))) ∧
    ((∀ pin, s.light.pin = some pin → pin.remaining = none) → exec .pinExpiry s = .next (finish s)) ∧
    (Foremost .episodeActiveNotice s →
      let m := s.take .episodeActiveNotice
      exec .episodeActiveNotice s = .next (finish { m with light := { m.light with freeze := true } })) ∧
    (Foremost .episodeEndedNotice s →
      (s.light.freeze = false → exec .episodeEndedNotice s = .next (finish (s.take .episodeEndedNotice))) ∧
      (s.light.freeze = true →
        let m := s.take .episodeEndedNotice
        let estimate := if s.light.front.failed = true ∧ s.light.rear.failed = true then none else s.light.estimate
        let u := { m with light := { m.light with freeze := false, window := [], estimate := estimate } }
        (estimate = s.light.estimate → exec .episodeEndedNotice s = .next (finish u)) ∧
        (estimate ≠ s.light.estimate → exec .episodeEndedNotice s = .next (finish (retarget u)) ∧ TargetFollows (finish (retarget u)) ∧
          (retarget u).light.freeze = false ∧ (retarget u).light.window = [] ∧ (retarget u).light.estimate = none))) ∧
    (Foremost (.backlightStateNotice .starting) s →
      ∃ t, exec (.backlightStateNotice .starting) s = .next t ∧
        t.light.readTimer = (if s.system.state = .dark then s.light.readTimer else some (ms 100)) ∧
        TargetFollows t ∧ t.light.destination = min t.light.target s.light.cap ∧ claims t) ∧
    (∀ st, st = .run ∨ st = .stopping → Foremost (.backlightStateNotice st) s →
      exec (.backlightStateNotice st) s = .next (finish (s.take (.backlightStateNotice st)))) ∧
    (Foremost (.backlightStateNotice .dark) s → ∃ t, exec (.backlightStateNotice .dark) s = .next t ∧
      t.attention.sets[lightSource] = 0 ∧ t.light.readTimer = none ∧
      t.light.front = { s.light.front with failed := false, failedReads := 0 } ∧
      t.light.rear = { s.light.rear with failed := false, failedReads := 0 } ∧ t.light.window = [] ∧
      t.light.estimate = none ∧ t.light.pin = none ∧ t.light.panelOn = true ∧ t.light.target = 0 ∧ t.light.source = .off ∧
      t.light.destination = 0 ∧ t.light.output = 0 ∧ t.light.ramp = .idle ∧ t.light.stepTimer = none ∧
      t.light.capped = false ∧ t.light.freeze = false ∧ t.light.curve = s.light.curve ∧
      (s.light.inFlight = true → t.light.nextClaim = some { requested := 0, minimum := 0 }) ∧
      (s.light.inFlight = false → t.light.claimSent = { requested := 0, minimum := 0 })) ∧
    (∀ n, n = 11 ∨ n = 12 → Foremost (.backlightProfileChange n) s → ∃ t, exec (.backlightProfileChange n) s = .next t ∧
      t.light.settings = { held with p0 := p.p0, pfull := p.pfull } ∧
      t.light.cap = capOf t.light.settings s.light.grantTaken ∧ t.light.output = min s.light.output t.light.cap ∧
      t.light.target = s.light.target ∧ t.light.destination = min s.light.target t.light.cap ∧ claims t) ∧
    (Foremost (.backlightProfileChange 13) s → ∃ t, exec (.backlightProfileChange 13) s = .next t ∧
      t.light.settings = { held with minLevel := p.minLevel } ∧ t.light.target = s.light.target ∧
      t.light.cap = s.light.cap ∧ claims t) ∧
    (Foremost (.backlightProfileChange 14) s →
      let m := s.take (.backlightProfileChange 14)
      exec (.backlightProfileChange 14) s = .next (finish (retarget { m with
        light := { m.light with settings := { held with failsafeLevel := p.failsafeLevel } } }))) ∧
    (∀ n, 15 ≤ n → Foremost (.backlightProfileChange n) s →
      exec (.backlightProfileChange n) s = .next (finish (s.take (.backlightProfileChange n)))) ∧
    (Foremost .backlightPartReset s → ∃ t, exec .backlightPartReset s = .next t ∧ t.light.curve = p.defaultCurve ∧
      t.light.settings = { p0 := p.p0, pfull := p.pfull, minLevel := p.minLevel, failsafeLevel := p.failsafeLevel } ∧
      t.light.pin = none ∧ t.light.panelOn = s.light.panelOn ∧ t.light.window = s.light.window ∧
      t.light.estimate = s.light.estimate ∧ t.light.freeze = s.light.freeze ∧ t.light.grantTaken = s.light.grantTaken ∧
      t.light.cap = capOf t.light.settings s.light.grantTaken ∧ t.light.output = min s.light.output t.light.cap ∧
      TargetFollows t ∧ t.light.destination = min t.light.target t.light.cap ∧ claims t ∧
      (t.light.inFlight = true → t.light.capped = false) ∧
      (t.light.inFlight = false → t.light.capped = decide (t.light.cap < t.light.target) ∧
        (t.light.cap < t.light.target → Pending (.light .capped) t)))

/-! ### The Motion Monitor -/

/-- R150 to R153, R155: ARM begins sampling in STARTING and RUN, DISARM stops it and hands the disarm notice over, SIMULATE_FALL starts a fall out
of LEVEL or SUSPECT in STARTING and RUN, and the notices and PART_RESET start and stop the sampling. That a request is judged by the system state
though its notice still waits, and that PART_RESET takes the armed at start of the profile as it stands when the Monitor takes its part, are the
model's choices (notes/assumptions/8.md, 31.md). -/
def Obligations.MotionRequestsAndNotices : Prop :=
  ∀ s : State, Alive s →
    let r := s.motion
    let on := s.system.state = .starting ∨ s.system.state = .run
    let level := fun (r : MotionRec) => { r with
      state := .level, lowCount := 0, quietCount := 0, missedCount := 0, faultInFall := false, sampleTimer := some 5 }
    let off := fun (r : MotionRec) => { r with
      state := .off, lowCount := 0, quietCount := 0, missedCount := 0, faultInFall := false, sampleTimer := none }
    (r.armed = true → exec .arm s = .next (answered (okReply []) s)) ∧
    (r.armed = false → on → exec .arm s =
      .next (answered (okReply []) { s with motion := level { r with armed := true } })) ∧
    (r.armed = false → ¬on → exec .arm s = .next (answered (okReply []) { s with motion := { r with armed := true } })) ∧
    (exec .disarm s = .next (answered (okReply [])
      (({ s with motion := off { r with armed := false } }).hand .disarmNotice))) ∧
    (¬on ∨ (r.state ≠ .level ∧ r.state ≠ .suspect) → exec .simulateFall s = .next (refusedWith .wrongState s)) ∧
    (on → r.state = .level ∨ r.state = .suspect → exec .simulateFall s = .next (answered (okReply [])
      (({ s with motion := { r with cls := .none, lowCount := 0, state := .falling } }).hand .fallStart))) ∧
    (Foremost (.motionStateNotice .starting) s →
     let m := s.take (.motionStateNotice .starting)
     (r.armed = true → r.state = .off → on → exec (.motionStateNotice .starting) s =
       .next (finish { m with motion := level r })) ∧
     (r.armed = false ∨ r.state ≠ .off ∨ ¬on → exec (.motionStateNotice .starting) s = .next (finish m))) ∧
    (Foremost (.motionStateNotice .run) s → exec (.motionStateNotice .run) s = .next (finish (s.take (.motionStateNotice .run)))) ∧
    (Foremost (.motionStateNotice .stopping) s →
     let m := s.take (.motionStateNotice .stopping)
     exec (.motionStateNotice .stopping) s = .next (finish { m with motion := off r })) ∧
    (Foremost (.motionStateNotice .dark) s →
     let m := s.take (.motionStateNotice .dark)
     exec (.motionStateNotice .dark) s = .next (finish { m with
       motion := { off r with cls := .none, armed := s.store.working.armedAtStart, lastMagnitude := none } })) ∧
    (Foremost .motionPartReset s →
     let m := s.take .motionPartReset
     let p := { r with armed := s.store.working.armedAtStart, cls := .none }
     (p.armed = true → on → exec .motionPartReset s = .next (finish { m with motion := level p })) ∧
     (p.armed = false ∨ ¬on → exec .motionPartReset s = .next (finish { m with motion := off p })))

/-- R141, R143 to R149: what a good sample and a missed one do in each motion state, and the declarations they make. R142: the magnitude is the
square root of the sum of the squares, rounded down, and its band is the first row that applies. -/
def Obligations.SamplesMoveTheFallStatesByBand : Prop :=
  (∀ s : State, Alive s → MotionLaw s.motion →
    (s.motion.state = .off → ∀ reading, exec (.sampleEvent reading) s = .next (finish s)) ∧
    (s.motion.state ≠ .off →
      (∀ a : Axes, axisOk a.x = true → axisOk a.y = true → axisOk a.z = true →
        let p := s.store.working
        let band := bandOf p (magnitude a)
        let r := { s.motion with sampleTimer := some 5, missedCount := 0, lastMagnitude := some (magnitude a) }
        let out := fun (r' : MotionRec) (declared : List Instr) => exec (.sampleEvent (some a)) s =
          .next (finish (({ s with motion := r' }).handAll declared))
        let settling := { r with
          state := .settling, lowCount := if band = .low then 1 else 0, quietCount := if band = .quiet then 1 else 0 }
        (r.state = .level → band = .low → out { r with state := .suspect, lowCount := 1 } []) ∧
        (r.state = .level → band ≠ .low → out { r with lowCount := 0 } []) ∧
        (r.state = .suspect → band = .low → r.lowCount + 1 < p.qualifyCount → out { r with lowCount := r.lowCount + 1 } []) ∧
        (r.state = .suspect → band = .low → p.qualifyCount ≤ r.lowCount + 1 →
          out { r with lowCount := r.lowCount + 1, cls := .none, state := .falling } [.fallStart]) ∧
        (r.state = .suspect → band ≠ .low → out { r with state := .level, lowCount := 0 } []) ∧
        (r.state = .falling → band = .low → out r []) ∧
        (r.state = .falling → band = .light →
          out { r with state := .impact, cls := if r.cls = .hard then .hard else .light, lowCount := 0 } []) ∧
        (r.state = .falling → band = .hard → out { r with state := .impact, cls := .hard, lowCount := 0 } []) ∧
        (r.state = .falling → band = .quiet ∨ band = .moving → out settling []) ∧
        (r.state = .impact → band = .light → out r []) ∧
        (r.state = .impact → band = .hard → out { r with cls := .hard } []) ∧
        (r.state = .impact → band ≠ .light → band ≠ .hard →
          out settling [.impact (if r.cls = .hard then .hard else .light)]) ∧
        (r.state = .settling → band = .quiet → r.quietCount + 1 < p.settleCount →
          out { r with quietCount := r.quietCount + 1, lowCount := 0 } []) ∧
        (r.state = .settling → band = .quiet → p.settleCount ≤ r.quietCount + 1 →
          out { r with state := .level, quietCount := 0, lowCount := 0 } [.settled r.cls]) ∧
        (r.state = .settling → band = .low → out { r with lowCount := r.lowCount + 1, quietCount := 0,
                                                          state := if p.qualifyCount ≤ r.lowCount + 1 then .falling else .settling } []) ∧
        (r.state = .settling → band ≠ .quiet → band ≠ .low → out { r with quietCount := 0, lowCount := 0 } []) ∧
        (r.state = .fault → out { r with state := .level, lowCount := 0, quietCount := 0, faultInFall := false }
          (if r.faultInFall then [.settled r.cls] else []))) ∧
      (let r : MotionRec := { s.motion with sampleTimer := some 5 }
       (r.missedCount < 7 ∨ r.state = .fault → exec (.sampleEvent none) s =
         .next (finish { s with motion := { r with missedCount := min 8 (r.missedCount + 1) } })) ∧
       (7 ≤ r.missedCount → r.state ≠ .fault →
         let f : MotionRec := { r with
           state := .fault, missedCount := 8, lowCount := 0, quietCount := 0,
           faultInFall := decide (r.state = .falling ∨ r.state = .impact ∨ r.state = .settling) }
         let declared : List Instr := if r.state = .impact then [.impact (if r.cls = .hard then .hard else .light)] else []
         exec (.sampleEvent none) s =
           .next (finish ((({ s with motion := f }).handAll declared).raise (.fall .sensorFault)))) ∧
       (∀ a : Axes, axisOk a.x = false ∨ axisOk a.y = false ∨ axisOk a.z = false →
         exec (.sampleEvent (some a)) s = exec (.sampleEvent none) s)))) ∧
  ((∀ a : Axes, axisOk a.x = true → axisOk a.y = true → axisOk a.z = true →
    let n := (a.x * a.x + a.y * a.y + a.z * a.z).toNat
    magnitude a * magnitude a ≤ n ∧ n < (magnitude a + 1) * (magnitude a + 1)) ∧
  ∀ (p : Profile) (m : Nat), p.consistent = true →
    (bandOf p m = .hard ↔ p.hardThreshold ≤ m) ∧
    (bandOf p m = .light ↔ p.lightThreshold ≤ m ∧ m < p.hardThreshold) ∧
    (bandOf p m = .low ↔ m < p.lowThreshold) ∧
    (bandOf p m = .quiet ↔ p.quietFloor ≤ m ∧ m ≤ p.quietCeiling) ∧
    (bandOf p m = .moving ↔ (p.lowThreshold ≤ m ∧ m < p.quietFloor) ∨ (p.quietCeiling < m ∧ m < p.lightThreshold)))

/-! ### The Protection Sequencer -/

/-- R158, R160, R165, R166, R171: what a FALL_START, an IMPACT, a SETTLED, a disarm notice and the protect answer do in each episode state. That the
lines of the answer are asserted in its order is the model's choice (notes/assumptions/27.md), and so is that an answer whose wait PART_RESET or
DARK ended is taken as the answer of a newer protect claim that is waited for when it comes (notes/assumptions/38.md). -/
def Obligations.EpisodeOpensAndTurns : Prop :=
  ∀ s : State, Alive s → EpisodeLaw s.episode →
    let e := s.episode
    (Foremost .fallStart s →
     let m := s.take .fallStart
     let ask := fun (e' : EpisodeRec) => exec .fallStart s =
       .next (finish ((({ m with episode := e' }).hand .protectClaim).raise (.fall .fall)))
     (e.protectPending = true → exec .fallStart s =
       .next (finish (({ m with episode := { e with settleHeld := false } }).raise (.fall .fall)))) ∧
     (e.protectPending = false → e.state = .idle →
       ask { e with cls := .none, settleHeld := false, disarmHeld := false, protectPending := true }) ∧
     (e.protectPending = false → e.state = .protecting ∨ e.state = .holding →
       ask { e with state := .protecting, protectPending := true }) ∧
     (e.protectPending = false → e.state = .recovering →
       ask { (e.mapLines fun _ l => { l with unparkTimer := none }) with state := .protecting, protectPending := true })) ∧
    (∀ k : Strike, Foremost (.impact k) s →
      let m := s.take (.impact k)
      let cls : ImpactClass := if e.cls = .hard ∨ k = .hard then .hard else .light
      let reason : Attention := .fall (if k = .hard then .impactHard else .impactLight)
      (e.state = .idle → e.protectPending = false → exec (.impact k) s = .next (finish (m.raise reason))) ∧
      (e.state = .recovering → exec (.impact k) s =
        .next (finish (({ m with episode := { e with cls := cls } }).raise reason))) ∧
      (e.state = .protecting ∨ e.state = .holding ∨ e.protectPending = true → exec (.impact k) s =
        .next (finish ((({ m with episode := { e with cls := cls } }).hand .lateClaim).raise reason)))) ∧
    (∀ c : ImpactClass, Foremost (.settled c) s →
      let m := s.take (.settled c)
      (e.state = .protecting → e.protectPending = false → s.store.working.protectionMode = .auto →
        exec (.settled c) s = .next (finish (enterRecovering m))) ∧
      (e.state = .protecting → e.protectPending = false → s.store.working.protectionMode = .hold → exec (.settled c) s =
        .next (finish (({ m with episode := { e with state := .holding } }).raise (.fall .hold)))) ∧
      (e.protectPending = true → exec (.settled c) s = .next (finish { m with episode := { e with settleHeld := true } })) ∧
      (e.protectPending = false → e.state ≠ .protecting → exec (.settled c) s = .next (finish m))) ∧
    (Foremost .disarmNotice s →
     let m := s.take .disarmNotice
     (e.state = .idle ∨ e.state = .recovering → exec .disarmNotice s = .next (finish m)) ∧
     (e.state = .protecting → e.protectPending = true → exec .disarmNotice s =
       .next (finish { m with episode := { e with disarmHeld := true } })) ∧
     (e.state = .protecting ∨ e.state = .holding → e.protectPending = false →
       exec .disarmNotice s = .next (finish (enterRecovering m)))) ∧
    (∀ lines : List Line, lines.Nodup → Foremost (.protectAnswer lines) s →
      (e.protectPending = false → exec (.protectAnswer lines) s = .next (finish (s.take (.protectAnswer lines)))) ∧
      (e.protectPending = true → ∃ t, exec (.protectAnswer lines) s = .next t ∧ t.episode.protectPending = false ∧
        t.episode.settleHeld = false ∧ t.episode.disarmHeld = false ∧
        (e.state = .idle → .deferClaim ∈ t.handed ∧ .episodeActiveNotice ∈ t.handed) ∧
        (e.disarmHeld = false → e.settleHeld = false → t.handed = (s.take (.protectAnswer lines)).handed ++
          (if e.state = .idle then [.deferClaim, .episodeActiveNotice] else []) ++
          (lines.filter fun n => e.lines[n].doneActive).map Instr.lineDoneClaim) ∧
        (∀ n ∈ lines, e.lines[n].doneActive = true → .lineDoneClaim n ∈ t.handed) ∧
        (e.disarmHeld = false → e.settleHeld = false → t.episode.state = .protecting ∧ ∀ n : Line,
          (n ∉ lines → t.episode.lines[n] = e.lines[n]) ∧
          (n ∈ lines → e.lines[n].doneActive = true → t.episode.lines[n] = { e.lines[n] with
            requestOn := true, state := .done, parkTimer := none, unparkTimer := none }) ∧
          (n ∈ lines → e.lines[n].doneActive = false → t.episode.lines[n] = { e.lines[n] with
            requestOn := true, state := .requested, parkTimer := some (ms s.store.working.parkTimeout), unparkTimer := none })) ∧
        (e.disarmHeld = false → e.settleHeld = true → s.store.working.protectionMode = .hold →
          t.episode.state = .holding ∧ Pending (.fall .hold) t) ∧
        (e.disarmHeld = true ∨ (e.settleHeld = true ∧ s.store.working.protectionMode = .auto) →
          (t.episode.state = .recovering ∨ t.episode.state = .idle) ∧ .cutReturnClaim ∈ t.handed)))

/-- R161 to R163, R166, R168, R173, R174: the events of a park line, RESUME, and what the system-off clear and PART_RESET do to the episode. R167,
R170: the entry into RECOVERING turns every line's request off; a line that is not IDLE is IDLE at once when its done input is INACTIVE and is
lifted within 500 ms otherwise. The return claims follow, the requalifies after a HARD class, and the episode ends when every line is IDLE. The
order of the line return claims is the model's choice (notes/assumptions/27.md). -/
def Obligations.ParkLinesRecoveryAndEpisodeEnds : Prop :=
  (∀ s : State, Alive s → EpisodeLaw s.episode →
    let e := s.episode
    (∀ n : Line,
      let l := e.lines[n]
      let put := fun (l' : LineRec) => { s with episode := e.setLine n l' }
      let lifted := { l with state := .idle, unparkTimer := none }
      let last := ∀ k : Line, k ≠ n → e.lines[k].state = .idle
      exec (.doneInputChange n l.doneActive) s = .next (finish s) ∧
      (l.doneActive = false → l.state = .requested → l.requestOn = true → exec (.doneInputChange n true) s =
        .next (finish ((put { l with doneActive := true, state := .done, parkTimer := none }).hand (.lineDoneClaim n)))) ∧
      (l.doneActive = false → l.state ≠ .requested ∨ l.requestOn = false → exec (.doneInputChange n true) s =
        .next (finish (put { l with doneActive := true }))) ∧
      (l.doneActive = true → l.unparkTimer = none → exec (.doneInputChange n false) s =
        .next (finish (put { l with doneActive := false }))) ∧
      (l.doneActive = true → l.unparkTimer ≠ none → ¬last → exec (.doneInputChange n false) s =
        .next (finish ((put { lifted with doneActive := false }).hand (.lineReturnClaim n)))) ∧
      (l.doneActive = true → l.unparkTimer ≠ none → last → ∃ t, exec (.doneInputChange n false) s = .next t ∧
        t.episode.state = .idle ∧ t.episode.lines[n] = { lifted with doneActive := false } ∧
        t.handed = s.handed ++ [.lineReturnClaim n, .liftClaim, .releaseClaim, .episodeEndedNotice] ∧
        Pending (.fall .recovered) t) ∧
      (l.parkTimer = none → exec (.parkTimerExpiry n) s = .next (finish s)) ∧
      (l.parkTimer ≠ none → exec (.parkTimerExpiry n) s =
        .next (finish ((put { l with state := .failed, parkTimer := none }).hand (.lineFailedClaim n)))) ∧
      (l.unparkTimer = none → exec (.unparkTimerExpiry n) s = .next (finish s)) ∧
      (l.unparkTimer ≠ none → ¬last → exec (.unparkTimerExpiry n) s =
        .next (finish ((put lifted).hand (.lineReturnClaim n)))) ∧
      (l.unparkTimer ≠ none → last → ∃ t, exec (.unparkTimerExpiry n) s = .next t ∧ t.episode.state = .idle ∧
        t.episode.lines[n] = lifted ∧ Pending (.fall .recovered) t ∧
        t.handed = s.handed ++ [.lineReturnClaim n, .liftClaim, .releaseClaim, .episodeEndedNotice])) ∧
    (e.state ≠ .holding → exec .resume s = .next (refusedWith .wrongState s)) ∧
    (e.state = .holding → exec .resume s = .next (answered (okReply []) (enterRecovering s))) ∧
    (Foremost .sequencerSystemOffClear s →
     let m := s.take .sequencerSystemOffClear
     let idle := fun (_ : Line) (l : LineRec) =>
       { l with requestOn := false, parkTimer := none, unparkTimer := none, state := .idle }
     let u := { m with episode := { (e.mapLines idle) with
       state := .idle, cls := .none, protectPending := false, settleHeld := false, disarmHeld := false } }
     (e.state = .idle → e.protectPending = false → exec .sequencerSystemOffClear s = .next (finish u)) ∧
     (e.state ≠ .idle ∨ e.protectPending = true → exec .sequencerSystemOffClear s =
       .next (finish (u.handAll [.liftClaim, .releaseClaim, .episodeEndedNotice])))) ∧
    (Foremost .sequencerPartReset s →
     let m := s.take .sequencerPartReset
     let none := { e with protectPending := false, settleHeld := false, disarmHeld := false }
     (e.state = .protecting ∨ e.state = .holding → exec .sequencerPartReset s =
       .next (finish (enterRecovering { m with episode := none }))) ∧
     (e.state = .idle → e.protectPending = true → exec .sequencerPartReset s =
       .next (finish (({ m with episode := none }).hand .liftClaim))) ∧
     (e.state = .recovering ∨ (e.state = .idle ∧ e.protectPending = false) → exec .sequencerPartReset s =
       .next (finish m)))) ∧
  (∀ s : State, EpisodeLaw s.episode →
    let e := s.episode
    let u := enterRecovering s
    let now := (List.finRange 4).filter fun n : Line => e.lines[n].state != .idle && !e.lines[n].doneActive
    let ends := ∀ n : Line, e.lines[n].state = .idle ∨ e.lines[n].doneActive = false
    let claims := [.cutReturnClaim] ++ now.map Instr.lineReturnClaim ++
      if e.cls = .hard then [.requalify .bayA, .requalify .bayB] else []
    (∀ n : Line, (u.episode.lines[n]).requestOn = false ∧ (u.episode.lines[n]).parkTimer = none ∧
      (u.episode.lines[n]).doneActive = e.lines[n].doneActive ∧
      (e.lines[n].state = .idle ∨ e.lines[n].doneActive = false → (u.episode.lines[n]).state = .idle ∧
        (e.state ≠ .recovering → (u.episode.lines[n]).unparkTimer = none)) ∧
      (e.lines[n].state ≠ .idle → e.lines[n].doneActive = true →
        (u.episode.lines[n]).state = e.lines[n].state ∧ (u.episode.lines[n]).unparkTimer = some (ms 500))) ∧
    (¬ends → u.episode.state = .recovering ∧ u.handed = s.handed ++ claims) ∧
    (ends → u.episode.state = .idle ∧ Pending (.fall .recovered) u ∧
      u.handed = s.handed ++ claims ++ [.liftClaim, .releaseClaim, .episodeEndedNotice]))

/-! ### System power, the profile and the attentions -/

/-- R193 to R198: the button times a press or a hold, a start press is judged against the start gate, READY and POWER_OFF change the system state,
and a long press, a forced-off claim, the start timer and the stop timer enter DARK; each change hands its notices over. That the notices reach the
blocks as claims, each in its turn, and in this order, is the model's choice (notes/assumptions/8.md, 20.md). -/
def Obligations.SystemStateMoves : Prop :=
  ∀ s : State, Alive s →
    let r := s.system
    let tell : SystemState → List Instr := fun st => [.supplyStateNotice st, .backlightStateNotice st, .motionStateNotice st]
    let clears : List Instr :=
      [.loadManagerSystemOffClear] ++ tell .dark ++ [.sequencerSystemOffClear, .attentionSystemOffClear]
    let dark : State → State := fun s => ({ s with system := { s.system with
      state := .dark, startTimer := none, stopTimer := none, holdTimer := none, pressReady := !s.system.buttonDown } }).handAll
      clears
    (exec (.buttonChange r.buttonDown) s = .next (finish s)) ∧
    (r.buttonDown = true → exec (.buttonChange false) s = .next (finish { s with system := { r with
      buttonDown := false, pressReady := true, pressTimer := none, holdTimer := none } })) ∧
    (r.buttonDown = false → r.pressReady = false → exec (.buttonChange true) s =
      .next (finish { s with system := { r with buttonDown := true } })) ∧
    (r.buttonDown = false → r.pressReady = true → r.state = .dark → exec (.buttonChange true) s =
      .next (finish { s with system := { r with buttonDown := true, pressTimer := some (ms 100) } })) ∧
    (r.buttonDown = false → r.pressReady = true → r.state ≠ .dark → exec (.buttonChange true) s =
      .next (finish { s with system := { r with buttonDown := true, holdTimer := some (sec 4) } })) ∧
    (r.pressTimer = none → exec .pressTimerExpiry s = .next (finish s)) ∧
    (r.pressTimer ≠ none → r.state = .dark → s.store.working.startThreshold ≤ s.supply.ceiling →
      exec .pressTimerExpiry s = .next (finish (({ s with system := { r with
        state := .starting, pressReady := false, pressTimer := none, startTimer := some (sec 20) } }).handAll
        (tell .starting)))) ∧
    (r.pressTimer ≠ none → r.state ≠ .dark ∨ s.supply.ceiling < s.store.working.startThreshold →
      exec .pressTimerExpiry s = .next (finish { s with system := { r with pressReady := false, pressTimer := none } })) ∧
    (r.holdTimer = none ∨ r.state = .dark → exec .holdTimerExpiry s = .next (finish s)) ∧
    (r.holdTimer ≠ none → r.state ≠ .dark → exec .holdTimerExpiry s = .next (finish (dark s))) ∧
    (r.state = .dark → exec .forcedOff s = .next (finish (s.take .forcedOff))) ∧
    (r.state ≠ .dark → exec .forcedOff s = .next (finish (dark (s.take .forcedOff)))) ∧
    (r.state ≠ .starting → exec .ready s = .next (refusedWith .wrongState s)) ∧
    (r.state = .starting → exec .ready s = .next (answered (okReply [])
      (({ s with system := { r with state := .run, startTimer := none } }).handAll (tell .run)))) ∧
    (r.startTimer = none ∨ r.state ≠ .starting → exec .startTimerExpiry s = .next (finish s)) ∧
    (r.startTimer ≠ none → r.state = .starting → exec .startTimerExpiry s = .next (finish (dark s))) ∧
    (r.state ≠ .run → exec .powerOff s = .next (refusedWith .wrongState s)) ∧
    (r.state = .run → exec .powerOff s = .next (answered (okReply [])
      (({ s with system := { r with state := .stopping, stopTimer := some (sec 1) } }).handAll (tell .stopping)))) ∧
    (r.stopTimer = none ∨ r.state ≠ .stopping → exec .stopTimerExpiry s = .next (finish s)) ∧
    (r.stopTimer ≠ none → r.state = .stopping → exec .stopTimerExpiry s = .next (finish (dark s)))

/-- R140, R200 to R202: PROFILE_WRITE is checked in the order of R201, by the number, the width, a store under way, the range of R200 and what binds
settings to one another, and sets its one setting, told to the block that reads it; PROFILE_STORE takes a snapshot, and 60 ms later the stored copy
is it, with STORE_DONE or STORE_FAIL. That a store that fails leaves the snapshot as the copy, its check failing, and that a changed backlight setting is
told by its number, are the model's choices (notes/assumptions/18.md, 33.md). -/
def Obligations.ProfileIsWrittenAndStored : Prop :=
  (∀ s : State, Alive s →
    (∀ n value, n = 0 ∨ 29 < n → exec (.profileWrite n value) s = .next (refusedWith .badArgument s)) ∧
    (∀ n value, 1 ≤ n → n ≤ 29 →
      let width := if n ∈ [5, 7, 8, 9, 10, 15, 27, 28] then 1 else if n = 29 then 6 else 2
      let fills := if n = 18 then 5 * (value.headD 0).toNat + 1 = value.length else value.length = width
      let told : Profile → List Instr := fun q =>
        if n ∈ [1, 2, 6, 10] then [.supplyProfileChange] else if n = 7 then [.policyChange .bayA q.policyA]
        else if n = 8 then [.policyChange .bayB q.policyB] else if 11 ≤ n ∧ n ≤ 18 then [.backlightProfileChange n] else []
      (¬fills → exec (.profileWrite n value) s = .next (refusedWith .badLength s)) ∧
      (fills →
        (s.store.storing ≠ none → exec (.profileWrite n value) s = .next (refusedWith .busy s)) ∧
        (s.store.storing = none →
          (∀ st, putSetting n value s.store.working = .error st → exec (.profileWrite n value) s = .next (refusedWith st s)) ∧
          (putSetting n value s.store.working = .ok s.store.working →
            exec (.profileWrite n value) s = .next (answered (okReply []) s)) ∧
          (∀ q, putSetting n value s.store.working = .ok q → q ≠ s.store.working → exec (.profileWrite n value) s =
            .next (answered (okReply []) (({ s with
              store := { s.store with working := q }
              bridgeTests := s.bridgeTests ++ if n ∈ [1, 2, 6, 10] then [n == 10] else [] }).handAll (told q))))))) ∧
    (s.store.storing ≠ none → exec .profileStore s = .next (refusedWith .busy s)) ∧
    (s.store.storing = none → exec .profileStore s = .next (answered (okReply []) { s with store := { s.store with
      storing := some { snapshot := s.store.working, timer := ms 60 } } })) ∧
    (s.store.storing = none → ∀ passes, exec (.storeTimerExpiry passes) s = .next (finish s)) ∧
    (∀ x passes, s.store.storing = some x → exec (.storeTimerExpiry passes) s = .next (finish
      (({ s with store := { s.store with stored := x.snapshot, storedOk := passes, storing := none } }).raise
        (.part (if passes then .storeDone else .storeFail)))))) ∧
  (∀ p : Profile, p.p0 ≤ p.pfull → p.lowThreshold < p.quietFloor → p.quietFloor ≤ p.quietCeiling →
    p.quietCeiling < p.lightThreshold → p.lightThreshold < p.hardThreshold →
    let ranges : List (Nat × Nat × Nat) :=
      [(1, 0, 1000), (2, 0, 500), (3, 0, 1000), (4, 100, 5000), (5, 0, 30), (6, 0, 1200), (7, 0, 1), (8, 0, 1), (9, 0, 50),
       (10, 1, 60), (11, 0, 200), (12, 1, 800), (13, 1, 1023), (14, 0, 1023), (15, 0, 16), (16, 1, 1023), (17, 1, 1023),
       (19, 100, 900), (20, 500, 1000), (21, 1000, 2000), (22, 1500, 16000), (23, 2000, 24000), (24, 4, 400), (25, 40, 4000),
       (26, 50, 2000), (27, 0, 1), (28, 0, 1)]
    (∀ x ∈ ranges, ∀ v : Nat,
      let n := x.1
      let value := leBytes (if n ∈ [5, 7, 8, 9, 10, 15, 27, 28] then 1 else 2) v
      let binds := (n = 11 → v ≤ p.pfull) ∧ (n = 12 → p.p0 ≤ v) ∧ (n = 19 → v < p.quietFloor) ∧
        (n = 20 → p.lowThreshold < v ∧ v ≤ p.quietCeiling) ∧ (n = 21 → p.quietFloor ≤ v ∧ v < p.lightThreshold) ∧
        (n = 22 → p.quietCeiling < v ∧ v < p.hardThreshold) ∧ (n = 23 → p.lightThreshold < v)
      v < (if n ∈ [5, 7, 8, 9, 10, 15, 27, 28] then 256 else 65536) →
      (¬(x.2.1 ≤ v ∧ v ≤ x.2.2 ∧ binds) → putSetting n value p = .error .badArgument) ∧
      (x.2.1 ≤ v → v ≤ x.2.2 → binds → ∃ q, putSetting n value p = .ok q ∧ settingBytes q n = some value)) ∧
    (∀ ps : List Point, ps.length < 256 → ps.all Point.wellFormed = true →
      let inRange := ∀ q ∈ ps, q.lux ≤ 131071 ∧ q.level ≤ 1023
      let ordered := ps.Pairwise fun a b => a.lux < b.lux ∧ a.level ≤ b.level
      (¬inRange → putSetting 18 (curveBytes ps) p = .error .badArgument) ∧
      (inRange → 12 < ps.length → putSetting 18 (curveBytes ps) p = .error .curveFull) ∧
      (inRange → ps.length ≤ 12 → ¬ordered → putSetting 18 (curveBytes ps) p = .error .curveOrder) ∧
      (inRange → ps.length ≤ 12 → ordered → putSetting 18 (curveBytes ps) p = .ok { p with defaultCurve := ps })) ∧
    (∀ m : MaskBytes,
      let legal := m.supply &&& 0xE0 = 0 ∧ m.light &&& 0xF8 = 0 ∧ m.fall &&& 0xC0 = 0 ∧ m.part &&& 0xF8 = 0
      (legal → putSetting 29 (maskList m) p = .ok { p with masks := m }) ∧
      (¬legal → putSetting 29 (maskList m) p = .error .badArgument))) ∧
  (∀ (n : Nat) (value : List Byte) (p q : Profile), settingFills n value = true → putSetting n value p = .ok q →
    settingBytes q n = some value ∧ ∀ k, k ≠ n → settingBytes q k = settingBytes p k)

/-- R181 to R183, R185, R186: ACKNOWLEDGE clears the named reasons at one source and answers with the ones left, MASK replaces every mask at once,
the DARK notice empties the fall source, and the alert line is low while some source holds an unmasked reason. -/
def Obligations.AttentionsAreAcknowledgedAndMasked : Prop :=
  (∀ s : State, Alive s →
    (∀ n reasons, 30 ≤ n → exec (.acknowledge n reasons) s = .next (refusedWith .badArgument s)) ∧
    (∀ (i : Fin 30) (reasons : Byte),
      let held : Byte := if i.val < 26 then 0xFF else if i.val = 26 then 0x1F else if i.val = 28 then 0x3F else 0x07
      (reasons &&& ~~~held ≠ 0 → exec (.acknowledge i.val reasons) s = .next (refusedWith .badArgument s)) ∧
      (reasons &&& ~~~held = 0 →
        let left := s.attention.sets[i] &&& ~~~reasons
        exec (.acknowledge i.val reasons) s = .next (answered (okReply [left]) { s with
          attention := { s.attention with sets := s.attention.sets.set i left } }))) ∧
    (exec (.mask none) s = .next (answered (okReply (maskList s.attention.masks)) s)) ∧
    (∀ m, masksValid m = false → exec (.mask (some m)) s = .next (refusedWith .badArgument s)) ∧
    (∀ m, masksValid m = true → exec (.mask (some m)) s = .next (answered (okReply (maskList m)) { s with
      attention := { s.attention with masks := m } })) ∧
    (let m := s.take .attentionSystemOffClear
     exec .attentionSystemOffClear s = .next (finish { m with
       attention := { m.attention with sets := m.attention.sets.set fallSource 0 } }))) ∧
  (∀ m : MaskBytes, masksValid m = true ↔ m.supply &&& 0xE0 = 0 ∧ m.light &&& 0xF8 = 0 ∧ m.fall &&& 0xC0 = 0 ∧
    m.part &&& 0xF8 = 0) ∧
  (∀ s : State, (finish s).pins.alertLow = true ↔ ∃ i : Fin 30, s.attention.sets[i] &&& ~~~(maskAt s.attention.masks i) ≠ 0)

/-- R199, R203: PART_RESET empties every reason set, reloads the profile and the masks and hands the parts over, in RUN only; a power-on reset
builds every record afresh from the stored copy, or from the defaults with PROFILE_DEFAULTED, and hands over what the inputs hold. The values the
spec gives no reset for, the power gained until something feeds the part, a store cut short and the order of the parts are the model's choices (notes/assumptions/2.md,
9.md, 18.md, 20.md). -/
def Obligations.ResetsReloadTheProfile : Prop :=
  (∀ s : State, Alive s →
    (s.system.state ≠ .run → exec .partReset s = .next (refusedWith .notRunning s)) ∧
    (s.system.state = .run → ∀ p : Profile,
      (∀ x, s.store.storing = some x → p = x.snapshot) →
      (s.store.storing = none → p = if s.store.storedOk then s.store.stored else defaultProfile) →
      let cleared : AttentionRec := { sets := Vector.replicate 30 0, masks := p.masks }
      let a := if s.store.storing = none ∧ s.store.storedOk = false then cleared.raise (.part .profileDefaulted) else cleared
      exec .partReset s = .next (answered (okReply []) (({ s with
        store := { s.store with working := p }, attention := a, bridgeTests := s.bridgeTests ++ [false] }).handAll
        [.loadManagerPartReset, .supplyProfileChange, .policyChange .bayA p.policyA, .policyChange .bayB p.policyB,
         .backlightPartReset, .motionPartReset, .sequencerPartReset])))) ∧
  (∀ (s : State) (x : ResetInputs), ∃ t, exec (.powerOnReset x) s = .next t ∧ t.power = .gained ∧
    t.store.stored = s.store.stored ∧ t.store.storing = none ∧
    (s.store.storedOk = true → s.store.storing = none → t.store.working = s.store.stored ∧
      t.attention.sets = Vector.replicate 30 0) ∧
    (s.store.storedOk = false ∨ s.store.storing ≠ none → t.store.working = defaultProfile ∧ t.store.storedOk = false ∧
      Pending (.part .profileDefaulted) t) ∧
    t.attention.masks = t.store.working.masks ∧ t.load = State.reset.load ∧ t.supply = State.reset.supply ∧
    t.bayA = { State.reset.bayA with leverInput := x.leverA, leverTaken := x.leverA, policy := t.store.working.policyA } ∧
    t.bayB = { State.reset.bayB with leverInput := x.leverB, leverTaken := x.leverB, policy := t.store.working.policyB } ∧
    t.light = { State.reset.light with
      curve := t.store.working.defaultCurve
      settings := { p0 := t.store.working.p0, pfull := t.store.working.pfull, minLevel := t.store.working.minLevel,
                    failsafeLevel := t.store.working.failsafeLevel } } ∧
    t.motion = { State.reset.motion with armed := t.store.working.armedAtStart } ∧
    (∀ n : Line, t.episode.lines[n] = { State.reset.episode.lines[n] with doneActive := x.done[n] }) ∧
    t.episode.state = .idle ∧ t.system.state = .dark ∧ t.system.buttonDown = x.buttonDown ∧
    t.system.pressReady = !x.buttonDown ∧ t.port = { strapHigh := x.strapHigh, reply := none, assembly := none } ∧
    (.contactMade .bayA ∈ t.handed ↔ x.contactA = true) ∧ (.contactMade .bayB ∈ t.handed ↔ x.contactB = true) ∧
    (.inletEvent true ∈ t.handed ↔ x.inletPresent = true)) ∧
  (∀ s : State, s.store = State.reset.store →
    exec (.powerOnReset inputsAtReset) s = .next { State.reset with freeCount := s.freeCount, pending := s.pending })
end

