-- ==== Sys2Proof/Laws/State.lean ====
section
/-!
SUPPORT. What each small update of the state does to each field, so that no proof unfolds a record update.
-/
namespace Sys2Proof.Machine

@[simp] theorem State.hand_port (c : Instr) (s : State) : (s.hand c).port = s.port := rfl
@[simp] theorem State.hand_attention (c : Instr) (s : State) : (s.hand c).attention = s.attention := rfl
@[simp] theorem State.hand_load (c : Instr) (s : State) : (s.hand c).load = s.load := rfl
@[simp] theorem State.hand_supply (c : Instr) (s : State) : (s.hand c).supply = s.supply := rfl
@[simp] theorem State.hand_bayA (c : Instr) (s : State) : (s.hand c).bayA = s.bayA := rfl
@[simp] theorem State.hand_bayB (c : Instr) (s : State) : (s.hand c).bayB = s.bayB := rfl
@[simp] theorem State.hand_light (c : Instr) (s : State) : (s.hand c).light = s.light := rfl
@[simp] theorem State.hand_motion (c : Instr) (s : State) : (s.hand c).motion = s.motion := rfl
@[simp] theorem State.hand_episode (c : Instr) (s : State) : (s.hand c).episode = s.episode := rfl
@[simp] theorem State.hand_system (c : Instr) (s : State) : (s.hand c).system = s.system := rfl
@[simp] theorem State.hand_store (c : Instr) (s : State) : (s.hand c).store = s.store := rfl
@[simp] theorem State.hand_pins (c : Instr) (s : State) : (s.hand c).pins = s.pins := rfl
@[simp] theorem State.hand_power (c : Instr) (s : State) : (s.hand c).power = s.power := rfl
@[simp] theorem State.hand_freeCount (c : Instr) (s : State) : (s.hand c).freeCount = s.freeCount := rfl
@[simp] theorem State.hand_bridgeTests (c : Instr) (s : State) : (s.hand c).bridgeTests = s.bridgeTests := rfl
@[simp] theorem State.hand_handed (c : Instr) (s : State) : (s.hand c).handed = s.handed ++ [c] := rfl
@[simp] theorem State.hand_pending (c : Instr) (s : State) : (s.hand c).pending = s.pending := rfl

@[simp] theorem State.handAll_port (cs : List Instr) (s : State) : (s.handAll cs).port = s.port := rfl
@[simp] theorem State.handAll_attention (cs : List Instr) (s : State) : (s.handAll cs).attention = s.attention := rfl
@[simp] theorem State.handAll_load (cs : List Instr) (s : State) : (s.handAll cs).load = s.load := rfl
@[simp] theorem State.handAll_supply (cs : List Instr) (s : State) : (s.handAll cs).supply = s.supply := rfl
@[simp] theorem State.handAll_bayA (cs : List Instr) (s : State) : (s.handAll cs).bayA = s.bayA := rfl
@[simp] theorem State.handAll_bayB (cs : List Instr) (s : State) : (s.handAll cs).bayB = s.bayB := rfl
@[simp] theorem State.handAll_light (cs : List Instr) (s : State) : (s.handAll cs).light = s.light := rfl
@[simp] theorem State.handAll_motion (cs : List Instr) (s : State) : (s.handAll cs).motion = s.motion := rfl
@[simp] theorem State.handAll_episode (cs : List Instr) (s : State) : (s.handAll cs).episode = s.episode := rfl
@[simp] theorem State.handAll_system (cs : List Instr) (s : State) : (s.handAll cs).system = s.system := rfl
@[simp] theorem State.handAll_store (cs : List Instr) (s : State) : (s.handAll cs).store = s.store := rfl
@[simp] theorem State.handAll_pins (cs : List Instr) (s : State) : (s.handAll cs).pins = s.pins := rfl
@[simp] theorem State.handAll_power (cs : List Instr) (s : State) : (s.handAll cs).power = s.power := rfl
@[simp] theorem State.handAll_freeCount (cs : List Instr) (s : State) : (s.handAll cs).freeCount = s.freeCount := rfl
@[simp] theorem State.handAll_bridgeTests (cs : List Instr) (s : State) : (s.handAll cs).bridgeTests = s.bridgeTests := rfl
@[simp] theorem State.handAll_handed (cs : List Instr) (s : State) : (s.handAll cs).handed = s.handed ++ cs := rfl
@[simp] theorem State.handAll_pending (cs : List Instr) (s : State) : (s.handAll cs).pending = s.pending := rfl

@[simp] theorem State.take_port (c : Instr) (s : State) : (s.take c).port = s.port := rfl
@[simp] theorem State.take_attention (c : Instr) (s : State) : (s.take c).attention = s.attention := rfl
@[simp] theorem State.take_load (c : Instr) (s : State) : (s.take c).load = s.load := rfl
@[simp] theorem State.take_supply (c : Instr) (s : State) : (s.take c).supply = s.supply := rfl
@[simp] theorem State.take_bayA (c : Instr) (s : State) : (s.take c).bayA = s.bayA := rfl
@[simp] theorem State.take_bayB (c : Instr) (s : State) : (s.take c).bayB = s.bayB := rfl
@[simp] theorem State.take_light (c : Instr) (s : State) : (s.take c).light = s.light := rfl
@[simp] theorem State.take_motion (c : Instr) (s : State) : (s.take c).motion = s.motion := rfl
@[simp] theorem State.take_episode (c : Instr) (s : State) : (s.take c).episode = s.episode := rfl
@[simp] theorem State.take_system (c : Instr) (s : State) : (s.take c).system = s.system := rfl
@[simp] theorem State.take_store (c : Instr) (s : State) : (s.take c).store = s.store := rfl
@[simp] theorem State.take_pins (c : Instr) (s : State) : (s.take c).pins = s.pins := rfl
@[simp] theorem State.take_power (c : Instr) (s : State) : (s.take c).power = s.power := rfl
@[simp] theorem State.take_freeCount (c : Instr) (s : State) : (s.take c).freeCount = s.freeCount := rfl
@[simp] theorem State.take_bridgeTests (c : Instr) (s : State) : (s.take c).bridgeTests = s.bridgeTests := rfl
@[simp] theorem State.take_handed (c : Instr) (s : State) : (s.take c).handed = s.handed.erase c := rfl
@[simp] theorem State.take_pending (c : Instr) (s : State) : (s.take c).pending = s.pending := rfl

@[simp] theorem State.raise_port (a : Attention) (s : State) : (s.raise a).port = s.port := rfl
@[simp] theorem State.raise_attention (a : Attention) (s : State) : (s.raise a).attention = s.attention.raise a := rfl
@[simp] theorem State.raise_load (a : Attention) (s : State) : (s.raise a).load = s.load := rfl
@[simp] theorem State.raise_supply (a : Attention) (s : State) : (s.raise a).supply = s.supply := rfl
@[simp] theorem State.raise_bayA (a : Attention) (s : State) : (s.raise a).bayA = s.bayA := rfl
@[simp] theorem State.raise_bayB (a : Attention) (s : State) : (s.raise a).bayB = s.bayB := rfl
@[simp] theorem State.raise_light (a : Attention) (s : State) : (s.raise a).light = s.light := rfl
@[simp] theorem State.raise_motion (a : Attention) (s : State) : (s.raise a).motion = s.motion := rfl
@[simp] theorem State.raise_episode (a : Attention) (s : State) : (s.raise a).episode = s.episode := rfl
@[simp] theorem State.raise_system (a : Attention) (s : State) : (s.raise a).system = s.system := rfl
@[simp] theorem State.raise_store (a : Attention) (s : State) : (s.raise a).store = s.store := rfl
@[simp] theorem State.raise_pins (a : Attention) (s : State) : (s.raise a).pins = s.pins := rfl
@[simp] theorem State.raise_power (a : Attention) (s : State) : (s.raise a).power = s.power := rfl
@[simp] theorem State.raise_freeCount (a : Attention) (s : State) : (s.raise a).freeCount = s.freeCount := rfl
@[simp] theorem State.raise_bridgeTests (a : Attention) (s : State) : (s.raise a).bridgeTests = s.bridgeTests := rfl
@[simp] theorem State.raise_handed (a : Attention) (s : State) : (s.raise a).handed = s.handed := rfl
@[simp] theorem State.raise_pending (a : Attention) (s : State) : (s.raise a).pending = s.pending := rfl

theorem State.raiseAll_eq (as : List Attention) (s : State) :
    s.raiseAll as = { s with attention := as.foldl (fun x a => x.raise a) s.attention } := by
  induction as generalizing s with
  | nil => rfl
  | cons a as ih => exact ih (s.raise a)

@[simp] theorem State.raiseAll_port (as : List Attention) (s : State) : (s.raiseAll as).port = s.port := by rw [State.raiseAll_eq]
@[simp] theorem State.raiseAll_attention (as : List Attention) (s : State) : (s.raiseAll as).attention = as.foldl (fun x a => x.raise a) s.attention := by rw [State.raiseAll_eq]
@[simp] theorem State.raiseAll_load (as : List Attention) (s : State) : (s.raiseAll as).load = s.load := by rw [State.raiseAll_eq]
@[simp] theorem State.raiseAll_supply (as : List Attention) (s : State) : (s.raiseAll as).supply = s.supply := by rw [State.raiseAll_eq]
@[simp] theorem State.raiseAll_bayA (as : List Attention) (s : State) : (s.raiseAll as).bayA = s.bayA := by rw [State.raiseAll_eq]
@[simp] theorem State.raiseAll_bayB (as : List Attention) (s : State) : (s.raiseAll as).bayB = s.bayB := by rw [State.raiseAll_eq]
@[simp] theorem State.raiseAll_light (as : List Attention) (s : State) : (s.raiseAll as).light = s.light := by rw [State.raiseAll_eq]
@[simp] theorem State.raiseAll_motion (as : List Attention) (s : State) : (s.raiseAll as).motion = s.motion := by rw [State.raiseAll_eq]
@[simp] theorem State.raiseAll_episode (as : List Attention) (s : State) : (s.raiseAll as).episode = s.episode := by rw [State.raiseAll_eq]
@[simp] theorem State.raiseAll_system (as : List Attention) (s : State) : (s.raiseAll as).system = s.system := by rw [State.raiseAll_eq]
@[simp] theorem State.raiseAll_store (as : List Attention) (s : State) : (s.raiseAll as).store = s.store := by rw [State.raiseAll_eq]
@[simp] theorem State.raiseAll_pins (as : List Attention) (s : State) : (s.raiseAll as).pins = s.pins := by rw [State.raiseAll_eq]
@[simp] theorem State.raiseAll_power (as : List Attention) (s : State) : (s.raiseAll as).power = s.power := by rw [State.raiseAll_eq]
@[simp] theorem State.raiseAll_freeCount (as : List Attention) (s : State) : (s.raiseAll as).freeCount = s.freeCount := by rw [State.raiseAll_eq]
@[simp] theorem State.raiseAll_bridgeTests (as : List Attention) (s : State) : (s.raiseAll as).bridgeTests = s.bridgeTests := by rw [State.raiseAll_eq]
@[simp] theorem State.raiseAll_handed (as : List Attention) (s : State) : (s.raiseAll as).handed = s.handed := by rw [State.raiseAll_eq]
@[simp] theorem State.raiseAll_pending (as : List Attention) (s : State) : (s.raiseAll as).pending = s.pending := by rw [State.raiseAll_eq]

@[simp] theorem State.setBay_port (b : Bay) (r : BayRec) (s : State) : (s.setBay b r).port = s.port := by cases b <;> rfl
@[simp] theorem State.setBay_attention (b : Bay) (r : BayRec) (s : State) : (s.setBay b r).attention = s.attention := by cases b <;> rfl
@[simp] theorem State.setBay_load (b : Bay) (r : BayRec) (s : State) : (s.setBay b r).load = s.load := by cases b <;> rfl
@[simp] theorem State.setBay_supply (b : Bay) (r : BayRec) (s : State) : (s.setBay b r).supply = s.supply := by cases b <;> rfl
@[simp] theorem State.setBay_light (b : Bay) (r : BayRec) (s : State) : (s.setBay b r).light = s.light := by cases b <;> rfl
@[simp] theorem State.setBay_motion (b : Bay) (r : BayRec) (s : State) : (s.setBay b r).motion = s.motion := by cases b <;> rfl
@[simp] theorem State.setBay_episode (b : Bay) (r : BayRec) (s : State) : (s.setBay b r).episode = s.episode := by cases b <;> rfl
@[simp] theorem State.setBay_system (b : Bay) (r : BayRec) (s : State) : (s.setBay b r).system = s.system := by cases b <;> rfl
@[simp] theorem State.setBay_store (b : Bay) (r : BayRec) (s : State) : (s.setBay b r).store = s.store := by cases b <;> rfl
@[simp] theorem State.setBay_pins (b : Bay) (r : BayRec) (s : State) : (s.setBay b r).pins = s.pins := by cases b <;> rfl
@[simp] theorem State.setBay_power (b : Bay) (r : BayRec) (s : State) : (s.setBay b r).power = s.power := by cases b <;> rfl
@[simp] theorem State.setBay_freeCount (b : Bay) (r : BayRec) (s : State) : (s.setBay b r).freeCount = s.freeCount := by cases b <;> rfl
@[simp] theorem State.setBay_bridgeTests (b : Bay) (r : BayRec) (s : State) : (s.setBay b r).bridgeTests = s.bridgeTests := by cases b <;> rfl
@[simp] theorem State.setBay_handed (b : Bay) (r : BayRec) (s : State) : (s.setBay b r).handed = s.handed := by cases b <;> rfl
@[simp] theorem State.setBay_pending (b : Bay) (r : BayRec) (s : State) : (s.setBay b r).pending = s.pending := by cases b <;> rfl
@[simp] theorem State.setBay_bay (b : Bay) (r : BayRec) (s : State) : (s.setBay b r).bay b = r := by cases b <;> rfl
@[simp] theorem State.setBay_otherBay (b : Bay) (r : BayRec) (s : State) :
    (s.setBay b r).bay (otherBay b) = s.bay (otherBay b) := by cases b <;> rfl

@[simp] theorem State.modifyBay_port (b : Bay) (g : BayRec → BayRec) (s : State) : (s.modifyBay b g).port = s.port := by cases b <;> rfl
@[simp] theorem State.modifyBay_attention (b : Bay) (g : BayRec → BayRec) (s : State) : (s.modifyBay b g).attention = s.attention := by cases b <;> rfl
@[simp] theorem State.modifyBay_load (b : Bay) (g : BayRec → BayRec) (s : State) : (s.modifyBay b g).load = s.load := by cases b <;> rfl
@[simp] theorem State.modifyBay_supply (b : Bay) (g : BayRec → BayRec) (s : State) : (s.modifyBay b g).supply = s.supply := by cases b <;> rfl
@[simp] theorem State.modifyBay_light (b : Bay) (g : BayRec → BayRec) (s : State) : (s.modifyBay b g).light = s.light := by cases b <;> rfl
@[simp] theorem State.modifyBay_motion (b : Bay) (g : BayRec → BayRec) (s : State) : (s.modifyBay b g).motion = s.motion := by cases b <;> rfl
@[simp] theorem State.modifyBay_episode (b : Bay) (g : BayRec → BayRec) (s : State) : (s.modifyBay b g).episode = s.episode := by cases b <;> rfl
@[simp] theorem State.modifyBay_system (b : Bay) (g : BayRec → BayRec) (s : State) : (s.modifyBay b g).system = s.system := by cases b <;> rfl
@[simp] theorem State.modifyBay_store (b : Bay) (g : BayRec → BayRec) (s : State) : (s.modifyBay b g).store = s.store := by cases b <;> rfl
@[simp] theorem State.modifyBay_pins (b : Bay) (g : BayRec → BayRec) (s : State) : (s.modifyBay b g).pins = s.pins := by cases b <;> rfl
@[simp] theorem State.modifyBay_power (b : Bay) (g : BayRec → BayRec) (s : State) : (s.modifyBay b g).power = s.power := by cases b <;> rfl
@[simp] theorem State.modifyBay_freeCount (b : Bay) (g : BayRec → BayRec) (s : State) : (s.modifyBay b g).freeCount = s.freeCount := by cases b <;> rfl
@[simp] theorem State.modifyBay_bridgeTests (b : Bay) (g : BayRec → BayRec) (s : State) : (s.modifyBay b g).bridgeTests = s.bridgeTests := by cases b <;> rfl
@[simp] theorem State.modifyBay_handed (b : Bay) (g : BayRec → BayRec) (s : State) : (s.modifyBay b g).handed = s.handed := by cases b <;> rfl
@[simp] theorem State.modifyBay_pending (b : Bay) (g : BayRec → BayRec) (s : State) : (s.modifyBay b g).pending = s.pending := by cases b <;> rfl
@[simp] theorem State.modifyBay_bay (b : Bay) (g : BayRec → BayRec) (s : State) :
    (s.modifyBay b g).bay b = g (s.bay b) := by cases b <;> rfl
@[simp] theorem State.modifyBay_otherBay (b : Bay) (g : BayRec → BayRec) (s : State) :
    (s.modifyBay b g).bay (otherBay b) = s.bay (otherBay b) := by cases b <;> rfl

@[simp] theorem finish_port (s : State) : (finish s).port = s.port := rfl
@[simp] theorem finish_attention (s : State) : (finish s).attention = s.attention := rfl
@[simp] theorem finish_load (s : State) : (finish s).load = s.load := rfl
@[simp] theorem finish_supply (s : State) : (finish s).supply = { s.supply with mode := s.supply.modeNow } := rfl
@[simp] theorem finish_bayA (s : State) : (finish s).bayA = s.bayA := rfl
@[simp] theorem finish_bayB (s : State) : (finish s).bayB = s.bayB := rfl
@[simp] theorem finish_light (s : State) : (finish s).light = s.light := rfl
@[simp] theorem finish_motion (s : State) : (finish s).motion = s.motion := rfl
@[simp] theorem finish_episode (s : State) : (finish s).episode = s.episode := rfl
@[simp] theorem finish_system (s : State) : (finish s).system = s.system := rfl
@[simp] theorem finish_store (s : State) : (finish s).store = s.store := rfl
@[simp] theorem finish_pins (s : State) : (finish s).pins = pinsNow s := rfl
@[simp] theorem finish_power (s : State) : (finish s).power = powerNow s := rfl
@[simp] theorem finish_freeCount (s : State) : (finish s).freeCount = s.freeCount := rfl
@[simp] theorem finish_bridgeTests (s : State) : (finish s).bridgeTests = s.bridgeTests := rfl
@[simp] theorem finish_handed (s : State) : (finish s).handed = s.handed := rfl
@[simp] theorem finish_pending (s : State) : (finish s).pending = s.pending := rfl
@[simp] theorem finish_bay (s : State) (b : Bay) : (finish s).bay b = s.bay b := by cases b <;> rfl
@[simp] theorem otherBay_otherBay (b : Bay) : otherBay (otherBay b) = b := by cases b <;> rfl
@[simp] theorem State.hand_bay (c : Instr) (s : State) (b : Bay) : (s.hand c).bay b = s.bay b := by cases b <;> rfl
@[simp] theorem State.handAll_bay (c : List Instr) (s : State) (b : Bay) : (s.handAll c).bay b = s.bay b := by cases b <;> rfl
@[simp] theorem State.take_bay (c : Instr) (s : State) (b : Bay) : (s.take c).bay b = s.bay b := by cases b <;> rfl
@[simp] theorem State.raise_bay (c : Attention) (s : State) (b : Bay) : (s.raise c).bay b = s.bay b := by cases b <;> rfl

/-- R178, R179: what an answer does to the port. -/
@[simp] theorem PortRec.answer_reply (r : Reply) (p : PortRec) : (p.answer r).reply = some r := rfl
@[simp] theorem PortRec.answer_assembly (r : Reply) (p : PortRec) : (p.answer r).assembly = none := rfl
@[simp] theorem PortRec.answer_strapHigh (r : Reply) (p : PortRec) : (p.answer r).strapHigh = p.strapHigh := rfl

end Sys2Proof.Machine
end

