-- ==== Sys2Proof/Laws/Footprint.lean ====
section
/-!
SUPPORT. What each operation may change: one lemma for each shared operation, naming the fields outside which it leaves the state as it was.
-/
namespace Sys2Proof.Machine

/-- The fields of the state, the two bays as one. -/
inductive Field where
  | port | attention | load | supply | bays | light | motion | episode | system | store | pins | power | freeCount | bridgeTests | handed | pending
  deriving DecidableEq, Repr

/-- A field is the same in two states. -/
def Field.same : Field → State → State → Prop
  | .port, s, t => t.port = s.port
  | .attention, s, t => t.attention = s.attention
  | .load, s, t => t.load = s.load
  | .supply, s, t => t.supply = s.supply
  | .bays, s, t => t.bayA = s.bayA ∧ t.bayB = s.bayB
  | .light, s, t => t.light = s.light
  | .motion, s, t => t.motion = s.motion
  | .episode, s, t => t.episode = s.episode
  | .system, s, t => t.system = s.system
  | .store, s, t => t.store = s.store
  | .pins, s, t => t.pins = s.pins
  | .power, s, t => t.power = s.power
  | .freeCount, s, t => t.freeCount = s.freeCount
  | .bridgeTests, s, t => t.bridgeTests = s.bridgeTests
  | .handed, s, t => t.handed = s.handed
  | .pending, s, t => t.pending = s.pending

/-- Outside these fields the states are the same. -/
def Changes (fs : List Field) (s t : State) : Prop := ∀ f, f ∉ fs → f.same s t

theorem Field.same_refl (f : Field) (s : State) : f.same s s := by cases f <;> simp [Field.same]

theorem Field.same_trans {f : Field} {s t u : State} (h : f.same s t) (k : f.same t u) : f.same s u := by
  cases f <;> simp_all [Field.same]

namespace Changes

theorem refl (fs : List Field) (s : State) : Changes fs s s := fun f _ => f.same_refl s

theorem trans {fs : List Field} {s t u : State} (h : Changes fs s t) (k : Changes fs t u) : Changes fs s u :=
  fun f hf => Field.same_trans (h f hf) (k f hf)

theorem mono {fs gs : List Field} {s t : State} (h : Changes fs s t) (sub : ∀ f, f ∈ fs → f ∈ gs) : Changes gs s t :=
  fun f hf => h f fun hm => hf (sub f hm)

theorem ite {fs : List Field} {s t u : State} {p : Prop} [Decidable p] (h : Changes fs s t) (k : Changes fs s u) :
    Changes fs s (if p then t else u) := by by_cases hp : p <;> simpa [hp]

end Changes

/-- The fields that an event of the Load Manager may change. -/
abbrev loadFields : List Field := [.load, .attention, .handed]
/-- The fields that an event of the supply side may change. -/
abbrev supplyFields : List Field := [.supply, .bays, .attention, .handed, .power]
/-- The fields that an event of the Backlight Controller may change. -/
abbrev lightFields : List Field := [.light, .attention, .handed]
/-- The fields that an event of the Motion Monitor may change. -/
abbrev motionFields : List Field := [.motion, .attention, .handed]
/-- The fields that an event of the Protection Sequencer may change. -/
abbrev episodeFields : List Field := [.episode, .attention, .handed]
/-- The fields that an event of System Power Control may change. -/
abbrev systemFields : List Field := [.system, .handed]
/-- The fields that an event of the Profile Store may change. -/
abbrev storeFields : List Field := [.store, .attention, .bridgeTests, .handed]

/-! ### The small operations -/

theorem changes_hand (c : Instr) (s : State) : Changes [.handed] s (s.hand c) := by
  intro f hf; cases f <;> simp_all [Field.same]

theorem changes_handAll (cs : List Instr) (s : State) : Changes [.handed] s (s.handAll cs) := by
  intro f hf; cases f <;> simp_all [Field.same]

theorem changes_take (c : Instr) (s : State) : Changes [.handed] s (s.take c) := by
  intro f hf; cases f <;> simp_all [Field.same]

theorem changes_raise (a : Attention) (s : State) : Changes [.attention] s (s.raise a) := by
  intro f hf; cases f <;> simp_all [Field.same]

theorem changes_raiseAll (as : List Attention) (s : State) : Changes [.attention] s (s.raiseAll as) := by
  intro f hf; cases f <;> simp_all [Field.same]

theorem changes_setBay (b : Bay) (r : BayRec) (s : State) : Changes [.bays] s (s.setBay b r) := by
  intro f hf; cases f <;> simp_all [Field.same]

theorem changes_modifyBay (b : Bay) (g : BayRec → BayRec) (s : State) : Changes [.bays] s (s.modifyBay b g) := by
  intro f hf; cases f <;> simp_all [Field.same]

theorem changes_load (L : LoadRec) (s : State) : Changes [.load] s { s with load := L } := by
  intro f hf; cases f <;> simp_all [Field.same]

theorem changes_supply (r : SupplyRec) (s : State) : Changes [.supply] s { s with supply := r } := by
  intro f hf; cases f <;> simp_all [Field.same]

theorem changes_light (r : LightRec) (s : State) : Changes [.light] s { s with light := r } := by
  intro f hf; cases f <;> simp_all [Field.same]

theorem changes_motion (r : MotionRec) (s : State) : Changes [.motion] s { s with motion := r } := by
  intro f hf; cases f <;> simp_all [Field.same]

theorem changes_episode (r : EpisodeRec) (s : State) : Changes [.episode] s { s with episode := r } := by
  intro f hf; cases f <;> simp_all [Field.same]

theorem changes_system (r : SystemRec) (s : State) : Changes [.system] s { s with system := r } := by
  intro f hf; cases f <;> simp_all [Field.same]

theorem changes_store (r : StoreRec) (s : State) : Changes [.store] s { s with store := r } := by
  intro f hf; cases f <;> simp_all [Field.same]

theorem changes_attention (r : AttentionRec) (s : State) : Changes [.attention] s { s with attention := r } := by
  intro f hf; cases f <;> simp_all [Field.same]

theorem changes_power (p : Power) (s : State) : Changes [.power] s { s with power := p } := by
  intro f hf; cases f <;> simp_all [Field.same]

theorem changes_port (p : PortRec) (s : State) : Changes [.port] s { s with port := p } := by
  intro f hf; cases f <;> simp_all [Field.same]

theorem changes_bridgeTests (l : List Bool) (s : State) : Changes [.bridgeTests] s { s with bridgeTests := l } := by
  intro f hf; cases f <;> simp_all [Field.same]

theorem changes_freeCount (n : Nat) (s : State) : Changes [.freeCount] s { s with freeCount := n } := by
  intro f hf; cases f <;> simp_all [Field.same]

/-- The end of an event writes the mode, the outputs and the power only. -/
theorem changes_finish (s : State) : Changes [.supply, .pins, .power] s (finish s) := by
  intro f hf; cases f <;> simp_all [Field.same]

end Sys2Proof.Machine
end

