-- ==== Sys2Proof/Laws/Operations.lean ====
section
/-!
SUPPORT. The shared operations of each block: outside which fields each leaves the state as it was. A proof about a command cites these, and
unfolds none of the operations.
-/
namespace Sys2Proof.Machine

/-- One step after another, within the same fields. -/
theorem Changes.via {fs gs hs : List Field} {s t u : State} (h : Changes fs s t) (k : Changes gs t u)
    (hsub : fs ⊆ hs) (ksub : gs ⊆ hs) : Changes hs s u := (h.mono fun _ m => hsub m).trans (k.mono fun _ m => ksub m)

/-! ### Events and what is handed over -/

/-- The fields that the end of an event writes. -/
abbrev eventFields : List Field := [.supply, .pins, .power]

theorem changes_eventState {fs : List Field} {f : State → State} (h : ∀ s, Changes fs s (f s)) (s : State) :
    Changes (fs ++ eventFields) s (eventState f s) := by
  unfold eventState
  split
  · exact Changes.refl _ s
  · exact (h s).via (changes_finish _) (by simp) (by simp)

/-- A receiver that takes what is handed to it changes what its operation changes, and what waits. -/
theorem changes_taken {fs : List Field} {takes : Instr → State → State} (h : ∀ c s, Changes fs s (takes c s))
    (hh : Field.handed ∈ fs) (c : Instr) (s : State) : Changes (fs ++ eventFields) s (taken takes s c) :=
  changes_eventState (fun s => (changes_take c s).via (h c _) (by simpa using hh) (by simp)) s

theorem changes_takenAll {fs : List Field} {takes : Instr → State → State} (h : ∀ c s, Changes fs s (takes c s))
    (hh : Field.handed ∈ fs) (cs : List Instr) (s : State) : Changes (fs ++ eventFields) s (cs.foldl (taken takes) s) := by
  induction cs generalizing s with
  | nil => exact Changes.refl _ s
  | cons c cs ih => exact (changes_taken h hh c s).trans (ih _)

/-- What a receiver is handed, and what came before it, changes what its operation changes, and what waits. -/
theorem changes_handover {fs : List Field} {takes : Instr → State → State} (h : ∀ c s, Changes fs s (takes c s))
    (hh : Field.handed ∈ fs) {c : Instr} {s t : State} (ht : handover takes c s = .next t) :
    Changes (fs ++ eventFields) s t := by
  injection ht with ht
  exact ht ▸ (changes_takenAll h hh _ s).trans (changes_taken h hh c _)

/-! ### The Load Manager -/

theorem changes_runWalk (s : State) : Changes [.load, .attention] s (runWalk s) :=
  (changes_load _ s).via (changes_raiseAll _ _) (by decide) (by decide)

theorem changes_releaseSlot (i : Slot) (s : State) : Changes [.load, .attention] s (releaseSlot i s) := by
  intro f hf; cases f <;> simp_all [Field.same, releaseSlot]

theorem changes_releaseSlots (is : List Slot) (s : State) :
    Changes [.load, .attention] s (is.foldl (fun s i => releaseSlot i s) s) := by
  induction is generalizing s with
  | nil => exact Changes.refl _ s
  | cons i is ih => exact (changes_releaseSlot i s).trans (ih _)

theorem changes_releaseHostSlots (s : State) : Changes [.load, .attention] s (releaseHostSlots s) := changes_releaseSlots _ s

theorem changes_handLoadResults (before : LoadRec) (answer : Bool) (s : State) :
    Changes [.load, .handed] s (handLoadResults before answer s) := by
  intro f hf
  unfold handLoadResults
  dsimp only
  split <;> split <;> cases f <;> simp_all [Field.same]

theorem changes_loadPartReset (s : State) : Changes loadFields s (loadPartReset s) := by
  unfold loadPartReset loadChange
  refine Changes.trans ?_ ((changes_handLoadResults _ _ _).mono (by simp))
  refine Changes.trans ?_ ((changes_runWalk _).mono (by simp))
  exact (changes_releaseHostSlots s).via (changes_load _ _) (by simp) (by simp)

theorem changes_loadSystemOffClear (s : State) : Changes loadFields s (loadSystemOffClear s) := by
  unfold loadSystemOffClear loadChange
  refine Changes.trans ?_ ((changes_handLoadResults _ _ _).mono (by simp))
  refine Changes.trans ?_ ((changes_attention _ _).mono (by simp))
  refine Changes.trans ?_ ((changes_runWalk _).mono (by simp))
  exact (changes_releaseHostSlots s).via (changes_load _ _) (by simp) (by simp)

theorem changes_loadResetTakes (c : Instr) (s : State) : Changes loadFields s (loadResetTakes c s) := by
  unfold loadResetTakes
  split
  · exact changes_loadPartReset s
  · exact changes_loadSystemOffClear s
  · exact Changes.refl _ s

/-- A load request meets a state that differs in the fields of the Load Manager and in what the end of an event writes only. -/
theorem changes_atLoadManager (s : State) : Changes (loadFields ++ eventFields) s (atLoadManager s) :=
  changes_takenAll (fun c s => changes_loadResetTakes c s) (by decide) _ s

/-! ### The Supply Controller and the bays -/

/-- The fields that the operations of the supply side work on. -/
abbrev supplyWork : List Field := [.supply, .bays, .attention, .handed]

theorem changes_recompute (s : State) : Changes supplyWork s (recompute s) := by
  intro f hf
  unfold recompute
  split <;> cases f <;> simp_all [Field.same]

theorem changes_startCarrying (s : State) : Changes supplyWork s (startCarrying s) := by
  intro f hf
  unfold startCarrying
  split <;> (try split) <;> cases f <;> simp_all [Field.same]

theorem changes_stopCarrying (s : State) : Changes supplyWork s (stopCarrying s) :=
  (changes_supply _ s).mono (by simp)

theorem changes_endBridging (s : State) : Changes supplyWork s (endBridging s) := by
  unfold endBridging; split
  · exact changes_stopCarrying s
  · exact Changes.refl _ s

theorem changes_refreshRefill (s : State) : Changes supplyWork s (refreshRefill s) := (changes_supply _ s).mono (by simp)

theorem changes_enterPhase (blocked : Bool) (s : State) : Changes supplyWork s (enterPhase blocked s) := by
  intro f hf
  unfold enterPhase
  cases blocked <;> cases f <;> simp_all [Field.same]

theorem changes_stopWaiting (b : Bay) (s : State) : Changes supplyWork s (stopWaiting b s) := by
  unfold stopWaiting; split
  · exact (changes_supply _ s).mono (by simp)
  · exact Changes.refl _ s

theorem changes_startWithdrawal (b : Bay) (cause : Cause) (s : State) : Changes supplyWork s (startWithdrawal b cause s) :=
  (((changes_stopWaiting b s).via (changes_modifyBay b _ _) (hs := supplyWork) (by decide) (by decide)).via
    (changes_supply _ _) (by decide) (by decide)).trans (changes_enterPhase _ _)

theorem changes_requestWithdrawal (b : Bay) (reason : WaitReason) (s : State) :
    Changes supplyWork s (requestWithdrawal b reason s) := by
  unfold requestWithdrawal; split
  · exact (changes_supply _ s).mono (by simp)
  · exact changes_startWithdrawal _ _ s

theorem changes_handleWaiting (s : State) : Changes supplyWork s (handleWaiting s) := by
  unfold handleWaiting
  split
  · exact Changes.refl _ s
  · dsimp only
    split
    · exact changes_startWithdrawal _ _ s
    · split
      · exact changes_startWithdrawal _ _ s
      · exact changes_stopWaiting _ s

theorem changes_freeSlot (s : State) : Changes supplyWork s (freeSlot s) :=
  (changes_supply _ s).via (changes_handleWaiting _) (by decide) (by decide)

theorem changes_freeSlotOf (b : Bay) (s : State) : Changes supplyWork s (freeSlotOf b s) := by
  unfold freeSlotOf; split
  · exact changes_freeSlot s
  · exact Changes.refl _ s

theorem changes_unblock (s : State) : Changes supplyWork s (unblock s) := by
  unfold unblock; split
  · split
    · exact Changes.refl _ s
    · exact changes_enterPhase _ s
  · exact Changes.refl _ s

theorem changes_reblock (s : State) : Changes supplyWork s (reblock s) := by
  unfold reblock; split
  · split
    · exact changes_enterPhase _ s
    · exact Changes.refl _ s
  · exact Changes.refl _ s

theorem changes_retest (s : State) : Changes supplyWork s (retest s) := (changes_unblock s).trans (changes_reblock _)

theorem changes_becomeFaulted (b : Bay) (s : State) : Changes supplyWork s (becomeFaulted b s) :=
  (changes_modifyBay b _ s).via (changes_raise _ _) (by decide) (by decide)

theorem changes_becomeOnline (b : Bay) (s : State) : Changes supplyWork s (becomeOnline b s) :=
  (changes_modifyBay b _ s).mono (by simp)

theorem changes_openPath (b : Bay) (s : State) : Changes supplyWork s (openPath b s) := by
  unfold openPath
  have h : Changes supplyWork s (if (lastSource b s && systemOn s) = true then startCarrying s else s) := by
    split
    · exact changes_startCarrying s
    · exact Changes.refl _ s
  refine h.trans ?_
  generalize (if (lastSource b s && systemOn s) = true then startCarrying s else s) = u
  dsimp only
  split
  · exact (changes_becomeFaulted b u).trans (changes_freeSlot _)
  · exact (((changes_modifyBay b _ u).via (changes_supply _ _) (hs := supplyWork) (by decide) (by decide))).via
      (changes_raise _ _) (by decide) (by decide)

theorem changes_pathTest (s : State) : Changes supplyWork s (pathTest s) := by
  unfold pathTest; split
  · split
    · exact (changes_openPath _ s).trans (changes_recompute _)
    · exact Changes.refl _ s
  · exact Changes.refl _ s

/-- The end of an event of the supply side. -/
theorem changes_settle (s : State) : Changes supplyWork s (settle s) :=
  (((changes_recompute s).trans (changes_pathTest _)).trans (changes_pathTest _)).trans (changes_refreshRefill _)

theorem changes_answerNoSource (s : State) : Changes supplyWork s (answerNoSource s) := by
  unfold answerNoSource
  repeat' split
  all_goals first
    | exact Changes.refl _ s
    | exact changes_startCarrying s
    | exact (changes_hand _ s).mono (by simp)

theorem changes_answerLoss (s : State) : Changes supplyWork s (answerLoss s) :=
  ((changes_answerNoSource s).trans (changes_retest _)).trans (changes_settle _)

theorem changes_loseBay (b : Bay) (s : State) : Changes supplyWork s (loseBay b s) :=
  ((changes_stopWaiting b s).trans (changes_freeSlotOf b _)).trans (changes_answerLoss _)

theorem changes_faultBay (b : Bay) (s : State) : Changes supplyWork s (faultBay b s) := by
  unfold faultBay; split
  · exact (changes_becomeFaulted b s).trans (changes_loseBay b _)
  · exact changes_becomeFaulted b s

theorem changes_bringOnline (b : Bay) (s : State) : Changes supplyWork s (bringOnline b s) :=
  (((changes_becomeOnline b s).trans (changes_endBridging _)).trans (changes_unblock _)).trans (changes_settle _)

theorem changes_cancelWithdrawal (b : Bay) (s : State) : Changes supplyWork s (cancelWithdrawal b s) :=
  ((((changes_becomeOnline b s).trans (changes_endBridging _)).trans (changes_freeSlotOf b _)).trans (changes_unblock _)).trans
    (changes_settle _)

theorem changes_relock (b : Bay) (s : State) : Changes supplyWork s (relock b s) := by
  unfold relock; split
  · exact changes_cancelWithdrawal b s
  · exact ((changes_becomeFaulted b s).trans (changes_freeSlotOf b _)).trans (changes_settle _)

/-- R112: the end of a start touches the power alone. -/
theorem changes_endStart (s : State) : Changes [.power] s (endStart s) := by
  unfold endStart
  exact Changes.ite (changes_power _ s) (Changes.refl _ s)

/-! ### The Backlight Controller -/

theorem changes_sendClaim (c : Claim) (s : State) : Changes lightFields s (sendClaim c s) :=
  (changes_light _ s).via (changes_hand _ _) (by decide) (by decide)

theorem changes_formPair (s : State) : Changes lightFields s (formPair s) := by
  unfold formPair
  dsimp only
  split
  · exact (changes_light _ s).mono (by simp)
  · split
    · exact Changes.refl _ s
    · exact changes_sendClaim _ s

theorem changes_capTest (s : State) : Changes lightFields s (capTest s) := by
  intro f hf
  unfold capTest
  repeat' split
  all_goals cases f <;> simp_all [Field.same]

theorem changes_refreshTarget (s : State) : Changes lightFields s (refreshTarget s) :=
  ((changes_light _ s).via (changes_formPair _) (hs := lightFields) (by decide) (by decide)).trans (changes_capTest _)

theorem changes_retarget (s : State) : Changes lightFields s (retarget s) := by
  unfold retarget; split
  · exact (changes_light _ s).mono (by simp)
  · exact changes_refreshTarget s

theorem changes_remap (s : State) : Changes lightFields s (remap s) :=
  ((changes_light _ s).via (changes_formPair _) (hs := lightFields) (by decide) (by decide)).trans (changes_capTest _)

/-! ### The Protection Sequencer -/

theorem changes_assertLine (s : State) (n : Line) : Changes episodeFields s (assertLine s n) := by
  intro f hf
  unfold assertLine
  dsimp only
  split <;> cases f <;> simp_all [Field.same]

theorem changes_endEpisode (s : State) : Changes episodeFields s (endEpisode s) :=
  ((changes_episode _ s).via (changes_handAll _ _) (hs := episodeFields) (by decide) (by decide)).via
    (changes_raise _ _) (by decide) (by decide)

theorem changes_endWhenIdle (s : State) : Changes episodeFields s (endWhenIdle s) := by
  unfold endWhenIdle; split
  · exact changes_endEpisode s
  · exact Changes.refl _ s

theorem changes_enterRecovering (s : State) : Changes episodeFields s (enterRecovering s) :=
  ((changes_episode _ s).via (changes_handAll _ _) (hs := episodeFields) (by decide) (by decide)).trans (changes_endWhenIdle _)

theorem changes_finishLift (n : Line) (s : State) : Changes episodeFields s (finishLift n s) :=
  ((changes_episode _ s).via (changes_hand _ _) (hs := episodeFields) (by decide) (by decide)).trans (changes_endWhenIdle _)

theorem changes_sendProtect (s : State) : Changes episodeFields s (sendProtect s) :=
  (changes_episode _ s).via (changes_hand _ _) (by decide) (by decide)

theorem changes_openEpisode (s : State) : Changes episodeFields s (openEpisode s) := by
  unfold openEpisode
  split
  · exact (changes_episode _ s).mono (by simp)
  · split <;> exact (changes_episode _ s).via (changes_sendProtect _) (by decide) (by decide)

/-! ### System Power Control -/

theorem changes_enterState (r : SystemRec) (s : State) : Changes systemFields s (enterState r s) :=
  (changes_system _ s).via (changes_handAll _ _) (by decide) (by decide)

theorem changes_enterDark (s : State) : Changes systemFields s (enterDark s) := changes_enterState _ s

end Sys2Proof.Machine
end

