-- ==== Sys2Proof/Laws/Ops.lean ====
section
/-!
SUPPORT. The shape of an event and of a request: what each answers from a part that takes events, and from one that has stopped. A proof about a
command rewrites with these, and unfolds neither `event` nor `request`. What the end of an event leaves on the outputs.
-/
namespace Sys2Proof.Machine

/-- An event of a part that takes events: its changes, then its outputs. -/
theorem eventState_of_alive {s : State} (h : Alive s) (f : State → State) : eventState f s = finish (f s) := by
  simp [eventState, show s.power ≠ .stopped from h]

/-- R112: a part that has stopped takes no event. -/
theorem eventState_of_stopped {s : State} (h : s.power = .stopped) (f : State → State) : eventState f s = s := by
  simp [eventState, h]

/-- An event of a part that takes events. -/
theorem event_of_alive {s : State} (h : Alive s) (f : State → State) : event s f = .next (finish (f s)) := by
  simp [event, eventState_of_alive h]

/-- R112: a part that has stopped takes no event. -/
theorem event_of_stopped {s : State} (h : s.power = .stopped) (f : State → State) : event s f = .next s := by
  simp [event, eventState_of_stopped h]

/-- A request of a part that takes events: what its block makes of the state, with the reply held. -/
theorem request_of_alive {s : State} (h : Alive s) (f : State → State × Reply) :
    request s f = .next (answered (f s).2 (f s).1) := by
  simp [request, event_of_alive h, answered]

/-- R112: a part that has stopped takes no request. -/
theorem request_of_stopped {s : State} (h : s.power = .stopped) (f : State → State × Reply) : request s f = .next s := by
  simp [request, event_of_stopped h]

/-- R203: a request that the Load Manager takes runs on the table that the parts of PART_RESET before it have left. -/
theorem loadRequest_of_alive {s : State} (h : Alive (atLoadManager s)) (f : State → State × Reply) :
    loadRequest s f = .next (answered (f (atLoadManager s)).2 (f (atLoadManager s)).1) := by
  simp [loadRequest, request_of_alive h]

/-- R112: a part that has stopped takes nothing that was handed over. -/
theorem taken_of_stopped {s : State} (h : s.power = .stopped) (takes : Instr → State → State) (c : Instr) : taken takes s c = s :=
  eventState_of_stopped h _

/-- R112: nor several things in turn. -/
theorem foldl_taken_of_stopped {s : State} (h : s.power = .stopped) (takes : Instr → State → State) (cs : List Instr) :
    cs.foldl (taken takes) s = s := by
  induction cs with
  | nil => rfl
  | cons c cs ih => rw [List.foldl_cons, taken_of_stopped h, ih]

/-- R112: nor does one that the Load Manager would take. -/
theorem loadRequest_of_stopped {s : State} (h : s.power = .stopped) (f : State → State × Reply) : loadRequest s f = .next s := by
  rw [loadRequest, show atLoadManager s = s from foldl_taken_of_stopped h _ _, request_of_stopped h]

/-! ### What is handed over -/

/-- Nothing waits before it: a receiver takes what is handed to it on the state as it stands. -/
theorem inOrder_of_foremost {c : Instr} {s : State} (h : Foremost c s) (takes : Instr → State → State) :
    s.inOrder takes c = s := by
  simp [State.inOrder, show s.before c = [] from h]

/-- What is taken at once. -/
theorem handover_of_foremost {c : Instr} {s : State} (ha : Alive s) (h : Foremost c s) (takes : Instr → State → State) :
    handover takes c s = .next (finish (takes c (s.take c))) := by
  simp [handover, inOrder_of_foremost h, taken, eventState_of_alive ha]

/-- R112: a part that has stopped takes nothing. -/
theorem handover_of_stopped {s : State} (h : s.power = .stopped) (takes : Instr → State → State) (c : Instr) :
    handover takes c s = .next s := by
  rw [handover, State.inOrder, foldl_taken_of_stopped h, taken_of_stopped h]

/-- What waits before it is taken first, the oldest at the head. -/
theorem inOrder_of_before {c d : Instr} {ds : List Instr} {s : State} (h : s.before c = d :: ds)
    (takes : Instr → State → State) : s.inOrder takes c = ds.foldl (taken takes) (taken takes s d) := by
  simp [State.inOrder, h]

/-- The front of what was handed over has nothing before it. -/
theorem foremost_of_handed {c : Instr} {cs : List Instr} {s : State} (h : s.handed = c :: cs) : Foremost c s := by
  simp [Foremost, State.before, h]

/-- A part to which nothing is handed over takes everything at once. -/
theorem foremost_of_nothing {s : State} (h : s.handed = []) (c : Instr) : Foremost c s := by
  simp [Foremost, State.before, h]

/-- What was handed over before a claim is not that claim. -/
theorem ne_of_mem_before {c d : Instr} {s : State} (h : d ∈ s.before c) : d ≠ c ∧ route d = route c := by
  have hp : ∀ l : List Instr, d ∈ (l.takeWhile fun d => d != c) → d ≠ c := by
    intro l
    induction l with
    | nil => simp
    | cons x xs ih =>
      by_cases hx : x = c
      · simp [hx]
      · simp only [List.takeWhile_cons, bne_iff_ne, ne_eq, hx, not_false_eq_true, if_true, List.mem_cons]
        rintro (rfl | h)
        · exact hx
        · exact ih h
  rw [State.before, List.mem_filter] at h
  exact ⟨hp _ h.1, by simpa using h.2⟩

/-- The forced-off claim is the only thing on its route. -/
theorem foremost_forcedOff (s : State) : Foremost .forcedOff s := by
  rw [Foremost, List.eq_nil_iff_forall_not_mem]
  intro d hd
  have h := ne_of_mem_before hd
  cases d <;> simp_all [route]

/-- A change of the profile is the only thing on its route. -/
theorem foremost_supplyProfileChange (s : State) : Foremost .supplyProfileChange s := by
  rw [Foremost, List.eq_nil_iff_forall_not_mem]
  intro d hd
  have h := ne_of_mem_before hd
  cases d <;> simp_all [route]

/-- The clear of the fall reasons is the only thing on its route. -/
theorem foremost_attentionSystemOffClear (s : State) : Foremost .attentionSystemOffClear s := by
  rw [Foremost, List.eq_nil_iff_forall_not_mem]
  intro d hd
  have h := ne_of_mem_before hd
  cases d <;> simp_all [route]

/-- A frame that the port refuses. -/
theorem portRefusal_of_alive {s : State} (h : Alive s) (st : Status) : portRefusal st s = .next (refusedWith st s) := by
  simp [portRefusal, event_of_alive h, refusedWith, answered]

/-- An event answers a next state, whatever the part's power. -/
theorem event_next (s : State) (f : State → State) : ∃ t, event s f = .next t := ⟨_, rfl⟩

@[simp] theorem require_true (st : Status) (s : State) (k : State × Reply) : require true st s k = k := rfl

@[simp] theorem require_false (st : Status) (s : State) (k : State × Reply) : require false st s k = refuse st s := rfl

/-- With no reset handed to the Load Manager, a load request meets the table as it stands. -/
theorem atLoadManager_of_none {s : State} (hp : Instr.loadManagerPartReset ∉ s.handed)
    (hc : Instr.loadManagerSystemOffClear ∉ s.handed) : atLoadManager s = s := by
  have h : s.handed.filter isLoadReset = [] := by
    rw [List.filter_eq_nil_iff]
    intro d hd hr
    cases d <;> simp_all [isLoadReset, route]
  simp [atLoadManager, h]

/-- The outputs depend on no field that the end of an event writes. -/
theorem pinsNow_finish (s : State) : pinsNow (finish s) = pinsNow s := rfl

/-- The supply mode depends on no field that the end of an event writes. -/
theorem modeNow_finish (s : State) : (finish s).supply.modeNow = s.supply.modeNow := rfl

/-! ### The power -/

/-- R112: what feeds the part depends on no field that the end of an event writes. -/
@[simp] theorem fed_finish (s : State) : fed (finish s) = fed s := rfl

@[simp] theorem sourceWaits_finish (s : State) : sourceWaits (finish s) = sourceWaits s := rfl

/-- R68, R112: what feeds the part, in the words of the statements. -/
theorem fed_iff (s : State) : fed s = true ↔ Fed s := by
  simp [fed, Fed, BayRec.pathClosed, or_assoc]

theorem sourceWaits_iff (s : State) : sourceWaits s = true ↔ SourceWaits s := by
  simp [sourceWaits, SourceWaits, or_assoc]

theorem powerNow_of_gained {s : State} (h : s.power = .gained) :
    powerNow s = if fed s && !sourceWaits s then .supplied else .gained := by simp [powerNow, h]

theorem powerNow_of_supplied {s : State} (h : s.power = .supplied) :
    powerNow s = if fed s then .supplied else unfedPower s := by simp [powerNow, h]

theorem powerNow_of_failing {s : State} (h : s.power = .failing) : powerNow s = unfedPower s := by simp [powerNow, h]

theorem powerNow_of_stopped {s : State} (h : s.power = .stopped) : powerNow s = .stopped := by simp [powerNow, h]

/-- R112: a part without supply has stopped once nothing waits, and is failing until then. -/
theorem unfedPower_cases (s : State) :
    (s.handed = [] ∧ unfedPower s = .stopped) ∨ (s.handed ≠ [] ∧ unfedPower s = .failing) := by
  by_cases h : s.handed = [] <;> simp [unfedPower, h]

/-- R112: everything that the end of an event may make of the power. -/
theorem powerNow_cases (s : State) :
    (powerNow s = .gained ∧ (fed s && !sourceWaits s) = false) ∨ (powerNow s = .supplied ∧ fed s = true) ∨
    (powerNow s = .failing ∧ s.handed ≠ []) ∨ powerNow s = .stopped := by
  have hu := unfedPower_cases s
  cases hp : s.power with
  | gained => rw [powerNow_of_gained hp]; split <;> simp_all
  | supplied => rw [powerNow_of_supplied hp]; rcases hu with ⟨-, hu⟩ | ⟨hh, hu⟩ <;> split <;> simp_all
  | failing => rw [powerNow_of_failing hp]; rcases hu with ⟨-, hu⟩ | ⟨hh, hu⟩ <;> simp_all
  | stopped => simp [powerNow_of_stopped hp]

/-- R112: what the end of an event makes of the supply of the part. -/
theorem powerJudged_finish (s : State) : PowerJudged s.power (finish s) := by
  have hf : Fed (finish s) ↔ fed s = true := (fed_iff (finish s)).symm
  have hw : SourceWaits (finish s) ↔ sourceWaits s = true := (sourceWaits_iff (finish s)).symm
  unfold PowerJudged WithoutSupply
  rw [hf, hw]
  refine ⟨fun hp => ⟨fun h => ?_, fun h => ?_⟩, fun hp => ?_, fun hp => ⟨fun h hn => ?_, fun h _ => ?_⟩⟩
  · simp [powerNow_of_supplied hp, h]
  · rcases unfedPower_cases s with ⟨hh, hu⟩ | ⟨hh, hu⟩ <;> simp [powerNow_of_supplied hp, h, hh, hu]
  · rcases unfedPower_cases s with ⟨hh, hu⟩ | ⟨hh, hu⟩ <;> simp [powerNow_of_failing hp, hh, hu]
  · simp [powerNow_of_gained hp, h, hn]
  · rcases h with h | h <;> simp [powerNow_of_gained hp, h]

/-- What the end of an event makes of the power, it makes once. -/
theorem powerNow_finish (s : State) : powerNow (finish s) = powerNow s := by
  have hp : (finish s).power = powerNow s := rfl
  rcases powerNow_cases s with ⟨h, hn⟩ | ⟨h, hf⟩ | ⟨h, hh⟩ | h
  · rw [powerNow_of_gained (hp.trans h)]; simp [hn, h]
  · rw [powerNow_of_supplied (hp.trans h)]; simp [hf, h]
  · rw [powerNow_of_failing (hp.trans h)]; simp [unfedPower, hh, h]
  · rw [powerNow_of_stopped (hp.trans h), h]

/-- The end of an event, taken twice, is the end of an event. -/
theorem finish_finish (s : State) : finish (finish s) = finish s := by
  have h : powerNow (finish s) = powerNow s := powerNow_finish s
  show ({ finish s with supply := _, pins := _, power := powerNow (finish s) } : State) = finish s
  rw [h]
  rfl

/-! ### The outputs -/

/-- R12: a rail is on while a live entry that names it is GRANTED. -/
theorem railOn_iff (L : LoadRec) (r : Fin 12) :
    railOn L r = true ↔ ∃ i e, L.entry i = some e ∧ e.rail = some r ∧ e.state = .granted := by
  simp only [railOn, List.any_eq_true, LoadRec.entry]
  constructor
  · rintro ⟨i, -, h⟩
    split at h
    · rename_i e he
      simp only [Bool.and_eq_true, beq_iff_eq] at h
      exact ⟨i, e, he, h⟩
    · cases h
  · rintro ⟨i, e, he, h⟩
    refine ⟨i, List.mem_finRange i, ?_⟩
    rw [he]
    simpa using h

/-- R69, R192: what a bay shows on its pack link. -/
theorem linkByte_eq (r : BayRec) : r.linkByte = if r.answerWindow = none then none else some 0xC7 := by
  cases h : r.answerWindow <;> simp [BayRec.linkByte, conditionQueryByte, h]

/-- R69, R192: a bay that has sent its query shows the query byte. -/
@[simp] theorem linkByte_sendQuery (r : BayRec) : (sendQuery r).linkByte = some 0xC7 := rfl

/-- What the end of an event leaves on a bay's pack link. -/
@[simp] theorem pinsNow_link (s : State) (b : Bay) : (pinsNow s).link b = (s.bay b).linkByte := by cases b <;> rfl

/-- What an event leaves on the outputs and in the supply mode: what the records say. -/
theorem outputsFollow_finish (s : State) : OutputsFollow (finish s) where
  alert := by simp [pinsNow, AttentionRec.alertLow]
  rails := fun r => by simp [pinsNow, railOn_iff]
  pathA := by simp [pinsNow, BayRec.pathClosed]
  pathB := by simp [pinsNow, BayRec.pathClosed]
  lampA := by simp [pinsNow, BayRec.lampOn]
  lampB := by simp [pinsNow, BayRec.lampOn]
  links := fun b => by simp [linkByte_eq]
  inletPath := rfl
  bridgePath := rfl
  parkRequests := fun n => by simp [pinsNow]
  backlight := rfl
  systemOn := by simp [pinsNow]
  mode := by
    simp only [finish_supply, SupplyRec.modeNow]
    by_cases h : s.supply.slot = none <;> simp [h, Option.isSome_iff_ne_none]
  supplied := fun h => by
    rw [finish_power] at h
    rw [← fed_iff]
    rcases powerNow_cases s with ⟨hg, -⟩ | ⟨-, hf⟩ | ⟨hg, -⟩ | hg <;> simp_all
  failing := fun h => by
    rw [finish_power] at h
    rcases powerNow_cases s with ⟨hg, -⟩ | ⟨hg, -⟩ | ⟨-, hh⟩ | hg <;> simp_all
  gained := fun h => by
    rw [finish_power] at h
    rw [← fed_iff, ← sourceWaits_iff]
    rcases powerNow_cases s with ⟨-, hn⟩ | ⟨hg, -⟩ | ⟨hg, -⟩ | hg <;> simp_all
    cases hf : fed s <;> simp_all

/-- R176: at a part that takes events FRAME takes its bytes as a frame; at one that has stopped it changes nothing. -/
theorem execFrame_of_alive {s : State} (h : Alive s) (bytes : List Byte) : execFrame bytes s = takeFrame bytes s := by
  simp [execFrame, writeTransfer, acknowledges, show s.power ≠ .stopped from h]

theorem execFrame_of_stopped {s : State} (h : s.power = .stopped) (bytes : List Byte) : execFrame bytes s = .next s := by
  simp [execFrame, writeTransfer, acknowledges, h]

/-- R73: what a good answer does to the link step. -/
theorem linkMoves_goodStep (r : BayRec) : LinkMoves r (goodStep r) := by
  unfold LinkMoves goodStep
  cases h : r.link with
  | none => simp
  | some l => cases l <;> by_cases hr : 1 ≤ r.goodRun <;> simp <;> simp_all

/-- R74: a bay whose counted capability has been worked out counts by its record. -/
theorem countedFollows_recount (r : BayRec) : CountedFollows r.recount := by
  unfold CountedFollows BayRec.recount BayRec.countedNow countsNow
  split <;> simp_all
  split <;> simp_all

end Sys2Proof.Machine
end

