-- ==== Sys2Proof/Laws/Table.lean ====
section
/-!
SUPPORT. The load table under its small updates and under a walk, and the reasons under a raise: what each leaves at a slot, in the order and
at a source.
-/
namespace Sys2Proof.Machine

/-! ### One record of the table -/

@[simp] theorem LoadRec.entry_setEntry_self (L : LoadRec) (i : Slot) (e : Option Entry) : (L.setEntry i e).entry i = e := by
  simp [LoadRec.entry, LoadRec.setEntry]

theorem LoadRec.entry_setEntry_ne (L : LoadRec) {i j : Slot} (e : Option Entry) (h : j ≠ i) :
    (L.setEntry i e).entry j = L.entry j := by
  have hv : i.val ≠ j.val := fun hv => h (Fin.ext hv.symm)
  simp [LoadRec.entry, LoadRec.setEntry, Vector.getElem_set_ne, hv]

theorem LoadRec.entry_setEntry (L : LoadRec) (i j : Slot) (e : Option Entry) :
    (L.setEntry i e).entry j = if j = i then e else L.entry j := by
  by_cases h : j = i
  · subst h; simp
  · simp [h, LoadRec.entry_setEntry_ne L e h]

/-- A slot keeps its generation when its record is replaced. -/
theorem LoadRec.generation_setEntry (L : LoadRec) (i j : Slot) (e : Option Entry) :
    (L.setEntry i e).slots[j].generation = L.slots[j].generation := by
  by_cases h : j = i
  · subst h; simp [LoadRec.setEntry]
  · have hv : i.val ≠ j.val := fun hv => h (Fin.ext hv.symm)
    simp [LoadRec.setEntry, Vector.getElem_set_ne, hv]

@[simp] theorem LoadRec.setEntry_order (L : LoadRec) (i : Slot) (e : Option Entry) : (L.setEntry i e).order = L.order := rfl
@[simp] theorem LoadRec.setEntry_draft (L : LoadRec) (i : Slot) (e : Option Entry) : (L.setEntry i e).draft = L.draft := rfl
@[simp] theorem LoadRec.setEntry_counter (L : LoadRec) (i : Slot) (e : Option Entry) : (L.setEntry i e).counter = L.counter := rfl
@[simp] theorem LoadRec.setEntry_ceiling (L : LoadRec) (i : Slot) (e : Option Entry) : (L.setEntry i e).ceiling = L.ceiling := rfl
@[simp] theorem LoadRec.setEntry_freeze (L : LoadRec) (i : Slot) (e : Option Entry) : (L.setEntry i e).freeze = L.freeze := rfl
@[simp] theorem LoadRec.setEntry_overcommit (L : LoadRec) (i : Slot) (e : Option Entry) :
    (L.setEntry i e).overcommit = L.overcommit := rfl
@[simp] theorem LoadRec.setEntry_grantHanded (L : LoadRec) (i : Slot) (e : Option Entry) :
    (L.setEntry i e).grantHanded = L.grantHanded := rfl

@[simp] theorem LoadRec.entry_join (L : LoadRec) (i j : Slot) (e : Entry) : (L.join i e).entry j = L.entry j := rfl
@[simp] theorem LoadRec.entry_leave (L : LoadRec) (i j : Slot) : (L.leave i).entry j = L.entry j := rfl

/-- R10: a slot that leaves is in the order no longer, and every other member stays. -/
theorem LoadRec.mem_leave (L : LoadRec) (i j : Slot) : j ∈ (L.leave i).order ↔ j ∈ L.order ∧ j ≠ i := by
  simp [LoadRec.leave]

/-- R10: insertion puts its slot into the order and keeps the others. -/
theorem mem_insertBefore (L : LoadRec) (i : Slot) (e : Entry) (l : List Slot) (j : Slot) :
    j ∈ insertBefore L i e l ↔ j = i ∨ j ∈ l := by
  induction l with
  | nil => simp [insertBefore]
  | cons k ks ih =>
    unfold insertBefore
    split
    · split
      · simp
      · simp [ih]; constructor <;> (intro h; rcases h with h | h | h <;> simp [h])
    · simp [ih]; constructor <;> (intro h; rcases h with h | h | h <;> simp [h])

/-- R10: a slot that joins is a member, and every other member stays. -/
theorem LoadRec.mem_join (L : LoadRec) (i j : Slot) (e : Entry) : j ∈ (L.join i e).order ↔ j = i ∨ j ∈ L.order :=
  mem_insertBefore L i e L.order j

/-! ### The walk -/

theorem LoadRec.applyResult_keeps (p : Profile) (L : LoadRec) (r : GrantResult) :
    (L.applyResult p r).order = L.order ∧ (L.applyResult p r).ceiling = L.ceiling ∧ (L.applyResult p r).freeze = L.freeze ∧
    (L.applyResult p r).draft = L.draft ∧ (L.applyResult p r).counter = L.counter ∧
    (L.applyResult p r).overcommit = L.overcommit ∧ (L.applyResult p r).grantHanded = L.grantHanded := by
  unfold LoadRec.applyResult
  split <;> simp

/-- One grant of a result changes its own slot only, and there only what a grant sets. -/
theorem LoadRec.entry_applyResult (p : Profile) (L : LoadRec) (r : GrantResult) (i : Slot) :
    (L.applyResult p r).entry i = if i = r.slot then (L.entry i).map (applyGrant p r) else L.entry i := by
  unfold LoadRec.applyResult
  by_cases h : i = r.slot
  · subst h
    split <;> simp_all
  · split <;> simp [h, LoadRec.entry_setEntry_ne]

theorem LoadRec.applyResults_keep (p : Profile) (rs : List GrantResult) (L : LoadRec) :
    (rs.foldl (LoadRec.applyResult p) L).order = L.order ∧ (rs.foldl (LoadRec.applyResult p) L).ceiling = L.ceiling ∧
    (rs.foldl (LoadRec.applyResult p) L).freeze = L.freeze ∧ (rs.foldl (LoadRec.applyResult p) L).draft = L.draft ∧
    (rs.foldl (LoadRec.applyResult p) L).counter = L.counter ∧
    (rs.foldl (LoadRec.applyResult p) L).grantHanded = L.grantHanded := by
  induction rs generalizing L with
  | nil => simp
  | cons r rs ih =>
    have h := LoadRec.applyResult_keeps p L r
    have k := ih (L.applyResult p r)
    simp only [List.foldl_cons]
    refine ⟨k.1.trans h.1, k.2.1.trans h.2.1, k.2.2.1.trans h.2.2.1, k.2.2.2.1.trans h.2.2.2.1, k.2.2.2.2.1.trans h.2.2.2.2.1,
      k.2.2.2.2.2.trans h.2.2.2.2.2.2⟩

/-- A slot that no grant of the result names keeps its record. -/
theorem LoadRec.entry_applyResults_of_not_mem (p : Profile) (rs : List GrantResult) (L : LoadRec) (i : Slot)
    (h : ∀ r ∈ rs, r.slot ≠ i) : (rs.foldl (LoadRec.applyResult p) L).entry i = L.entry i := by
  induction rs generalizing L with
  | nil => rfl
  | cons r rs ih =>
    simp only [List.foldl_cons]
    rw [ih _ fun x hx => h x (by simp [hx]), LoadRec.entry_applyResult]
    simp [(h r (by simp)).symm]

/-- R27: a walk leaves the Grant Order, the ceiling, the freeze, the draft and the counter. -/
theorem LoadRec.walked_keeps (p : Profile) (L : LoadRec) :
    (L.walked p).order = L.order ∧ (L.walked p).ceiling = L.ceiling ∧ (L.walked p).freeze = L.freeze ∧
    (L.walked p).draft = L.draft ∧ (L.walked p).counter = L.counter ∧ (L.walked p).grantHanded = L.grantHanded :=
  LoadRec.applyResults_keep p (walkResults L) L

/-- The table that a walk leaves. -/
@[simp] theorem load_runWalk (s : State) : (runWalk s).load = s.load.walked s.profile := by
  simp [runWalk]

/-! ### Reasons -/

/-- R181: a reason just raised is pending. -/
theorem pending_raise_self (a : Attention) (s : State) : Pending a (s.raise a) := by
  unfold Pending
  simp only [State.raise_attention, AttentionRec.raise]
  simp only [Fin.getElem_fin, Vector.getElem_set_self]
  have h : a.bit ≠ 0 := by
    cases a with
    | entry i r => revert i; cases r <;> (intro i; show (_ : BitVec 8) ≠ 0; simp [Attention.bit, EntryReason.bit])
    | bay i r => revert i; cases r <;> (intro i; show (_ : BitVec 8) ≠ 0; simp [Attention.bit, BayReason.bit])
    | supply r => cases r <;> decide
    | light r => cases r <;> decide
    | fall r => cases r <;> decide
    | part r => cases r <;> decide
  intro hz
  apply h
  have : (s.attention.sets[a.source.val] ||| a.bit) &&& a.bit = a.bit := by
    ext i hi
    simp only [BitVec.getElem_and, BitVec.getElem_or, Bool.and_comm, Bool.or_comm]
    cases s.attention.sets[a.source.val][i] <;> cases a.bit[i] <;> rfl
  rw [this] at hz
  exact hz

/-- The end of an event clears no reason. -/
theorem pending_finish (a : Attention) (s : State) : Pending a (finish s) ↔ Pending a s := Iff.rfl

/-- Handing a claim over clears no reason. -/
theorem pending_handAll (a : Attention) (cs : List Instr) (s : State) : Pending a (s.handAll cs) ↔ Pending a s := Iff.rfl

end Sys2Proof.Machine
end

