-- ==== Sys2Proof/Tests/Slice0.lean ====
section
/-!
SUPPORT. The model's own tests: an ill-formed term for each check of well-formedness, a step of each family on a small state, and, for each
statement with premises, states that meet them.
-/
namespace Sys2Proof.Tests
open Sys2Proof.Machine

/-! ### The port's address -/

theorem test_port_address :
    acknowledges 0x3A State.reset = true ∧ acknowledges 0x3B State.reset = false ∧ acknowledges 0 State.reset = false ∧
    acknowledges 0x3B { State.reset with port := portAtReset true } = true ∧
    writeAcknowledges 0x3A [1, 2, 3] State.reset = (true, [true, true, true]) ∧
    readTransferAt 0x3A 3 State.reset = some [0xFE, 0, 0xFF] ∧ readTransferAt 0x3B 3 State.reset = none := by decide

/-! ### Well-formedness: each check refuses a term -/

def plainAdmit : AdmitArgs :=
  { kind := 1, rank := 2, requested := 60, tag := 7, rail := 3, minimum := 0xFFFF, fallAction := 0x20, leasePeriod := 0 }

def plainRevise : ReviseArgs :=
  { handle := ⟨1, 0⟩, named := 0x02, rank := 0, requested := 40, minimum := 0, tag := 0, fallAction := 0, leasePeriod := 0, rail := 0 }

theorem test_wellFormed_accepts : (Instr.admitEntry plainAdmit).wellFormed = true ∧ (Instr.revise plainRevise).wellFormed = true ∧
    (Instr.curveSet [⟨0, 120⟩, ⟨131071, 1023⟩]).wellFormed = true ∧ (Instr.ceilingHandover 3000).wellFormed = true := by decide

theorem test_illFormed_admit_widths :
    (Instr.admitEntry { plainAdmit with kind := 256 }).wellFormed = false ∧ (Instr.admitEntry { plainAdmit with rank := 256 }).wellFormed = false ∧
    (Instr.admitEntry { plainAdmit with requested := 65536 }).wellFormed = false ∧
    (Instr.admitEntry { plainAdmit with tag := 65536 }).wellFormed = false ∧ (Instr.admitEntry { plainAdmit with rail := 256 }).wellFormed = false ∧
    (Instr.admitEntry { plainAdmit with minimum := 65536 }).wellFormed = false ∧
    (Instr.admitEntry { plainAdmit with fallAction := 256 }).wellFormed = false ∧
    (Instr.stagedAdmit { plainAdmit with leasePeriod := 65536 }).wellFormed = false := by decide

theorem test_illFormed_revise_widths :
    (Instr.revise { plainRevise with handle := ⟨256, 0⟩ }).wellFormed = false ∧
    (Instr.revise { plainRevise with rank := 256 }).wellFormed = false ∧
    (Instr.revise { plainRevise with requested := 65536 }).wellFormed = false ∧
    (Instr.revise { plainRevise with minimum := 65536 }).wellFormed = false ∧
    (Instr.revise { plainRevise with tag := 65536 }).wellFormed = false ∧
    (Instr.revise { plainRevise with fallAction := 256 }).wellFormed = false ∧
    (Instr.stagedRevise { plainRevise with leasePeriod := 65536 }).wellFormed = false ∧
    (Instr.stagedRevise { plainRevise with rail := 256 }).wellFormed = false := by decide

theorem test_illFormed_handles :
    (Instr.release ⟨0, 256⟩).wellFormed = false ∧ (Instr.stagedRelease ⟨256, 0⟩).wellFormed = false ∧
    (Instr.query ⟨0, 256⟩).wellFormed = false ∧ (Instr.confirm ⟨256, 0⟩).wellFormed = false ∧
    (Instr.renew ⟨0, 256⟩).wellFormed = false := by decide

theorem test_illFormed_single_values :
    (Instr.findTag 65536).wellFormed = false ∧ (Instr.findRail 256).wellFormed = false ∧ (Instr.bayStatus 256).wellFormed = false ∧
    (Instr.reprobe 256).wellFormed = false ∧ (Instr.eject 256).wellFormed = false ∧ (Instr.setInlet 65536).wellFormed = false ∧
    (Instr.lightStatus 256).wellFormed = false ∧ (Instr.panel 256).wellFormed = false ∧
    (Instr.curveRemove 16777216).wellFormed = false ∧ (Instr.profileRead 256).wellFormed = false ∧
    (Instr.acknowledge 256 0).wellFormed = false ∧ (Instr.pin 65536 0).wellFormed = false ∧
    (Instr.pin 0 65536).wellFormed = false := by decide

theorem test_illFormed_long_arguments :
    (Instr.moreFollowsFrame 0x41 (List.replicate 41 0)).wellFormed = false ∧
    (Instr.curveSet (List.replicate 20 ⟨0, 0⟩)).wellFormed = false ∧
    (Instr.curveSet [⟨16777216, 0⟩]).wellFormed = false ∧ (Instr.curveAdd ⟨0, 65536⟩).wellFormed = false ∧
    (Instr.profileWrite 256 []).wellFormed = false ∧ (Instr.profileWrite 1 (List.replicate 96 0)).wellFormed = false := by decide

theorem test_illFormed_events :
    (Instr.ceilingHandover 3001).wellFormed = false ∧ (Instr.slot0Claim 801 0).wellFormed = false ∧
    (Instr.slot0Claim 0 801).wellFormed = false ∧ (Instr.countedTotalHandover 19201).wellFormed = false ∧
    (Instr.slot0GrantHandoff 801 true).wellFormed = false ∧ (Instr.goodAnswer .bayA [1, 2, 3, 4, 5]).wellFormed = false ∧
    (Instr.badAnswer .bayB []).wellFormed = false ∧ (Instr.backlightProfileChange 10).wellFormed = false ∧
    (Instr.backlightProfileChange 19).wellFormed = false ∧
    (Instr.protectAnswer [1, 1]).wellFormed = false := by decide

/-! ### States the tests start from -/

/-- What a command leaves. -/
def after (c : Instr) (s : State) : State :=
  match exec c s with
  | .next t => t
  | .fault f => nomatch f
  | .refused _ => s

/-- The part in a system state. -/
def inState (st : SystemState) (s : State) : State := { s with system := { s.system with state := st } }

/-- The part in RUN, with the inlet present, a planning ceiling of 730 and the same ceiling in force. -/
def onInlet : State :=
  inState .run { State.reset with
    power := .supplied
    supply := { State.reset.supply with inletPresent := true, sourceSum := 900, ceiling := 730 }
    load := { State.reset.load with ceiling := 730 } }

/-- A live host entry: SWITCHED on rail 3, GRANTED 60, fall action CUT. -/
def onRail : Entry where
  tag := 7
  kind := .switched
  rail := some 3
  rank := 2
  requested := 60
  minimum := 60
  granted := 60
  counted := 60
  state := .granted
  sequence := 1
  fallAction := some .cut
  mark := .clear
  lease := none
  holdoff := none
  grace := none

/-- A live host entry: THROTTLED, GRANTED 100 with a minimum of 40, parked by line 1. -/
def throttled : Entry where
  tag := 8
  kind := .throttled
  rail := none
  rank := 3
  requested := 100
  minimum := 40
  granted := 100
  counted := 100
  state := .granted
  sequence := 1
  fallAction := some (.park 1)
  mark := .clear
  lease := none
  holdoff := none
  grace := none

/-- The part with one more live entry, in slot 1, a member of the Grant Order when its state is one of a member's. -/
def withEntry (e : Entry) (s : State) : State :=
  let L := { s.load.setEntry 1 (some e) with counter := 2 }
  { s with load := if e.state.isMember then { L with order := [0, 1] } else L }

/-- Bay A with a pack that is ONLINE with 500 pu. -/
def onlinePack : BayRec := { State.reset.bayA with
  state := .online
  contact := .made
  link := some .inStep
  goodRun := 2
  candidate := some ⟨.ready, 500, .none⟩
  accepted := some ⟨.ready, 500, .none⟩
  charge := some 80
  counted := 500
  queryTimer := some 300 }

/-- The part on bay A. -/
def onPack : State :=
  inState .run { State.reset with
    power := .supplied
    bayA := onlinePack
    supply := { State.reset.supply with sourceSum := 500, ceiling := 330, reserve := 60 }
    load := { State.reset.load with ceiling := 330 } }

/-- Bay A in another state, out of `onPack`. -/
def bayIn (f : BayRec → BayRec) : State := { onPack with bayA := f onlinePack }

/-! ### One step of each family -/

theorem test_port_refuses_unknown_code :
    (after (.frame [0x7F, 0x00]) onInlet).port.reply = some { status := .unknownRequest, payload := [] } := by decide

theorem test_port_carries_a_request :
    (after (.frame [0x16, 0x00]) onInlet).port.reply = some { status := .ok, payload := [1, 0, 0] } := by decide

theorem test_port_assembles :
    (after (.frame [0x41, 0x82, 0x01, 0x00]) onInlet).port =
      { strapHigh := false, reply := some (okReply [2]), assembly := some { code := 0x41, args := [0x01, 0x00] } } := by decide

theorem test_admit_grants :
    ((after (.admitEntry plainAdmit) onInlet).load.entry 1).map (fun e => (e.granted, e.state, e.sequence)) = some (60, .granted, 1) ∧
    (after (.admitEntry plainAdmit) onInlet).port.reply = some (okReply [1, 0]) ∧
    (after (.admitEntry plainAdmit) onInlet).handed = [.countedTotalHandover 60] ∧
    (after (.admitEntry plainAdmit) onInlet).pins.rails[3] = true := by decide +kernel

theorem test_admit_needs_run :
    (after (.admitEntry plainAdmit) State.reset).port.reply = some (refusal .notRunning) := by decide

theorem test_release_frees_the_slot :
    (after (.release ⟨1, 0⟩) (withEntry onRail onInlet)).load.slots[1] = { generation := 1, entry := none } := by decide +kernel

theorem test_walk_throttles_into_grace :
    ((after (.ceilingHandover 50) (withEntry throttled onInlet)).load.entry 1).map
      (fun e => (e.granted, e.counted, e.state, e.grace)) = some (50, 100, .reduced, some { value := 100, remaining := 2000 }) ∧
    (after (.ceilingHandover 50) (withEntry throttled onInlet)).load.overcommit = true := by decide +kernel

theorem test_walk_sheds :
    ((after (.ceilingHandover 50) (withEntry onRail onInlet)).load.entry 1).map
      (fun e => (e.granted, e.state, e.holdoff)) = some (0, .shed, some 4000) := by decide +kernel

theorem test_protect_cuts :
    ((after .protectClaim (withEntry onRail onInlet)).load.entry 1).map (fun e => (e.granted, e.state)) = some (0, .held) ∧
    (after .protectClaim (withEntry throttled onInlet)).handed = [.protectAnswer [1]] := by decide +kernel

theorem test_stage_and_commit :
    (after .commit (after (.stagedAdmit plainAdmit) onInlet)).port.reply = some (okReply [1, 1, 1, 0]) ∧
    (after .commit onInlet).port.reply = some (refusal .draftEmpty) := by decide +kernel

theorem test_inlet_gives_the_ceiling :
    (after (.inletEvent true) State.reset).supply.ceiling = 730 ∧
    (after (.inletEvent true) State.reset).handed = [.ceilingHandover 730] := by decide

theorem test_last_pack_lost_bridges :
    (after (.contactLoss .bayA) onPack).supply.carrying = true ∧ (after (.contactLoss .bayA) onPack).bayA.state = .empty ∧
    (after (.contactLoss .bayA) onPack).pins.bridgePath = true := by decide

theorem test_lever_starts_a_withdrawal :
    (after (.leverEvent .bayA .opened) onPack).bayA.state = .released ∧
    (after (.leverEvent .bayA .opened) onPack).supply.slot = some .bayA := by decide

theorem test_contact_starts_probing :
    (after (.contactMade .bayB) onPack).bayB.state = .probing ∧
    (after (.contactMade .bayB) onPack).bayB.probeTimer = some 4000 := by decide

/-- 9.6: the query byte of R192 goes out on the link of the bay that asks, and of that bay alone; R67: a contact loss abandons the query. -/
theorem test_query_goes_out_on_its_link :
    (let s := after (.conditionQuery .bayA) onPack
     s.pins.linkA = some 0xC7 ∧ s.pins.linkB = none ∧ (after (.contactLoss .bayA) s).pins.linkA = none) ∧
    State.reset.pins.linkA = none := by decide

theorem test_answers_are_read :
    readAnswer [0x01, 0xF4, 0x01, 0x50, 0x00, 0xBA] = some { condition := ⟨.ready, 500, .none⟩, charge := 80 } ∧
    readAnswer [0x01, 0xF4, 0x01, 0x50, 0x00, 0xBB] = none := by decide

theorem test_curve_and_cap :
    curveLevel defaultCurvePoints 0 = 120 ∧ curveLevel defaultCurvePoints 250 = 190 ∧ curveLevel defaultCurvePoints 90000 = 1023 ∧
    (let p := defaultProfile.lightSettings
     powerOf p 1023 = 120 ∧ capOf p 120 = 1023 ∧ capOf p 4 = 0) := by decide

theorem test_read_event_moves_the_estimate :
    (after (.readEvent (some 500) (some 500)) { onInlet with light := { onInlet.light with
      readTimer := some 0, window := [500, 500] } }).light.estimate = some 500 := by decide

theorem test_grant_lets_the_output_rise :
    (after (.slot0GrantHandoff 120 false) { onInlet with light := { onInlet.light with target := 700 } }).light.destination = 700 ∧
    (after .rampStep { onInlet with light := { onInlet.light with
      destination := 700, cap := 1023, target := 700, ramp := .rising, stepTimer := some 0 } }).light.output = 8 := by decide

/-- R135, R186: the capped test follows the reload of PART_RESET (notes/assumptions/37.md); with a claim in flight it waits (R132). The levels and
powers are those of R129 and of the example of 6.7: 700 needs 84 pu, and 54 pu give a cap of 435. -/
theorem test_part_reset_tests_capped :
    (let s := { onInlet with light := { onInlet.light with
       target := 700, source := .failsafe, claimSent := ⟨84, 10⟩, grantTaken := 54, cap := 435, destination := 435, output := 435, capped := true } }
     let t := after .backlightPartReset s
     let u := after .backlightPartReset { s with light := { s.light with inFlight := true } }
     (t.light.target = 700 ∧ t.light.cap = 435 ∧ t.light.inFlight = false ∧ t.light.capped = true ∧ Pending (.light .capped) t) ∧
     u.light.inFlight = true ∧ u.light.capped = false) := by
  unfold Pending
  decide

theorem test_magnitude_and_bands :
    magnitude ⟨3, 4, 0⟩ = 5 ∧ magnitude ⟨0, 0, 1000⟩ = 1000 ∧ bandOf defaultProfile 349 = .low ∧ bandOf defaultProfile 350 = .moving ∧
    bandOf defaultProfile 800 = .quiet ∧ bandOf defaultProfile 3000 = .light ∧ bandOf defaultProfile 8000 = .hard := by decide +kernel

theorem test_disarm_stops_sampling :
    (after .disarm onInlet).motion.armed = false ∧ (after .disarm onInlet).handed = [.disarmNotice] := by decide

theorem test_fall_start_claims_protection :
    (after .fallStart onInlet).episode.protectPending = true ∧ (after .fallStart onInlet).handed = [.protectClaim] := by decide

theorem test_park_line_requested :
    (after (.protectAnswer [1]) { onInlet with episode := { onInlet.episode with protectPending := true } }).episode.lines[1] =
      { state := .requested, requestOn := true, doneActive := false, parkTimer := some 600, unparkTimer := none } := by decide

theorem test_press_starts_the_system :
    (after .pressTimerExpiry (inState .dark { onInlet with system := { onInlet.system with pressTimer := some 0 } })).system.state =
      .starting := by decide

theorem test_ready_needs_starting :
    (after .ready (inState .starting onInlet)).system.state = .run ∧
    (after .ready onInlet).port.reply = some (refusal .wrongState) := by decide

theorem test_simulate_fall_needs_the_system_on :
    (after .simulateFall (inState .stopping { onInlet with motion := { onInlet.motion with state := .level } })).port.reply =
      some (refusal .wrongState) := by decide

theorem test_declarations_are_taken_in_order :
    (after (.settled .light) { onInlet with handed := [.impact .light, .settled .light] }).handed = [] ∧
    (after (.settled .light) { onInlet with handed := [.impact .light, .settled .light] }).attention.sets[fallSource] = 0x02 := by
  decide

theorem test_draft_read_finds_an_empty_list_in_dark :
    (after .draftRead { (inState .dark onInlet) with
      load := { onInlet.load with draft := [.release ⟨1, 0⟩] }, handed := [.loadManagerSystemOffClear] }).port.reply =
      some (okReply [0]) := by decide +kernel

theorem test_renewed_lease_does_not_lapse :
    (after (.lapse 1) (after (.renew ⟨1, 0⟩) (withEntry { onRail with lease := some { period := 5, remaining := 0 } } onInlet))).load.entry 1 =
      some { onRail with lease := some { period := 5, remaining := 10000 } } := by decide +kernel

theorem test_grace_started_again_does_not_expire :
    (let s := withEntry { throttled with grace := some { value := 100, remaining := 1 } } onInlet
     (after (.graceExpiry 1) s).load = s.load) := by decide

theorem test_a_contact_lost_outside_tests_no_withdrawal :
    (let s := { onPack with
       bayA := { onPack.bayA with state := .faulted }
       bayB := { onPack.bayA with state := .withdrawing, cause := some .lever }
       supply := { onPack.supply with slot := some .bayB, phase := some .blocked } }
     (after (.contactLoss .bayA) s).supply.phase = some .blocked) := by decide

theorem test_starting_in_dark_takes_the_target_off :
    (let t := after (.backlightStateNotice .starting) (inState .dark { onInlet with light := { onInlet.light with target := 700 } })
     t.light.target = 0 ∧ t.light.source = .off ∧ t.light.readTimer = none) := by decide

theorem test_backlight_settings_wait_for_their_event :
    (after (.profileWrite 12 [0x64, 0x00]) onInlet).light.settings.pfull = 120 ∧
    (after (.backlightProfileChange 12) (after (.profileWrite 12 [0x64, 0x00]) onInlet)).light.settings.pfull = 100 := by decide

theorem test_acknowledge_clears :
    (after (.acknowledge 26 0x10) (after (.inletEvent true) State.reset)).port.reply = some (okReply [0x00]) := by decide

theorem test_profile_write_reaches_its_block :
    (after (.profileWrite 1 [0x64, 0x00]) onInlet).store.working.allowance = 100 ∧
    (after (.profileWrite 1 [0x64, 0x00]) onInlet).handed = [.supplyProfileChange] ∧
    (after (.profileWrite 1 [0x64, 0x00]) onInlet).bridgeTests = [false] ∧
    (after (.profileWrite 10 [0x14]) onInlet).bridgeTests = [true] ∧
    (after .supplyProfileChange (after (.profileWrite 10 [0x14]) onInlet)).bridgeTests = [] := by decide

theorem test_reset_without_a_good_copy :
    (after (.powerOnReset inputsAtReset) { onInlet with store := { onInlet.store with storedOk := false } }).attention.sets[29] =
      (Attention.part .profileDefaulted).bit := by decide

theorem test_idle_lets_time_pass :
    idle { State.reset with system := { State.reset.system with pressTimer := some 2 } } =
      .next { State.reset with system := { State.reset.system with pressTimer := some 1 } } := rfl

theorem test_no_word_spells_a_command : decodeTableWord 8 0 = none ∧ State.reset.withFetchWord 8 0 = State.reset := ⟨rfl, rfl⟩

/-! ### States that meet the premises of the statements

Each theorem is named after its statement, and shows, clause by clause, a state and operands that meet all the premises of the clause. -/

/-- A part that has supply takes events. -/
theorem alive_of_supplied {s : State} (h : s.power = .supplied) : Alive s := by simp [Alive, h]

/-- So does one that a power-on reset has started. -/
theorem alive_of_gained {s : State} (h : s.power = .gained) : Alive s := by simp [Alive, h]

/-- Nothing is handed over to the part on its inlet, nor to the part on its pack. -/
theorem foremost_onInlet (c : Instr) : Foremost c onInlet := foremost_of_nothing rfl c

theorem foremost_onPack (c : Instr) : Foremost c onPack := foremost_of_nothing rfl c

theorem witness_IdleAndStoppedParts :
    (State.reset.pending = [] ∧ ({ State.reset with power := .stopped } : State).power = .stopped ∧ State.reset.power ≠ .stopped ∧
      ({ State.reset with handed := [.liftClaim] } : State).handed = .liftClaim :: [] ∧ State.reset.handed = [] ∧
      dueEvents { State.reset with system := { State.reset.system with pressTimer := some 0 } } = .pressTimerExpiry :: [] ∧
      dueEvents State.reset = []) ∧ ∀ x, Instr.order ≠ .powerOnReset x :=
  ⟨by decide +kernel, by intro x h; cases h⟩

/-- A LAPSED lease stands still, a timer at 0 waits, and another falls; the ones at 0 are due. -/
theorem witness_IdleAndStoppedParts_timers :
    (let s := withEntry { throttled with
       state := .lapsed, granted := 0, counted := 0, lease := some { period := 5, remaining := 3 }, holdoff := some 0 }
       { onInlet with system := { onInlet.system with pressTimer := some 2 }, motion := { onInlet.motion with sampleTimer := some 0 } }
     (tick s).load = s.load ∧ (tick s).system.pressTimer = some 1 ∧ (tick s).motion.sampleTimer = some 0 ∧
       IsDue (.holdoffExpiry 1) s ∧ ¬IsDue .pressTimerExpiry s ∧ ¬IsDue (.sampleEvent none) s) :=
  ⟨by decide +kernel, by decide, by decide, ⟨_, rfl, rfl⟩, by unfold IsDue; decide, fun h => h⟩

theorem witness_EveryCommandAnswersNext : Instr.order ≠ .releaseClaim ∧ Instr.order ≠ .deferClaim := by decide

theorem witness_ClaimsAreTakenInTheOrderHanded :
    (let s := { onInlet with handed := [.impact .light, .settled .light] }
     s.handed = [] ++ .impact .light :: [.settled .light] ∧
       route (.settled .light) = some ⟨.motionMonitor, .sequencer⟩ ∧ route (.impact .light) = some ⟨.motionMonitor, .sequencer⟩ ∧
       Instr.impact .light ≠ .settled .light) ∧
    (let s := { onInlet with handed := [.liftClaim, .loadManagerSystemOffClear] }
     s.handed = [.liftClaim] ++ .loadManagerSystemOffClear :: [] ∧ isLoadRequest .draftRead = true ∧
       Instr.liftClaim ≠ .loadManagerPartReset ∧ Instr.liftClaim ≠ .loadManagerSystemOffClear) := by decide

theorem witness_OutputsFollowEveryStep : OutputsFollow (finish onPack) ∧ ∃ t, step (finish onPack) = .next t :=
  ⟨outputsFollow_finish onPack, _, rfl⟩

theorem withdrawalLaw_onPack : WithdrawalLaw onPack := by
  constructor <;> first | decide | (intro b; cases b <;> decide) | (constructor <;> decide)

theorem witness_WithdrawalAndBridgeKept : WithdrawalLaw onPack ∧ BridgeLaw onPack ∧ ∃ t, step onPack = .next t :=
  ⟨withdrawalLaw_onPack, by constructor <;> decide, _, rfl⟩

/-- The table of `onPack` with another backlight entry. -/
def slot0Table (e : Entry) : LoadRec := onPack.load.setEntry 0 (some e)

theorem entry_slot0Table {e : Entry} {i : Slot} {x : Entry} (h : (slot0Table e).entry i = some x) : i = 0 ∧ x = e := by
  have alone : ∀ j : Slot, j = 0 ∨ onPack.load.entry j = none := by decide
  by_cases h0 : i = 0
  · subst h0
    simpa [slot0Table, eq_comm] using h
  · rw [slot0Table, LoadRec.entry_setEntry_ne _ _ h0, (alone i).resolve_left h0] at h
    cases h

theorem grantOrderLaw_slot0Table {e : Entry} (hm : e.state.isMember = true) (hs : e.sequence = 0) :
    GrantOrderLaw (slot0Table e) where
  members := by
    intro i
    constructor
    · intro h
      have alone : ∀ j : Slot, j ∈ onPack.load.order → j = 0 := by decide
      have h0 : i = 0 := alone i h
      subst h0
      exact ⟨e, by simp [slot0Table], hm⟩
    · rintro ⟨x, hx, -⟩
      obtain ⟨rfl, -⟩ := entry_slot0Table hx
      show (0 : Slot) ∈ onPack.load.order
      decide
  sorted := by
    show List.Pairwise _ [0]
    simp
  unique := by
    intro i j ei ej hi hj _
    rw [(entry_slot0Table hi).1, (entry_slot0Table hj).1]
  below := by
    intro i x h
    obtain ⟨rfl, rfl⟩ := entry_slot0Table h
    rw [hs]
    show 0 < onPack.load.counter
    decide
  backlight := ⟨e, by simp [slot0Table], hs⟩
  counter := by
    show 1 ≤ onPack.load.counter ∧ onPack.load.counter ≤ counterLimit
    decide

theorem tableLaw_slot0Table {e : Entry} (hm : e.state.isMember = true) (hs : e.sequence = 0) (he : EntryLaw e) (hk : KindLaw 0 e)
    (hc : (slot0Table e).countedTotal ≤ (slot0Table e).ceiling) : TableLaw (slot0Table e) where
  order := grantOrderLaw_slot0Table hm hs
  entries := by
    intro i x h
    obtain ⟨rfl, rfl⟩ := entry_slot0Table h
    exact ⟨he, hk⟩
  rails := by
    intro i j ei ej hi hj _ _
    rw [(entry_slot0Table hi).1, (entry_slot0Table hj).1]
  draft := by
    show onPack.load.draft.length ≤ draftLimit
    decide
  within := .inl hc

/-- The backlight entry GRANTED 100 of the 100 it asked for. -/
def lit : Entry := { slot0AtReset with requested := 100, minimum := 40, granted := 100, counted := 100, state := .granted }

/-- The backlight entry SHED, its holdoff running. -/
def shedLit : Entry := { lit with granted := 0, counted := 0, state := .shed, holdoff := some 5 }

def litTable : LoadRec := slot0Table lit

theorem grantOrderLaw_litTable : GrantOrderLaw litTable := grantOrderLaw_slot0Table rfl rfl

theorem tableLaw_litTable : TableLaw litTable :=
  tableLaw_slot0Table rfl rfl (by constructor <;> decide) (by constructor <;> decide) (by decide)

theorem tableLaw_shedLit : TableLaw (slot0Table shedLit) :=
  tableLaw_slot0Table rfl rfl (by constructor <;> decide) (by constructor <;> decide) (by decide)

theorem witness_LoadTableKept : TableLaw { onPack with load := litTable }.load ∧ ∃ t, step { onPack with load := litTable } = .next t :=
  ⟨tableLaw_litTable, _, rfl⟩

/-- An episode in which line 1 is REQUESTED and the others are IDLE. -/
def parkingEpisode : EpisodeRec :=
  { onPack.episode with
    state := .protecting
    lines := onPack.episode.lines.set 1
      { state := .requested, requestOn := true, doneActive := false, parkTimer := some 600, unparkTimer := none } }

theorem episodeLaw_parking : EpisodeLaw parkingEpisode :=
  ⟨by decide, by decide, by intro n; constructor <;> (revert n; decide)⟩

theorem witness_LightMotionAndEpisodeKept :
    LightLaw onPack.light ∧ MotionLaw onPack.motion ∧ EpisodeLaw { onPack with episode := parkingEpisode }.episode ∧
    ∃ t, step { onPack with episode := parkingEpisode } = .next t :=
  ⟨by constructor <;> decide, by constructor <;> decide, episodeLaw_parking, _, rfl⟩

theorem witness_SettingsReasonsAndDraftKept :
    SettingsLaw onPack ∧ ReasonsLaw onPack.attention ∧ DraftLaw onPack ∧ ∃ t, step onPack = .next t := by
  refine ⟨⟨by decide, by decide, ?_, by decide, by decide, by decide⟩, by unfold ReasonsLaw; decide, .inl rfl, _, rfl⟩
  intro x h
  cases h

theorem witness_RecordsKeptByOtherCommands :
    (∃ t, exec .protectClaim onPack = .next t) ∧ isAnyRecord .protectClaim = false ∧ isLoadRequest .rampStep = false ∧
    isLoadEvent .rampStep = false ∧ isSupplyCommand .protectClaim = false ∧ OutputsFollow (finish onPack) ∧
    isLightCommand .protectClaim = false ∧ isMotionCommand .protectClaim = false ∧ isEpisodeCommand .protectClaim = false ∧
    isSystemCommand .protectClaim = false ∧ isStoreCommand .protectClaim = false ∧ isRequest .protectClaim = false ∧
    Instr.protectClaim ≠ .partReset ∧ (∀ m, Instr.protectClaim ≠ .mask m) :=
  ⟨⟨_, rfl⟩, rfl, rfl, rfl, rfl, outputsFollow_finish onPack, rfl, rfl, rfl, rfl, rfl, rfl, by decide, by intro m h; cases h⟩

theorem witness_ChangedTotalsAreHandedOver :
    (after (.admitEntry plainAdmit) onInlet).load.countedTotal ≠ onInlet.load.countedTotal ∧
    onInlet.load.grantHanded = onInlet.load.slot0Grant ∧
    (after (.slot0Claim 100 40) onInlet).load.slot0Grant ≠ onInlet.load.slot0Grant ∧
    (after (.inletEvent true) State.reset).supply.ceiling ≠ State.reset.supply.ceiling ∧
    (∀ x, Instr.inletEvent true ≠ .powerOnReset x) :=
  ⟨by decide +kernel, by decide, by decide +kernel, by decide, by intro x h; cases h⟩

/-- The part with an assembly of n bytes of CURVE_SET. -/
def assembling (n : Nat) : State :=
  { onInlet with port := { onInlet.port with assembly := some { code := 0x41, args := List.replicate n 0 } } }

theorem witness_FramesAreRefusedOrCarryTheirRequest :
    Alive (assembling 90) ∧ readLength 0x29 = none ∧ readLength 0x7F = none ∧ readLength 0xA9 = none ∧
    (readLength 0x28 = some (40, false) ∧ ([] : List Byte).length ≠ 40) ∧
    (readLength 0x07 = some (([0, 0, 0, 0, 0, 0, 0] : List Byte).length, false) ∧ catalogHas 0x7F = false ∧ catalogHas 0x41 = true ∧
      96 < (heldArgs 0x41 (assembling 90).port ++ [0, 0, 0, 0, 0, 0, 0]).length) ∧
    ((heldArgs 0x12 (assembling 90).port ++ [1]).length ≤ 96 ∧ decodeRequest 0x12 [1] = .error .badLength) ∧
    ((heldArgs 0x41 (assembling 0).port ++ [0x00]).length ≤ 96 ∧
      decodeRequest 0x41 (heldArgs 0x41 (assembling 0).port ++ [0x00]) = .ok (.curveSet [])) :=
  ⟨alive_of_supplied rfl, by decide, by decide, by decide, by decide, by decide, by exact ⟨by decide, rfl⟩,
    by exact ⟨by decide, rfl⟩⟩

theorem witness_FramesAreRefusedOrCarryTheirRequest_bounds :
    ((0x28 : Byte).toNat ≤ 40 ∧ 41 ≤ (0x29 : Byte).toNat ∧ (0x7F : Byte).toNat ≤ 127 ∧ 0x80 ≤ (0x80 : Byte).toNat ∧
      (0xA8 : Byte).toNat ≤ 0xA8 ∧ 0xA9 ≤ (0xA9 : Byte).toNat) ∧
    (([1] : List Byte).length ≠ 2 ∧ ([5, 0, 0, 0, 0] : List Byte).length ≠ 5 * (2 : Byte).toNat ∧ ([1] : List Byte).length ≠ 0 ∧
      ([1] : List Byte).length ≠ 6) ∧
    ((0 : Byte).toNat = 0 ∧ 29 < (30 : Byte).toNat ∧ 1 ≤ (1 : Byte).toNat ∧ (29 : Byte).toNat ≤ 29 ∧
      ([1] : List Byte).length ≠ 2 ∧ ¬(5 * (([2] : List Byte).headD 0).toNat + 1 = ([2] : List Byte).length)) := by decide

theorem witness_LongRequestsAndReadTransfers :
    Alive (assembling 56) ∧ (List.replicate 40 (0 : Byte)).length ≤ 40 ∧ catalogHas 0x41 = true ∧
    (List.replicate 56 (0 : Byte) ++ List.replicate 40 0).length ≤ 96 ∧
    96 < (List.replicate 57 (0 : Byte) ++ List.replicate 40 0).length ∧
    (after .order onInlet).port.reply = some { status := .ok, payload := [1, 0, 0] } ∧ State.reset.port.reply = none :=
  ⟨alive_of_supplied rfl, by decide, by decide, by decide, by decide, by decide, by decide⟩

theorem witness_RequestsRoundTrip :
    (Instr.admitEntry plainAdmit).wellFormed = true ∧ requestFrame (.admitEntry plainAdmit) = some (0x10, admitBytes plainAdmit) ∧
    (Instr.profileWrite 1 [0x64, 0x00]).wellFormed = true ∧
    requestFrame (.profileWrite 1 [0x64, 0x00]) = some (0x64, [0x01, 0x64, 0x00]) := by decide

theorem witness_StatusReadsChangeNothing :
    Alive onPack ∧ settingBytes onPack.profile 1 = some [150, 0] ∧ settingBytes onPack.profile 29 = some [1, 0, 0x10, 0, 0, 0] ∧
    (after (.profileRead 1) onPack).port.reply = some (okReply [150, 0]) :=
  ⟨alive_of_supplied rfl, by decide, by decide, by decide⟩

theorem witness_HandlesAndReadsOfTheTable :
    Alive (atLoadManager (withEntry onRail onInlet)) ∧ Instr.loadManagerPartReset ∉ (withEntry onRail onInlet).handed ∧
    Instr.loadManagerSystemOffClear ∉ (withEntry onRail onInlet).handed ∧
    (let s := { inState .starting (withEntry onRail onInlet) with handed := [.loadManagerSystemOffClear] }
     DraftLaw s ∧ Alive (atLoadManager s) ∧ s.system.state = .starting) ∧
    (withEntry onRail onInlet).load.lookup ⟨1, 0⟩ = some (1, onRail) ∧ (withEntry onRail onInlet).load.lookup ⟨1, 1⟩ = none ∧
    (withEntry onRail onInlet).load.lookup ⟨24, 0⟩ = none ∧ (withEntry onRail onInlet).load.entry 1 = some onRail ∧
    onRail.rail = some 3 ∧
    (∀ j ej, (withEntry onRail onInlet).load.entry j = some ej → ej.rail = some 3 → j = 1) ∧
    (∀ i e, onInlet.load.entry i = some e → e.rail ≠ some 11) := by
  refine ⟨alive_of_supplied rfl, by decide, by decide, ⟨.inr (.inr (.inr (by decide))), by unfold Alive; decide +kernel, rfl⟩, by decide,
    by decide, by decide, by decide, rfl, ?_, ?_⟩
  · have : ∀ j : Slot, ((withEntry onRail onInlet).load.entry j).all (fun e => e.rail != some 3 || j == 1) = true := by decide
    intro j ej h hr
    have := this j
    simp_all
  · have : ∀ j : Slot, (onInlet.load.entry j).all (fun e => e.rail != some 11) = true := by decide
    intro j ej h
    have := this j
    simp_all

/-- A THROTTLED admission at the edges of its ranges. -/
def edgeAdmit : AdmitArgs :=
  { kind := 2, rank := 7, requested := 800, tag := 0, rail := 0xFF, minimum := 800, fallAction := 0x13, leasePeriod := 600 }

theorem witness_AdmittedRecordAndItsNumber :
    (plainAdmit.kind = 1 ∧ plainAdmit.rank ≤ 7 ∧ 1 ≤ plainAdmit.requested ∧ plainAdmit.requested ≤ 800 ∧
      plainAdmit.rail = (3 : Fin 12).val ∧ plainAdmit.minimum = 0xFFFF ∧ plainAdmit.fallAction = fallActionCode (some .cut) ∧
      plainAdmit.leasePeriod ≤ 600) ∧
    (edgeAdmit.kind = 2 ∧ edgeAdmit.rank ≤ 7 ∧ edgeAdmit.requested ≤ 800 ∧ edgeAdmit.rail = 0xFF ∧ 1 ≤ edgeAdmit.minimum ∧
      edgeAdmit.minimum ≤ edgeAdmit.requested ∧ edgeAdmit.fallAction = fallActionCode (some (.park 3)) ∧
      edgeAdmit.leasePeriod ≤ 600) ∧
    (admitRecord plainAdmit).isSome = true ∧
    ((2 : Slot) ≠ 0 ∧ (withEntry onRail onInlet).load.entry 2 = none ∧ 2 ∉ (withEntry onRail onInlet).load.order ∧
      (withEntry onRail onInlet).load.counter ≠ 4294967295) ∧
    (({ (withEntry onRail onInlet).load with counter := 4294967295 } : LoadRec).counter = 4294967295 ∧
      ({ (withEntry onRail onInlet).load with counter := 4294967295 } : LoadRec).entry 1 = some onRail) ∧
    (GrantOrderLaw litTable ∧ litTable.entry 1 = none ∧ 1 ∉ litTable.order) :=
  ⟨by decide, by decide, by decide, by decide, by decide, grantOrderLaw_litTable, by decide, by decide⟩

/-- Every slot live: slot 0 and 23 THROTTLED entries. -/
def fullTable : State :=
  { onInlet with load := { onInlet.load with
    slots := (Vector.replicate 24 { generation := 0, entry := some throttled }).set 0 { generation := 0, entry := some slot0AtReset } } }

theorem witness_AdmitTakesTheLowestFreeSlot :
    Alive (atLoadManager onInlet) ∧ (atLoadManager State.reset).system.state ≠ .run ∧ (atLoadManager onInlet).system.state = .run ∧
    admitRecord { plainAdmit with rank := 8 } = none ∧ (admitRecord plainAdmit).isSome = true ∧
    (∀ i : Slot, i ≠ 0 → ((atLoadManager fullTable).load.entry i).isSome = true) ∧
    ((atLoadManager (withEntry onRail onInlet)).load.entry 2 = none ∧
      ∀ j : Slot, j ≠ 0 → j < 2 → ((atLoadManager (withEntry onRail onInlet)).load.entry j).isSome = true) ∧
    ((atLoadManager (withEntry onRail onInlet)).load.entry 1 = some onRail ∧
      (admitRecord plainAdmit).bind Entry.rail = onRail.rail) ∧
    (∀ j : Slot, ((atLoadManager onInlet).load.entry j).all (fun ej => ej.rail != some 3) = true) :=
  ⟨alive_of_supplied rfl, by decide, by decide, by decide, by decide, by decide, by decide, by decide, by decide⟩

/-- An entry in grace. -/
def graced : Entry := { throttled with granted := 40, state := .reduced, grace := some { value := 100, remaining := 2000 } }

/-- An entry whose grace has run out. -/
def graceOut : Entry := { graced with grace := some { value := 100, remaining := 0 } }

theorem witness_ReviseIsCheckedAndSetsItsFields :
    Alive (atLoadManager onInlet) ∧ (atLoadManager State.reset).system.state ≠ .run ∧
    (atLoadManager onInlet).load.lookup plainRevise.handle = none ∧
    (atLoadManager (withEntry throttled onInlet)).load.lookup plainRevise.handle = some (1, throttled) ∧
    -- out of range: nothing named, and a requested power of 801
    (({ plainRevise with named := 0 } : ReviseArgs).named = 0 ∧ plainRevise.named.getLsbD 1 = true ∧
      ({ plainRevise with requested := 801 } : ReviseArgs).requested > 800) ∧
    -- in range, and not what the kind allows: a requested power below the minimum
    (throttled.kind = .throttled ∧ ¬throttled.minimum ≤ ({ plainRevise with requested := 39 } : ReviseArgs).requested) ∧
    -- in range and allowed: only requested power is named
    (plainRevise.named ≠ 0 ∧ (∀ k, k ∈ [0, 2, 3, 4, 5, 6, 7] → plainRevise.named.getLsbD k = false) ∧ 1 ≤ plainRevise.requested ∧
      plainRevise.requested ≤ 800 ∧ throttled.minimum ≤ plainRevise.requested) ∧
    -- held back by a grace, and not
    (graced.grace.isSome = true ∧ throttled.grace.isSome = false) ∧
    -- a rail that another entry holds
    (let a := { plainRevise with handle := ⟨2, 0⟩, named := 0x40, rail := 3 }
     let L := (withEntry onRail onInlet).load.setEntry 2 (some { onRail with rail := some 4 })
     L.lookup a.handle = some (2, { onRail with rail := some 4 }) ∧ a.named.getLsbD 6 = true ∧ a.rail = (3 : Fin 12).val ∧
       L.entry 1 = some onRail ∧ onRail.rail = some 3) ∧
    (GrantOrderLaw litTable ∧ litTable.entry 0 = some lit) :=
  ⟨alive_of_supplied rfl, by decide, by decide, by decide, by decide, by decide, by decide, by decide, by decide,
    grantOrderLaw_litTable, by decide⟩

theorem witness_ReleaseRetiresTheEntry :
    Alive (atLoadManager onInlet) ∧ (atLoadManager State.reset).system.state ≠ .run ∧ (atLoadManager onInlet).system.state = .run ∧
    (atLoadManager onInlet).load.lookup ⟨1, 0⟩ = none ∧ (atLoadManager onInlet).load.lookup ⟨0, 0⟩ = some (0, slot0AtReset) ∧
    (atLoadManager (withEntry onRail onInlet)).load.lookup ⟨1, 0⟩ = some (1, onRail) :=
  ⟨alive_of_supplied rfl, by decide, by decide, by decide, by decide, by decide⟩

theorem witness_ConfirmOrExpiryEndsTheGrace :
    Alive (atLoadManager (withEntry graced onInlet)) ∧ (atLoadManager onInlet).load.lookup ⟨1, 0⟩ = none ∧
    (atLoadManager (withEntry throttled onInlet)).load.lookup ⟨1, 0⟩ = some (1, throttled) ∧ throttled.grace = none ∧
    (atLoadManager (withEntry graced onInlet)).load.lookup ⟨1, 0⟩ = some (1, graced) ∧
    graced.grace = some { value := 100, remaining := 2000 } ∧ (withEntry throttled onInlet).load.entry 1 = some throttled ∧
    (withEntry graced onInlet).load.entry 1 = some graced ∧ graceOut.grace = some { value := 100, remaining := 0 } ∧
    (withEntry graceOut onInlet).load.entry 1 = some graceOut :=
  ⟨alive_of_supplied rfl, by decide, by decide, by decide, by decide, by decide, by decide, by decide, by decide, by decide⟩

/-- An entry whose lease has run out. -/
def lapsed : Entry :=
  { onRail with state := .lapsed, granted := 0, counted := 0, lease := some { period := 600, remaining := 0 } }

theorem witness_RenewRestartsTheLease :
    Alive (atLoadManager (withEntry lapsed onInlet)) ∧ (atLoadManager State.reset).system.state ≠ .run ∧
    (atLoadManager (withEntry lapsed onInlet)).system.state = .run ∧ (atLoadManager onInlet).load.lookup ⟨1, 0⟩ = none ∧
    (atLoadManager (withEntry onRail onInlet)).load.lookup ⟨1, 0⟩ = some (1, onRail) ∧ onRail.lease = none ∧
    (atLoadManager (withEntry lapsed onInlet)).load.lookup ⟨1, 0⟩ = some (1, lapsed) ∧
    lapsed.lease = some { period := 600, remaining := 0 } ∧ lapsed.state = .lapsed ∧
    ({ onRail with lease := some { period := 1, remaining := 1 } } : Entry).state ≠ .lapsed :=
  ⟨alive_of_supplied rfl, by decide, by decide, by decide, by decide, by decide, by decide, by decide, by decide, by decide⟩

/-- The part with n staged releases. -/
def staged (n : Nat) : State := { onInlet with load := { onInlet.load with draft := List.replicate n (.release ⟨1, 0⟩) } }

theorem witness_DraftTakesStagedRequestsAndDiscard :
    Alive (atLoadManager (staged 8)) ∧ (admitRecord plainAdmit).isSome = true ∧
    (admitRecord { plainAdmit with kind := 3 }).isSome = false ∧
    (plainRevise.named ≠ 0 ∧ (∀ k, k ∈ [0, 2, 3, 4, 5, 6, 7] → plainRevise.named.getLsbD k = false) ∧ plainRevise.requested = 40) ∧
    ({ plainRevise with named := 0x80 } : ReviseArgs).named.getLsbD 7 = true ∧
    (atLoadManager State.reset).system.state ≠ .run ∧ (atLoadManager (staged 8)).system.state = .run ∧
    8 ≤ (atLoadManager (staged 8)).load.draft.length ∧ (atLoadManager (staged 7)).load.draft.length < 8 ∧
    Instr.loadManagerPartReset ∉ (staged 8).handed ∧ Instr.loadManagerSystemOffClear ∉ (staged 8).handed :=
  ⟨alive_of_supplied rfl, by decide, by decide, by decide, by decide, by decide, by decide, by decide, by decide, by decide, by decide⟩

theorem witness_CommitAppliesUpToTheFirstFailure :
    Alive (atLoadManager (staged 1)) ∧ (atLoadManager State.reset).system.state ≠ .run ∧ (atLoadManager onInlet).load.draft = [] ∧
    (atLoadManager (staged 1)).load.draft ≠ [] ∧
    (commitChanges (staged 1).load.draft (staged 1)).applied = 0 ∧
    0 < (commitChanges (staged 2).load.draft (withEntry onRail (staged 2))).applied ∧
    (commitChanges (staged 2).load.draft (withEntry onRail (staged 2))).stop = some .staleHandle ∧
    (commitChanges (staged 1).load.draft (withEntry onRail (staged 1))).stop = none ∧
    (∃ s' hs, applyChange (.release ⟨1, 0⟩) (withEntry onRail onInlet) = .ok (s', hs)) ∧
    applyChange (.release ⟨1, 0⟩) onInlet = .error .staleHandle ∧
    (let m := atLoadManager (withEntry throttled onInlet)
     Alive m ∧ m.system.state = .run ∧ m.load.lookup plainRevise.handle = some (1, throttled) ∧
       throttled.state.isMember = true ∧ plainRevise.named.getLsbD 1 = true ∧
       (∃ u hs, applyChange (.revise plainRevise) m = .ok (u, hs)) ∧
       (∃ u hs, applyChange (.revise { plainRevise with named := 0x08 }) m = .ok (u, hs)) ∧
       ¬(∃ k, k ∈ [0, 1, 2] ∧ (0x08 : Byte).getLsbD k = true)) :=
  ⟨alive_of_supplied rfl, by decide, by decide, by decide, by decide, by decide, by decide, by decide, ⟨_, _, rfl⟩, rfl,
    alive_of_supplied rfl, by decide, by decide, by decide, by decide, ⟨_, _, rfl⟩, ⟨_, _, rfl⟩, by decide⟩

theorem witness_CeilingClaimHoldoffAndLeaseRunTheWalk :
    Alive onInlet ∧ (∀ c, Foremost c onInlet) ∧ (730 = onInlet.load.ceiling ∧ 729 ≠ onInlet.load.ceiling) ∧ onInlet.load.entry 0 = some slot0AtReset ∧
    (min 0 800 = slot0AtReset.requested ∧ min 5 (min 0 800) = slot0AtReset.minimum) ∧
    (¬(min 801 800 = slot0AtReset.requested ∧ min 40 (min 801 800) = slot0AtReset.minimum) ∧
      ({ slot0AtReset with state := .lapsed } : Entry).state = .lapsed ∧ slot0AtReset.state ≠ .lapsed) ∧
    (withEntry onRail onInlet).load.entry 1 = some onRail ∧ onRail.holdoff = none ∧ onRail.lease = none ∧
    ({ onRail with granted := 0, counted := 0, state := .shed, holdoff := some 0 } : Entry).holdoff ≠ none ∧
    (lapsed.state = .lapsed) ∧
    ({ onRail with lease := some { period := 1, remaining := 0 } } : Entry).lease = some { period := 1, remaining := 0 } ∧
    ({ onRail with lease := some { period := 1, remaining := 1 } } : Entry).lease = some { period := 1, remaining := 1 } :=
  ⟨alive_of_supplied rfl, foremost_onInlet, by decide, by decide, by decide, by decide, by decide, by decide, by decide, by decide, by decide,
  by decide, by decide⟩

theorem witness_ProtectClaimMarksAndCuts :
    Alive (withEntry onRail onInlet) ∧ Foremost .protectClaim (withEntry onRail onInlet) ∧
    ((withEntry onRail onInlet).load.entry 1 = some onRail ∧ 0 < onRail.granted ∧
      onRail.fallAction = some .cut) ∧
    ((withEntry throttled onInlet).load.entry 1 = some throttled ∧ 0 < throttled.granted ∧ throttled.fallAction = some (.park 1)) ∧
    (onInlet.load.entry 0 = some slot0AtReset ∧ slot0AtReset.granted = 0) :=
  ⟨alive_of_supplied rfl, foremost_of_nothing rfl _, by decide, by decide, by decide⟩

/-- A SWITCHED entry whose line is being parked. -/
def parking : Entry := { onRail with fallAction := some (.park 1), mark := .parking }

theorem witness_LineClaimsMarkTheEntries :
    Alive (withEntry parking onInlet) ∧ (∀ c, Foremost c (withEntry parking onInlet)) ∧
    (withEntry parking onInlet).load.entry 1 = some parking ∧
    parking.fallAction = some (.park 1) ∧ parking.mark = .parking ∧ parking.kind = .switched ∧ parking.state = .granted :=
  ⟨alive_of_supplied rfl, foremost_of_nothing rfl, by decide, by decide, by decide, by decide, by decide⟩

/-- The freeze is set over a table with the backlight entry, an entry HELD by CUT and one HELD by a failed line. -/
def cutHeld : Entry := { onRail with state := .held, granted := 0, counted := 0 }

def lineHeld : Entry :=
  { parking with rail := some 4, sequence := 2, state := .held, granted := 0, counted := 0, mark := .parkFailed }

def frozen : State := { onPack with
  load := { (litTable.setEntry 1 (some cutHeld)).setEntry 2 (some lineHeld) with counter := 3, freeze := true } }

theorem entry_frozen {i : Slot} {e : Entry} (h : frozen.load.entry i = some e) :
    (i = 0 ∧ e = lit) ∨ (i = 1 ∧ e = cutHeld) ∨ (i = 2 ∧ e = lineHeld) := by
  have others : ∀ j : Slot, j = 0 ∨ j = 1 ∨ j = 2 ∨ frozen.load.entry j = none := by decide
  have h0 : frozen.load.entry 0 = some lit := by decide
  have h1 : frozen.load.entry 1 = some cutHeld := by decide
  have h2 : frozen.load.entry 2 = some lineHeld := by decide
  rcases others i with hi | hi | hi | hi
  · subst hi; exact .inl ⟨rfl, by simpa [h0] using h.symm⟩
  · subst hi; exact .inr (.inl ⟨rfl, by simpa [h1] using h.symm⟩)
  · subst hi; exact .inr (.inr ⟨rfl, by simpa [h2] using h.symm⟩)
  · simp [hi] at h

theorem grantOrderLaw_frozen : GrantOrderLaw frozen.load where
  members := by
    intro i
    constructor
    · intro h
      have h0 : i = 0 := by revert h; revert i; decide
      subst h0
      exact ⟨lit, by decide, by decide⟩
    · rintro ⟨e, he, hm⟩
      rcases entry_frozen he with ⟨rfl, rfl⟩ | ⟨rfl, rfl⟩ | ⟨rfl, rfl⟩ <;> revert hm <;> decide
  sorted := by
    show List.Pairwise _ [0]
    simp
  unique := by
    intro i j ei ej hi hj hs
    rcases entry_frozen hi with ⟨rfl, rfl⟩ | ⟨rfl, rfl⟩ | ⟨rfl, rfl⟩ <;>
      rcases entry_frozen hj with ⟨rfl, rfl⟩ | ⟨rfl, rfl⟩ | ⟨rfl, rfl⟩ <;> revert hs <;> decide
  below := by
    intro i e h
    rcases entry_frozen h with ⟨rfl, rfl⟩ | ⟨rfl, rfl⟩ | ⟨rfl, rfl⟩ <;> decide
  backlight := ⟨lit, by decide, by decide⟩
  counter := by decide

theorem tableLaw_frozen : TableLaw frozen.load where
  order := grantOrderLaw_frozen
  entries := by
    intro i e h
    rcases entry_frozen h with ⟨rfl, rfl⟩ | ⟨rfl, rfl⟩ | ⟨rfl, rfl⟩ <;>
      exact ⟨by constructor <;> decide, by constructor <;> decide⟩
  rails := by
    intro i j ei ej hi hj hr he
    rcases entry_frozen hi with ⟨rfl, rfl⟩ | ⟨rfl, rfl⟩ | ⟨rfl, rfl⟩ <;>
      rcases entry_frozen hj with ⟨rfl, rfl⟩ | ⟨rfl, rfl⟩ | ⟨rfl, rfl⟩ <;> revert hr he <;> decide
  draft := by decide
  within := by decide

theorem witness_ReturnAndLiftClaims :
    Alive frozen ∧ (∀ c, Foremost c frozen) ∧ (∀ c, Foremost c onInlet) ∧ frozen.load.freeze = true ∧ TableLaw frozen.load ∧
    onInlet.load.freeze = false ∧
    (frozen.load.entry 1 = some cutHeld ∧ cutHeld.state = .held ∧ cutHeld.mark = .clear) ∧
    (frozen.load.entry 2 = some lineHeld ∧ lineHeld.state = .held ∧ lineHeld.mark ≠ .clear ∧
      lineHeld.fallAction = some (.park 1)) :=
  ⟨alive_of_supplied rfl, foremost_of_nothing rfl, foremost_onInlet, rfl, tableLaw_frozen, rfl, by decide, by decide⟩

theorem witness_LoadManagerResets :
    Alive (withEntry onRail onInlet) ∧ (∀ c, Foremost c (withEntry onRail onInlet)) ∧
    (withEntry onRail onInlet).load.entry 0 = some slot0AtReset ∧ ((withEntry onRail onInlet).load.entry 1).isSome = true ∧
    (TableLaw litTable ∧ litTable.entry 0 = some lit ∧ lit.state ≠ .lapsed ∧ lit.state ≠ .shed ∧ litTable.countedTotal ≠ 0) ∧
    (TableLaw (slot0Table shedLit) ∧ (slot0Table shedLit).entry 0 = some shedLit ∧ shedLit.state = .shed ∧ shedLit.holdoff ≠ none) :=
  ⟨alive_of_supplied rfl, foremost_of_nothing rfl, by decide, by decide, ⟨tableLaw_litTable, by decide, by decide, by decide, by decide⟩,
    ⟨tableLaw_shedLit, by decide, by decide, by decide⟩⟩

theorem witness_WalkGivesItsGrants :
    [((1 : Slot), throttled)][0]? = some (1, throttled) ∧
    walkRound false 100 [(1, throttled)] = [(1, throttled, 100)] ∧ walkRound false 50 [(1, throttled)] = [(1, throttled, 50)] ∧
    (throttled.kind = .throttled ∧ 50 < throttled.granted) := by decide

theorem witness_WalkKeepsToItsFields :
    (withEntry graced onInlet).load.entry 1 = some graced ∧ ((runWalk (withEntry graced onInlet)).load.entry 1).isSome = true ∧
    frozen.load.freeze = true ∧ graced.grace.isSome = true ∧ (1 : Slot) ∉ (withEntry lapsed onInlet).load.order ∧
    (withEntry graced onInlet).load.overcommit = false ∧
    (runWalk { (withEntry graced onInlet) with load := { (withEntry graced onInlet).load with ceiling := 99 } }).load.overcommit =
      true ∧
    (TableLaw litTable ∧ (⟨0, 100, false⟩ : GrantResult) ∈ walkResults litTable ∧
      (1 : Slot) ∉ (walkResults litTable).map GrantResult.slot) ∧
    ∀ i, (29 : Fin 30) ≠ entrySource i :=
  ⟨by decide +kernel, by decide +kernel, by decide, by decide, by decide, by decide, by decide +kernel,
    ⟨tableLaw_litTable, by decide +kernel, by decide +kernel⟩, by decide⟩

/-- The part on the inlet alone, with a reserve. -/
def reserved (n : Nat) : State := { onInlet with supply := { onInlet.supply with reserve := n } }

/-- The part on its bridge, in a system state. -/
def bridging (st : SystemState) (n : Nat) : State :=
  inState st { State.reset with
    power := .supplied
    supply := { State.reset.supply with carrying := true, reserve := n, drainTimer := some 0 } }

theorem laws_bridging : WithdrawalLaw (bridging .run 16) ∧ BridgeLaw (bridging .run 16) ∧
    WithdrawalLaw (bridging .run 1) ∧ BridgeLaw (bridging .run 1) := by
  refine ⟨?_, ?_, ?_, ?_⟩ <;> constructor <;>
    first | decide | (intro b; cases b <;> decide) | (constructor <;> decide)

theorem witness_BridgeDrainsAndRefills :
    (∀ c, Foremost c (bridging .run 16)) ∧ (Alive (bridging .run 16) ∧ WithdrawalLaw (bridging .run 16) ∧ BridgeLaw (bridging .run 16) ∧
      (bridging .run 16).supply.carrying = true ∧ 1 < (bridging .run 16).supply.reserve ∧ (bridging .run 16).supply.reserve = 16) ∧
    (WithdrawalLaw (bridging .run 1) ∧ BridgeLaw (bridging .run 1) ∧ (bridging .run 1).supply.reserve ≤ 1) ∧
    (someSource (bridging .run 16) = false ∧ (bridging .run 16).system.state = .run) ∧
    (onPack.supply.carrying = false ∧ (bridging .dark 16).system.state = .dark) ∧
    (onPack.supply.refillTimer = none ∧ ({ onPack.supply with refillTimer := some 0 } : SupplyRec).refillTimer ≠ none) :=
  ⟨foremost_of_nothing rfl, ⟨alive_of_supplied rfl, laws_bridging.1, laws_bridging.2.1, by decide, by decide, by decide⟩,
    ⟨laws_bridging.2.2.1, laws_bridging.2.2.2, by decide⟩, by decide, by decide, by decide⟩

/-- Bay A's lever level held back by a deferral. -/
def deferring : State :=
  { bayIn (fun r => { r with leverInput := .opened, deferred := some .opened }) with
    supply := { onPack.supply with deferral := true } }

theorem witness_DeferralHoldsLeverEvents :
    Alive deferring ∧ (∀ c, Foremost c deferring) ∧ deferring.supply.deferral = true ∧ (deferring.bay .bayA).leverInput ≠ .locked ∧
    ((onPack.bay .bayA).deferred = none ∧ (onPack.bay .bayB).deferred = none) ∧
    ((deferring.bay .bayA).deferred = some .opened ∧ Lever.opened ≠ (deferring.bay .bayA).leverTaken ∧
      (deferring.bay .bayB).deferred = none) ∧
    (({ deferring with bayB := { onPack.bayB with deferred := some .opened } } : State).bayB.deferred = some .opened ∧
      Lever.opened ≠ onPack.bayB.leverTaken) :=
  ⟨alive_of_supplied rfl, foremost_of_nothing rfl, by decide, by decide, by decide, by decide, by decide⟩

/-- Bay A WITHDRAWING in phase CLEARING, by a cause. -/
def clearing (cause : Cause) : State :=
  { bayIn (fun r => { r with state := .withdrawing, cause := some cause }) with
    supply := { onPack.supply with slot := some .bayA, phase := some .clearing, totalHeld := 400 } }

/-- Bay A's withdrawal by a cause in a phase, bay B ONLINE and waiting for it, with its lever OPEN. -/
def clearingBefore (cause : Cause) (phase : Phase) (request : PackRequest) (reason : WaitReason) : State :=
  { clearing cause with
    bayB := { onlinePack with accepted := some ⟨.ready, 500, request⟩, leverInput := .opened, leverTaken := .opened }
    supply := { (clearing cause).supply with phase := some phase, waiting := some .bayB, waitReason := some reason } }

theorem withdrawalLaw_clearing : WithdrawalLaw (clearing .lever) ∧ WithdrawalLaw (clearing .disconnect) ∧
    WithdrawalLaw (clearingBefore .disconnect .clearing .none .lever) ∧
    WithdrawalLaw (clearingBefore .eject .blocked .disconnect .disconnect) := by
  refine ⟨?_, ?_, ?_, ?_⟩ <;> constructor <;> first | decide | (intro b; cases b <;> decide) | (constructor <;> decide)

/-- Bay B waits by its lever, or by the DISCONNECT its pack asks for. -/
theorem waits_clearingBefore :
    (¬AsksDisconnect ((clearingBefore .disconnect .clearing .none .lever).bay .bayB) ∧
      ((clearingBefore .disconnect .clearing .none .lever).bay .bayB).leverTaken = .opened ∧
      (clearingBefore .disconnect .clearing .none .lever).supply.waiting = some (otherBay .bayA)) ∧
    (AsksDisconnect ((clearingBefore .eject .blocked .disconnect .disconnect).bay .bayB) ∧
      (clearingBefore .eject .blocked .disconnect .disconnect).supply.waitReason = some .disconnect) := by
  refine ⟨⟨?_, by decide, by decide⟩, ⟨by decide, ⟨.ready, 500, .disconnect⟩, by decide, by decide⟩, by decide⟩
  rintro ⟨-, c, hc, hr⟩
  have h : some (⟨.ready, 500, .none⟩ : Condition) = some c := hc
  cases h
  cases hr

theorem witness_PathOpensWhenTheTotalFits :
    Alive (clearing .lever) ∧ WithdrawalLaw (clearing .lever) ∧ WithdrawalLaw (clearing .disconnect) ∧
    (∀ c, Foremost c (clearing .lever)) ∧
    (clearing .lever).supply.slot = some .bayA ∧ (clearing .lever).supply.phase = some .clearing ∧
    (clearing .lever).supply.ceiling < 331 ∧ 330 ≤ (clearing .lever).supply.ceiling ∧
    ((clearing .lever).bay .bayA).cause ≠ some .disconnect ∧ ((clearing .disconnect).bay .bayA).cause = some .disconnect ∧
    lastSource .bayA (clearing .lever) = true ∧ (clearing .lever).system.state = .run ∧
    (let s := clearingBefore .disconnect .clearing .none .lever
     WithdrawalLaw s ∧ s.supply.slot = some .bayA ∧ s.supply.waiting = some (otherBay .bayA) ∧ ¬AsksDisconnect (s.bay .bayB) ∧
       (s.bay .bayB).leverTaken = .opened) :=
  ⟨alive_of_supplied rfl, withdrawalLaw_clearing.1, withdrawalLaw_clearing.2.1, foremost_of_nothing rfl, by decide, by decide, by decide,
  by decide, by decide,
    by decide, by decide, by decide, ⟨withdrawalLaw_clearing.2.2.1, by decide, by decide, waits_clearingBefore.1.1, by decide⟩⟩

/-- With no withdrawal CLEARING, in PathOpensWhenTheTotalFits. -/
theorem witness_PathOpensWhenTheTotalFits_held :
    let s := { onPack with supply := { onPack.supply with reserve := 60 } }
    Alive s ∧ BridgeLaw s ∧ s.supply.phase ≠ some .clearing ∧ ∀ total, Foremost (.countedTotalHandover total) s :=
  ⟨alive_of_supplied rfl, by constructor <;> decide, by decide, fun _ => foremost_of_nothing rfl _⟩

/-- The supply fails, or the part stops at once: with no reserve left, in ContactMakesAndLosesABay, InletComesAndGoes and
BridgeDrainsAndRefills. -/
theorem witness_PowerJudged :
    (let s := { onPack with supply := { onPack.supply with reserve := 0 } }
     (after (.contactLoss .bayA) s).power = .failing ∧ (after (.contactLoss .bayA) s).handed ≠ []) ∧
    (let s := inState .dark { onPack with supply := State.reset.supply, store := { onPack.store with
       working := { onPack.store.working with allowance := 1000 } } }
     (after (.contactLoss .bayA) s).power = .stopped ∧ (after (.contactLoss .bayA) s).handed = []) ∧
    (after (.inletEvent false) (reserved 0)).power = .failing ∧ (after (.inletEvent false) (reserved 1)).power = .supplied ∧
    (after .drainTimerExpiry (bridging .run 1)).power = .failing ∧ (after .drainTimerExpiry (bridging .run 16)).power = .supplied := by
  decide +kernel

/-- R112: with no inlet and no reserve a pack that leaves the supply without being lifted leaves the part without supply: one FAULTED by its lost
link, and one RELEASED when the bridge runs out. -/
theorem test_seated_pack_with_open_path_feeds_nothing :
    (let s := bayIn fun r => { r with link := some .outOfStep, stepTimer := some 0 }
     let t := after (.linkStepTimerExpiry .bayA) { s with supply := { s.supply with reserve := 0 } }
     t.bayA.contact = .made ∧ t.bayA.state = .faulted ∧ t.power = .failing) ∧
    (let s := { bridging .run 1 with bayA := { onlinePack with state := .released, cause := some .lever } }
     let t := after .drainTimerExpiry s
     t.bayA.contact = .made ∧ t.bayA.state = .released ∧ t.power = .failing) := by
  decide +kernel

/-- The part that a seated pack has started, the pack not yet ONLINE. -/
def started : State := after (.contactMade .bayA) { State.reset with handed := [.contactMade .bayA] }

/-- R199: a seated pack keeps alive the part it has started, until it is lifted. -/
theorem test_seated_pack_starts_the_part :
    (started.bayA.state = .probing ∧ started.power = .gained ∧ (after (.probeTimerExpiry .bayA) started).power = .gained ∧
      (after (.contactLoss .bayA) started).power = .stopped) ∧
    (after (.inletEvent true) { State.reset with handed := [.inletEvent true] }).power = .supplied := by
  decide +kernel

/-- The part that a reset has started, in RecordsKeptByOtherCommands and ContactMakesAndLosesABay, and a part whose supply has failed, in
PowerJudged. -/
theorem witness_PowerJudged_gained :
    (WithdrawalLaw started ∧ started.power = .gained ∧ (started.bay .bayA).contact = .made ∧ ∀ c, Foremost c started) ∧
    (let t := after (.contactLoss .bayA) started
     ¬Fed t ∧ ¬SourceWaits t ∧ t.bayA.contact = .lost ∧ t.bayB.contact = .lost) ∧
    (¬Fed started ∧ ¬Fed (after .protectClaim started) ∧ isSupplyCommand .protectClaim = false) ∧
    (let s := after (.contactLoss .bayA) { onPack with supply := { onPack.supply with reserve := 0 } }
     s.power = .failing ∧ Alive s) := by
  refine ⟨⟨?_, by decide +kernel, by decide +kernel, foremost_of_nothing (by decide +kernel)⟩, ?_, ?_, ?_⟩
  · constructor <;> first | decide +kernel | (intro b; cases b <;> decide +kernel) | (constructor <;> decide +kernel)
  · unfold Fed SourceWaits; decide +kernel
  · unfold Fed; decide +kernel
  · unfold Alive; decide +kernel

theorem witness_ContactMakesAndLosesABay :
    Alive onPack ∧ (∀ c, Foremost c onPack) ∧
    (let s := clearingBefore .eject .blocked .disconnect .disconnect
     WithdrawalLaw s ∧ (s.bay .bayA).contact = .made ∧ s.supply.slot = some .bayA ∧ s.supply.waiting = some (otherBay .bayA) ∧
       AsksDisconnect (s.bay .bayB) ∧ s.supply.waitReason = some .disconnect) ∧
    ((onPack.bay .bayB).state ≠ .online ∧ (onPack.bay .bayB).state ≠ .withdrawing ∧ onPack.supply.inletPresent = false ∧
      onPack.supply.carrying = false ∧ onPack.system.state = .run ∧ 0 < onPack.supply.reserve) ∧ (onPack.bay .bayB).contact = .lost ∧
      (onPack.bay .bayA).contact = .made ∧ WithdrawalLaw onPack ∧
    (onPack.bay .bayA).state = .online ∧ ((clearing .lever).bay .bayA).state = .withdrawing ∧
    WithdrawalLaw (bayIn fun r => { r with state := .faulted }) ∧
    ((bayIn fun r => { r with state := .faulted }).bay .bayA).contact = .made := by
  refine ⟨alive_of_supplied rfl, foremost_onPack,
    ⟨withdrawalLaw_clearing.2.2.2, by decide, by decide, by decide, waits_clearingBefore.2.1, by decide⟩, by decide, by decide, by decide,
    withdrawalLaw_onPack, by decide, by decide, ?_, by decide⟩
  constructor <;> first | decide | (intro b; cases b <;> decide) | (constructor <;> decide)

/-- Both packs seated, bay B's withdrawal BLOCKED. -/
def otherBlocked : State :=
  { onPack with
    bayB := { onlinePack with state := .withdrawing, cause := some .lever, leverInput := .opened, leverTaken := .opened }
    supply := { onPack.supply with slot := some .bayB, phase := some .blocked } }

/-- Bay A waiting for bay B's withdrawal, by a DISCONNECT. -/
def waitingBay : State := { otherBlocked with supply := { otherBlocked.supply with waiting := some .bayA, waitReason := some .disconnect } }

/-- Bay A waiting so, with its lever OPEN. -/
def waitingOpen : State := waitingBay.modifyBay .bayA fun r => { r with leverInput := .opened, leverTaken := .opened }

/-- Both packs seated, bay B's withdrawal CLEARING. -/
def otherClearing : State := { otherBlocked with supply := { otherBlocked.supply with phase := some .clearing, totalHeld := 400 } }

/-- Bay A's withdrawal CLEARING, on the inlet, with no reserve. -/
def clearingOnInlet : State := { clearing .lever with
  supply := { (clearing .lever).supply with inletPresent := true, reserve := 0 } }

/-- The bridge test blocks it once the inlet is gone, and does not block bay B's beside an ONLINE bay. -/
theorem bridgeBlocks_cases :
    BridgeBlocks .bayA { clearing .lever with supply := { (clearing .lever).supply with reserve := 9 } } ∧
    BridgeBlocks .bayA { clearingOnInlet with supply := { clearingOnInlet.supply with inletPresent := false } } ∧
    ¬BridgeBlocks .bayB otherBlocked ∧ ¬BridgeBlocks .bayA (clearing .lever) := by
  unfold BridgeBlocks
  decide

theorem witness_PlanningCeilingFollowsTheSources :
    Alive onInlet ∧ (∀ c, Foremost c onInlet) ∧ 1200 < 1201 ∧ 1200 ≤ 1200 ∧ State.reset.supply.inletPresent = false ∧
    onInlet.supply.inletPresent = true ∧
    (let s := { waitingBay with bridgeTests := [false] }
     WithdrawalLaw s ∧ s.supply.slot = some .bayB ∧ s.supply.phase = some .blocked ∧ s.bridgeTests.head? = some false) ∧
    (clearing .lever).bridgeTests.head? ≠ some false ∧
    (WithdrawalLaw (clearing .lever) ∧ (clearing .lever).supply.slot = some .bayA ∧
      (clearing .lever).supply.phase = some .clearing ∧ ¬BridgeBlocks .bayA (clearing .lever)) ∧
    (let s := { clearing .lever with supply := { (clearing .lever).supply with reserve := 9 } }
     s.supply.slot = some .bayA ∧ s.supply.phase = some .clearing ∧ BridgeBlocks .bayA s) :=
  ⟨alive_of_supplied rfl, foremost_onInlet, by decide, by decide, by decide, by decide,
    ⟨by constructor <;> first | decide | (intro b; cases b <;> decide) | (constructor <;> decide), by decide, by decide, rfl⟩, by decide,
    ⟨withdrawalLaw_clearing.1, by decide, by decide, bridgeBlocks_cases.2.2.2⟩, by decide, by decide, bridgeBlocks_cases.1⟩

theorem witness_InletComesAndGoes :
    Alive (reserved 15) ∧ (∀ c, Foremost c (reserved 15)) ∧ State.reset.supply.inletPresent = false ∧
    (reserved 15).supply.inletPresent = true ∧ (reserved 15).supply.carrying = false ∧
    (∀ b, ((reserved 15).bay b).state ≠ .online ∧ ((reserved 15).bay b).state ≠ .withdrawing) ∧
    (reserved 15).system.state = .run ∧ 0 < (reserved 15).supply.reserve ∧ (reserved 15).supply.reserve ≤ 15 ∧
    (reserved 0).supply.reserve = 0 ∧
    (clearingOnInlet.supply.inletPresent = true ∧ clearingOnInlet.supply.slot = some .bayA ∧
      clearingOnInlet.supply.phase = some .clearing ∧
      BridgeBlocks .bayA { clearingOnInlet with supply := { clearingOnInlet.supply with inletPresent := false } }) :=
  ⟨alive_of_supplied rfl, foremost_of_nothing rfl, by decide, by decide, by decide, by intro b; cases b <;> decide, by decide, by decide,
    by decide, by decide, by decide, by decide, by decide, bridgeBlocks_cases.2.1⟩

/-! The premises of the tests of a withdrawal under way (R99, R100), for the statements that speak of them. -/

/-- Bay B's withdrawal in a phase, beside bay A as `f` makes it, in a system state with n seconds of reserve. -/
def beside (f : BayRec → BayRec) (phase : Phase) (st : SystemState) (n : Nat) : State :=
  inState st { otherBlocked with
    bayA := f otherBlocked.bayA
    supply := { otherBlocked.supply with phase := some phase, reserve := n, totalHeld := 400 } }

/-- A FAULTED pack. -/
def faulted : BayRec → BayRec := fun r => { r with state := .faulted }

/-- The same with the inlet present, or not. -/
def inletAt (p : Bool) (s : State) : State := { s with supply := { s.supply with inletPresent := p } }

theorem withdrawalLaw_beside : WithdrawalLaw (beside faulted .blocked .run 9) ∧ WithdrawalLaw (beside faulted .blocked .dark 1) ∧
    WithdrawalLaw (beside faulted .clearing .stopping 10) ∧ WithdrawalLaw (beside faulted .clearing .starting 10) ∧
    WithdrawalLaw (beside faulted .blocked .run 8) ∧ WithdrawalLaw (inletAt true (beside faulted .clearing .run 9)) ∧
    WithdrawalLaw (inletAt true (beside faulted .clearing .run 10)) ∧ WithdrawalLaw (beside id .clearing .run 9) := by
  refine ⟨?_, ?_, ?_, ?_, ?_, ?_, ?_, ?_⟩ <;> constructor <;> first | decide | (intro b; cases b <;> decide) | (constructor <;> decide)

theorem under_way_beside (f : BayRec → BayRec) (phase : Phase) (st : SystemState) (n : Nat) :
    (beside f phase st n).supply.slot = some .bayB ∧ ((beside f phase st n).bay .bayB).cause = some .lever ∧
    (beside f phase st n).supply.phase = some phase ∧ Alive (beside f phase st n) ∧ ∀ c, Foremost c (beside f phase st n) :=
  ⟨rfl, rfl, rfl, alive_of_supplied rfl, foremost_of_nothing rfl⟩

theorem witness_PlanningCeilingFollowsTheSources_tests :
    BridgeBlocks .bayB (beside faulted .blocked .run 9) ∧ ¬BridgeBlocks .bayB (beside faulted .blocked .dark 1) ∧
    BridgeBlocks .bayB (beside faulted .clearing .stopping 10) ∧ ¬BridgeBlocks .bayB (beside faulted .clearing .starting 10) := by
  unfold BridgeBlocks
  decide

theorem witness_InletComesAndGoes_tests :
    BridgeBlocks .bayB (inletAt false (inletAt true (beside faulted .clearing .run 9))) ∧
    ¬BridgeBlocks .bayB (inletAt false (inletAt true (beside faulted .clearing .run 10))) ∧
    ¬BridgeBlocks .bayB (inletAt true (beside faulted .blocked .run 9)) ∧
    (inletAt true (beside faulted .clearing .run 9)).supply.phase = some .clearing ∧
    (let s := beside faulted .blocked .run 9
     s.supply.inletPresent = false ∧ s.supply.refillTimer = none ∧ s.supply.reserve < 60) := by
  unfold BridgeBlocks
  decide

theorem witness_BridgeDrainsAndRefills_tests :
    (let s := { (beside faulted .blocked .run 9) with supply := { (beside faulted .blocked .run 9).supply with refillTimer := some 0 } }
     s.supply.refillTimer ≠ none ∧ s.supply.phase = some .blocked ∧
       ¬BridgeBlocks .bayB { s with supply := { s.supply with reserve := min 60 (s.supply.reserve + 1) } }) ∧
    (let s := beside faulted .blocked .run 8
     BridgeBlocks .bayB { s with supply := { s.supply with reserve := min 60 (s.supply.reserve + 1) } }) ∧
    (let s := { State.reset with supply := { State.reset.supply with reserve := 59 }, pending := [.inletEvent true] }
     s.supply.refillTimer = none ∧ ∃ t, step s = .next t ∧ t.supply.refillTimer ≠ none) := by
  refine ⟨?_, ?_, by decide, _, rfl, by decide⟩ <;> (unfold BridgeBlocks; decide)

/-- The loss of bay A, in ContactMakesAndLosesABay, AgreeingAnswersAreAccepted, AcceptanceInTheOtherStates, BayTimersExpire and
RequalifyHoldsTheCapability. -/
theorem witness_LossAnswered :
    (let s := beside id .clearing .run 9
     (s.bay .bayA).state = .online ∧ (s.bay .bayA).contact = .made ∧ s.supply.slot ≠ some .bayA ∧ s.supply.phase = some .clearing ∧
       BridgeBlocks .bayB (s.setBay .bayA { s.bay .bayA with state := .faulted })) ∧
    (let s := beside id .clearing .run 10
     ¬BridgeBlocks .bayB (s.setBay .bayA { s.bay .bayA with state := .faulted })) ∧
    (let s := beside faulted .blocked .run 9
     (s.bay .bayA).contact = .made ∧ (s.bay .bayA).state ≠ .online ∧ (s.bay .bayA).state ≠ .withdrawing ∧
       s.supply.slot = some (otherBay .bayA)) := by
  unfold BridgeBlocks
  decide

/-- Bay A with an open window, a link step and a miss run. -/
def answering (link : LinkStep) (misses : Nat) : State :=
  bayIn fun r => { r with
    link := some link, missRun := misses, answerWindow := some 0, stepTimer := if link = .outOfStep then some 1 else none }

theorem witness_QueriesAndMissedAnswers :
    (OutputsFollow (finish onPack) ∧ Alive (finish onPack) ∧ ((finish onPack).bay .bayA).queryTimer ≠ none) ∧
    Alive onPack ∧ (onPack.bay .bayA).queryTimer ≠ none ∧ (onPack.bay .bayB).queryTimer = none ∧
    (onPack.bay .bayA).answerWindow = none ∧ ((answering .inStep 2).bay .bayA).answerWindow ≠ none ∧
    (((answering .inStep 2).bay .bayA).link = some .inStep ∧ ((answering .inStep 2).bay .bayA).missRun < 3) ∧
    (((answering .seeking 3).bay .bayA).link = some .seeking ∧ 3 ≤ ((answering .seeking 3).bay .bayA).missRun) ∧
    ((answering .lost 4).bay .bayA).link = some .lost ∧
    (6 ≤ [1, 0xF4, 1, 80, 0, 0xBB].length ∧ readAnswer [1, 0xF4, 1, 80, 0, 0xBB] = none) :=
  ⟨⟨outputsFollow_finish onPack, alive_of_supplied rfl, by decide⟩, alive_of_supplied rfl, by decide, by decide, by decide, by decide, by decide,
    by decide, by decide, by decide⟩

/-- An answer of 500 pu and a charge of 80, with no request. -/
def goodBytes : List Byte := [0x01, 0xF4, 0x01, 0x50, 0x00, 0xBA]

theorem read_goodBytes : readAnswer goodBytes = some { condition := ⟨.ready, 500, .none⟩, charge := 80 } := by decide

/-- Bay A OUT_OF_STEP with no candidate. -/
def unanswered : State := (answering .outOfStep 4).modifyBay .bayA fun r => { r with candidate := none }

/-- Bay A about to hear a condition that is no candidate. -/
def hearing (f : BayRec → BayRec) (s : State) : State :=
  s.modifyBay .bayA fun r => f { r with candidate := none, answerWindow := some 0 }

/-- Bay A QUALIFIED behind a lever, its link OUT_OF_STEP with one good answer. -/
def qualifiedOut (lever : Lever) : BayRec → BayRec := fun r =>
  { r with state := .qualified, link := some .outOfStep, stepTimer := some 1, goodRun := 1, leverInput := lever, leverTaken := lever }

theorem withdrawalLaw_unanswered : WithdrawalLaw unanswered := by
  constructor <;> first | decide | (intro b; cases b <;> decide) | (constructor <;> decide)

theorem withdrawalLaw_waiting : WithdrawalLaw waitingBay ∧
    WithdrawalLaw (hearing id waitingBay) ∧ WithdrawalLaw waitingOpen ∧ WithdrawalLaw otherClearing := by
  refine ⟨?_, ?_, ?_, ?_⟩ <;> constructor <;> first | decide | (intro b; cases b <;> decide) | (constructor <;> decide)

theorem withdrawalLaw_hearing : WithdrawalLaw (hearing (qualifiedOut .locked) onPack) ∧
    WithdrawalLaw (hearing (qualifiedOut .opened) onPack) ∧ WithdrawalLaw (hearing id (clearing .lever)) ∧
    WithdrawalLaw (hearing (fun r => { r with state := .faulted, link := some .lost, missRun := 4 }) onPack) ∧
    WithdrawalLaw (hearing (fun r => { r with link := some .seeking, goodRun := 0 }) onPack) := by
  refine ⟨?_, ?_, ?_, ?_, ?_⟩ <;> constructor <;> first | decide | (intro b; cases b <;> decide) | (constructor <;> decide)

/-- The poll of a settled pack, and the one whose charge crosses the low charge, in AnswersAreReadAndBecomeCandidates. -/
theorem witness_AnswersAreReadAndBecomeCandidates_settled :
    (let s := bayIn fun r => { r with answerWindow := some 0 }
     Alive s ∧ WithdrawalLaw s ∧ readAnswer goodBytes = some { condition := ⟨.ready, 500, .none⟩, charge := 80 } ∧
       (s.bay .bayA).answerWindow ≠ none ∧ (s.bay .bayA).candidate = some ⟨.ready, 500, .none⟩ ∧
       (s.bay .bayA).accepted = some ⟨.ready, 500, .none⟩) ∧
    (let s := bayIn fun r => { r with answerWindow := some 0 }
     let low : List Byte := [0x01, 0xF4, 0x01, 0x05, 0x00, 0x05]
     readAnswer low = some { condition := ⟨.ready, 500, .none⟩, charge := 5 } ∧
       ((after (.goodAnswer .bayA low) s).bay .bayA).counted = 0) :=
  ⟨⟨alive_of_supplied rfl, by constructor <;> first | decide | (intro b; cases b <;> decide) | (constructor <;> decide),
    read_goodBytes, by decide, by decide, by decide⟩, by decide +kernel⟩

theorem witness_AnswersAreReadAndBecomeCandidates :
    ((⟨.ready, 800, .disconnect⟩ : Condition).capability ≤ 800 ∧ 100 ≤ 100) ∧
    (readAnswer [0x01, 0xF4, 0x01, 0x50, 0x00, 0xBA]).isSome = true ∧ [1, 2, 3, 4, 5].length < 6 ∧
    (let s := unanswered
     Alive s ∧ readAnswer goodBytes = some { condition := ⟨.ready, 500, .none⟩, charge := 80 } ∧
       (s.bay .bayA).answerWindow ≠ none ∧ (s.bay .bayA).candidate ≠ some ⟨.ready, 500, .none⟩ ∧ WithdrawalLaw s ∧
       s.supply.waiting ≠ some .bayA ∧ (s.bay .bayA).state = .online ∧ (s.bay .bayA).link = some .outOfStep ∧
       1 ≤ (s.bay .bayA).goodRun) ∧
    (let s := hearing (qualifiedOut .locked) onPack
     WithdrawalLaw s ∧ (s.bay .bayA).state = .qualified ∧ (s.bay .bayA).leverTaken = .locked ∧ (s.bay .bayA).link ≠ some .inStep ∧
       ((after (.goodAnswer .bayA goodBytes) s).bay .bayA).link = some .inStep) ∧
    (let s := hearing (qualifiedOut .opened) onPack
     WithdrawalLaw s ∧ (s.bay .bayA).leverTaken = .opened) ∧
    (let s := hearing id (clearing .lever)
     WithdrawalLaw s ∧ (s.bay .bayA).state = .withdrawing ∧ (s.bay .bayA).cause = some .lever ∧
       (s.bay .bayA).link = some .inStep) ∧
    (let s := hearing (fun r => { r with state := .faulted, link := some .lost, missRun := 4 }) onPack
     WithdrawalLaw s ∧ (s.bay .bayA).state = .faulted ∧ (s.bay .bayA).link = some .lost) ∧
    (let s := hearing (fun r => { r with link := some .seeking, goodRun := 0 }) onPack
     WithdrawalLaw s ∧ (s.bay .bayA).link = some .seeking) ∧
    (let s := hearing id waitingBay
     WithdrawalLaw s ∧ (s.bay .bayA).state = .online ∧ s.supply.waiting = some .bayA ∧ (s.bay .bayA).answerWindow ≠ none ∧
       (s.bay .bayA).candidate = none) ∧
    (onPack.bay .bayA).answerWindow = none :=
  ⟨by decide, by decide, by decide,
    ⟨alive_of_supplied rfl, read_goodBytes, by decide, by decide, withdrawalLaw_unanswered, by decide, by decide, by decide, by decide⟩,
    ⟨withdrawalLaw_hearing.1, by decide, by decide, by decide, by decide⟩, ⟨withdrawalLaw_hearing.2.1, by decide⟩,
    ⟨withdrawalLaw_hearing.2.2.1, by decide, by decide, by decide⟩, ⟨withdrawalLaw_hearing.2.2.2.1, by decide, by decide⟩,
    ⟨withdrawalLaw_hearing.2.2.2.2, by decide⟩, ⟨withdrawalLaw_waiting.2.1, by decide, by decide, by decide, by decide⟩, by decide⟩

/-- Bay A in a state, about to hear a condition again that it has not accepted. -/
def agreeing (f : BayRec → BayRec) (c : Condition) : State :=
  bayIn fun r => f { r with candidate := some c, accepted := none, answerWindow := some 0 }

/-- PROBING, with the lever OPEN or LOCKED. -/
def probingWith (lever : Lever) : BayRec → BayRec := fun r =>
  { r with state := .probing, leverInput := lever, leverTaken := lever, probeTimer := some 1 }

theorem withdrawalLaw_probing : WithdrawalLaw (agreeing (probingWith .opened) ⟨.ready, 500, .none⟩) ∧
    WithdrawalLaw (agreeing (probingWith .locked) ⟨.ready, 0, .none⟩) := by
  constructor <;> constructor <;> first | decide | (intro b; cases b <;> decide) | (constructor <;> decide)

theorem withdrawalLaw_agreeing : WithdrawalLaw (agreeing (fun r => { r with policy := .act }) ⟨.fault, 500, .none⟩) ∧
    WithdrawalLaw (agreeing (fun r => { r with policy := .act }) ⟨.ready, 500, .disconnect⟩) ∧
    WithdrawalLaw (agreeing (fun r => { r with policy := .refer }) ⟨.ready, 500, .disconnect⟩) := by
  refine ⟨?_, ?_, ?_⟩ <;> constructor <;> first | decide | (intro b; cases b <;> decide) | (constructor <;> decide)

/-- The same, at the table and the supply of another state. -/
def agreeingIn (s : State) (f : BayRec → BayRec) (c : Condition) : State :=
  s.modifyBay .bayA fun r => f { r with candidate := some c, accepted := none, answerWindow := some 0, policy := .act }

theorem withdrawalLaw_agreeingIn : WithdrawalLaw (agreeingIn otherBlocked id ⟨.ready, 500, .disconnect⟩) ∧
    WithdrawalLaw (agreeingIn otherClearing id ⟨.ready, 500, .disconnect⟩) ∧
    WithdrawalLaw (agreeingIn (clearing .eject) id ⟨.ready, 500, .disconnect⟩) ∧
    WithdrawalLaw (agreeingIn (clearingBefore .eject .blocked .disconnect .disconnect) id ⟨.fault, 500, .none⟩) ∧
    WithdrawalLaw (agreeingIn onPack (qualifiedOut .locked) ⟨.ready, 500, .none⟩) ∧
    WithdrawalLaw (agreeingIn onPack (qualifiedOut .opened) ⟨.ready, 0, .none⟩) ∧
    WithdrawalLaw (agreeingIn onPack (fun r => { r with requalify := some { remaining := 1, held := 500 } }) ⟨.ready, 0, .none⟩) ∧
    WithdrawalLaw (agreeingIn waitingOpen id ⟨.ready, 500, .none⟩) ∧
    WithdrawalLaw (agreeingIn onPack (fun r => { r with state := .faulted }) ⟨.ready, 500, .none⟩) ∧
    WithdrawalLaw (agreeingIn onPack id ⟨.ready, 500, .none⟩) := by
  refine ⟨?_, ?_, ?_, ?_, ?_, ?_, ?_, ?_, ?_, ?_⟩ <;> constructor <;>
    first | decide | (intro b; cases b <;> decide) | (constructor <;> decide)

/-- Bay A coming ONLINE, in AnswersAreReadAndBecomeCandidates, AgreeingAnswersAreAccepted, AcceptanceInTheOtherStates and
LeversMoveTheBays. -/
theorem witness_OnlineTestsTheOther :
    (let s := hearing (qualifiedOut .locked) (beside id .blocked .run 9)
     WithdrawalLaw s ∧ s.supply.slot = some .bayB ∧ s.supply.phase = some .blocked ∧ ¬BridgeBlocks .bayB (withOnline .bayA s)) ∧
    (let s := agreeingIn (beside id .blocked .run 9) (probingWith .locked) ⟨.ready, 500, .none⟩
     WithdrawalLaw s ∧ (s.bay .bayA).state = .probing ∧ (s.bay .bayA).leverTaken = .locked) ∧
    (let s := beside (fun r => { r with state := .qualified, leverInput := .opened, leverTaken := .opened }) .blocked .run 59
     WithdrawalLaw s ∧ (s.bay .bayA).leverInput = .opened ∧ (s.bay .bayA).link = some .inStep ∧ s.supply.deferral = false ∧
       s.supply.refillTimer = none ∧ s.supply.reserve < 60 ∧ ¬BridgeBlocks .bayB (withOnline .bayA s)) := by
  refine ⟨⟨?_, by decide, by decide, ?_⟩, ⟨?_, by decide, by decide⟩, ?_, by decide, by decide, by decide, by decide, by decide, ?_⟩ <;>
    first
      | (unfold BridgeBlocks; decide)
      | (constructor <;> first | decide | (intro b; cases b <;> decide) | (constructor <;> decide))

/-- Bay A's window and its candidate, in every such state. -/
theorem premises_agreeingIn {f : BayRec → BayRec} (hw : ∀ r, (f r).answerWindow = r.answerWindow)
    (hc : ∀ r, (f r).candidate = r.candidate) (ha : ∀ r, (f r).accepted = r.accepted) (s : State) (c : Condition) :
    ((agreeingIn s f c).bay .bayA).answerWindow ≠ none ∧ ((agreeingIn s f c).bay .bayA).candidate = some c ∧
    ((agreeingIn s f c).bay .bayA).accepted ≠ some c := by
  have h : (agreeingIn s f c).bay .bayA = f { s.bay .bayA with
      candidate := some c, accepted := none, answerWindow := some 0, policy := .act } := rfl
  rw [h, hw, hc, ha]
  simp

/-- An answer that asks to be disconnected, and one that says FAULT. -/
theorem read_disconnectAndFault :
    readAnswer [0x01, 0xF4, 0x01, 0x50, 0x02, 0xB8] = some { condition := ⟨.ready, 500, .disconnect⟩, charge := 80 } ∧
    readAnswer [0x02, 0xF4, 0x01, 0x50, 0x00, 0xB9] = some { condition := ⟨.fault, 500, .none⟩, charge := 80 } ∧
    readAnswer [0x01, 0x00, 0x00, 0x50, 0x00, 0xAF] = some { condition := ⟨.ready, 0, .none⟩, charge := 80 } := by decide

theorem witness_AcceptanceInTheOtherStates :
    (let s := agreeingIn onPack (qualifiedOut .locked) ⟨.ready, 500, .none⟩
     Alive s ∧ WithdrawalLaw s ∧ (s.bay .bayA).state = .qualified ∧ (s.bay .bayA).leverTaken = .locked ∧
       (s.bay .bayA).link = some .outOfStep ∧ 1 ≤ (s.bay .bayA).goodRun) ∧
    (let s := agreeingIn onPack (qualifiedOut .opened) ⟨.ready, 0, .none⟩
     WithdrawalLaw s ∧ (s.bay .bayA).state = .qualified ∧ (s.bay .bayA).leverTaken = .opened) ∧
    (let s := agreeingIn onPack (fun r => { r with requalify := some { remaining := 1, held := 500 } }) ⟨.ready, 0, .none⟩
     WithdrawalLaw s ∧ (s.bay .bayA).state = .online ∧ (s.bay .bayA).requalify ≠ none) ∧
    (let s := agreeingIn (clearingBefore .eject .blocked .disconnect .disconnect) id ⟨.fault, 500, .none⟩
     WithdrawalLaw s ∧ (s.bay .bayA).state = .withdrawing) ∧
    (let s := agreeingIn onPack id ⟨.ready, 500, .none⟩
     WithdrawalLaw s ∧ (s.bay .bayA).state = .online ∧ (s.bay .bayA).requalify = none ∧ s.supply.waiting ≠ some .bayA) ∧
    (let s := agreeingIn waitingOpen id ⟨.ready, 500, .none⟩
     WithdrawalLaw s ∧ (s.bay .bayA).state = .online ∧ s.supply.waiting = some .bayA ∧ (s.bay .bayA).requalify = none) ∧
    (let s := agreeingIn (clearing .eject) id ⟨.ready, 500, .disconnect⟩
     WithdrawalLaw s ∧ (s.bay .bayA).state = .withdrawing ∧ (s.bay .bayA).cause = some .eject ∧ (s.bay .bayA).policy = .act) ∧
    (let s := agreeingIn onPack (fun r => { r with state := .faulted }) ⟨.ready, 500, .none⟩
     WithdrawalLaw s ∧ (s.bay .bayA).state = .faulted) :=
  ⟨⟨alive_of_supplied rfl, withdrawalLaw_agreeingIn.2.2.2.2.1, by decide, by decide, by decide, by decide⟩,
    ⟨withdrawalLaw_agreeingIn.2.2.2.2.2.1, by decide, by decide⟩, ⟨withdrawalLaw_agreeingIn.2.2.2.2.2.2.1, by decide, by decide⟩,
    ⟨withdrawalLaw_agreeingIn.2.2.2.1, by decide⟩,
    ⟨withdrawalLaw_agreeingIn.2.2.2.2.2.2.2.2.2, by decide, by decide, by decide⟩,
    ⟨withdrawalLaw_agreeingIn.2.2.2.2.2.2.2.1, by decide, by decide, by decide⟩,
    ⟨withdrawalLaw_agreeingIn.2.2.1, by decide, by decide, by decide⟩,
    ⟨withdrawalLaw_agreeingIn.2.2.2.2.2.2.2.2.1, by decide⟩⟩

theorem witness_AgreeingAnswersAreAccepted :
    (let s := agreeingIn otherBlocked id ⟨.ready, 500, .disconnect⟩
     WithdrawalLaw s ∧ (s.bay .bayA).state = .online ∧ (s.bay .bayA).requalify = none ∧ (s.bay .bayA).policy = .act ∧
       s.supply.slot = some (otherBay .bayA) ∧ s.supply.phase ≠ some .clearing) ∧
    (let s := agreeingIn otherClearing id ⟨.ready, 500, .disconnect⟩
     WithdrawalLaw s ∧ (s.bay .bayA).state = .online ∧ s.supply.slot = some (otherBay .bayA) ∧ s.supply.phase = some .clearing) ∧
    (let s := agreeing (probingWith .opened) ⟨.ready, 500, .none⟩
     Alive s ∧ WithdrawalLaw s ∧ readAnswer goodBytes = some { condition := ⟨.ready, 500, .none⟩, charge := 80 } ∧
       (s.bay .bayA).answerWindow ≠ none ∧ (s.bay .bayA).candidate = some ⟨.ready, 500, .none⟩ ∧
       (s.bay .bayA).accepted ≠ some ⟨.ready, 500, .none⟩ ∧ (s.bay .bayA).state = .probing ∧ (s.bay .bayA).leverTaken = .opened) ∧
    (WithdrawalLaw (agreeing (probingWith .locked) ⟨.ready, 0, .none⟩) ∧
      readAnswer [0x01, 0x00, 0x00, 0x50, 0x00, 0xAF] = some { condition := ⟨.ready, 0, .none⟩, charge := 80 }) ∧
    (let s := agreeing (fun r => { r with policy := .act }) ⟨.fault, 500, .none⟩
     WithdrawalLaw s ∧ readAnswer [0x02, 0xF4, 0x01, 0x50, 0x00, 0xB9] = some { condition := ⟨.fault, 500, .none⟩, charge := 80 } ∧
       (s.bay .bayA).state = .online) ∧
    (let s := agreeing (fun r => { r with policy := .act }) ⟨.ready, 500, .disconnect⟩
     WithdrawalLaw s ∧ readAnswer [0x01, 0xF4, 0x01, 0x50, 0x02, 0xB8] = some { condition := ⟨.ready, 500, .disconnect⟩, charge := 80 } ∧
       (s.bay .bayA).state = .online ∧ (s.bay .bayA).requalify = none ∧ (s.bay .bayA).policy = .act ∧ s.supply.slot = none) ∧
    (let s := agreeing (fun r => { r with policy := .refer }) ⟨.ready, 500, .disconnect⟩
     WithdrawalLaw s ∧ (s.bay .bayA).policy = .refer ∧ (s.bay .bayA).state ≠ .faulted ∧
       (s.bay .bayA).accepted.map Condition.request ≠ some .disconnect) :=
  ⟨⟨withdrawalLaw_agreeingIn.1, by decide, by decide, by decide, by decide, by decide⟩,
    ⟨withdrawalLaw_agreeingIn.2.1, by decide, by decide, by decide⟩,
    ⟨alive_of_supplied rfl, withdrawalLaw_probing.1, read_goodBytes, by decide, by decide, by decide, by decide, by decide⟩,
    ⟨withdrawalLaw_probing.2, by decide⟩, ⟨withdrawalLaw_agreeing.1, by decide, by decide⟩,
    ⟨withdrawalLaw_agreeing.2.1, by decide, by decide, by decide, by decide, by decide⟩,
    ⟨withdrawalLaw_agreeing.2.2, by decide, by decide, by decide⟩⟩

/-- Bay A RELEASED by an eject, its window run out. -/
def ejected (link : LinkStep) : State :=
  { bayIn (fun r => { r with state := .released, cause := some .eject, ejectWindow := some 0, link := some link }) with
    supply := { onPack.supply with slot := some .bayA, phase := some .opened } }

theorem withdrawalLaw_ejected : WithdrawalLaw (ejected .inStep) ∧ WithdrawalLaw (ejected .lost) := by
  constructor <;> constructor <;> first | decide | (intro b; cases b <;> decide) | (constructor <;> decide)

/-- A pack in step may come back, and one whose link is LOST may not. -/
theorem soundAtRelock_cases {s : State} (hp : (s.bay .bayA).accepted = some ⟨.ready, 500, .none⟩) :
    ((s.bay .bayA).link = some .inStep → SoundAtRelock (s.bay .bayA)) ∧
    ((s.bay .bayA).link = some .lost → ¬SoundAtRelock (s.bay .bayA)) := by
  refine ⟨fun h => ⟨h, ⟨_, hp, rfl, by decide⟩, ?_⟩, fun h ⟨hl, _⟩ => by rw [h] at hl; cases hl⟩
  rintro ⟨-, c, hc, hr⟩
  rw [hp] at hc
  cases hc
  cases hr

theorem witness_BayTimersExpire :
    (Alive onPack ∧ WithdrawalLaw onPack ∧ (onPack.bay .bayA).state ≠ .probing ∧ (onPack.bay .bayA).link ≠ some .outOfStep ∧
      (onPack.bay .bayA).ejectWindow = none) ∧
    (WithdrawalLaw (agreeing (probingWith .locked) ⟨.ready, 0, .none⟩) ∧
      ((agreeing (probingWith .locked) ⟨.ready, 0, .none⟩).bay .bayA).state = .probing) ∧
    (WithdrawalLaw unanswered ∧
      (unanswered.bay .bayA).link = some .outOfStep ∧ (unanswered.bay .bayA).state = .online) ∧
    (WithdrawalLaw (ejected .inStep) ∧ ((ejected .inStep).bay .bayA).ejectWindow ≠ none ∧
      ((ejected .inStep).bay .bayA).state = .released ∧ SoundAtRelock ((ejected .inStep).bay .bayA)) ∧
    (WithdrawalLaw (ejected .lost) ∧ ¬SoundAtRelock ((ejected .lost).bay .bayA)) ∧
    (let s := clearingBefore .eject .blocked .disconnect .disconnect
     WithdrawalLaw s ∧ s.supply.slot = some .bayA ∧ s.supply.waiting = some (otherBay .bayA) ∧ AsksDisconnect (s.bay .bayB)) :=
  ⟨⟨alive_of_supplied rfl, withdrawalLaw_onPack, by decide, by decide, by decide⟩, ⟨withdrawalLaw_probing.2, by decide⟩,
    ⟨withdrawalLaw_unanswered, by decide, by decide⟩, ⟨withdrawalLaw_ejected.1, by decide, by decide, (soundAtRelock_cases rfl).1 rfl⟩,
    ⟨withdrawalLaw_ejected.2, (soundAtRelock_cases rfl).2 rfl⟩,
    ⟨withdrawalLaw_clearing.2.2.2, by decide, by decide, waits_clearingBefore.2.1⟩⟩

/-- Bay A in a requalify. -/
def requalifying : State := bayIn fun r => { r with requalify := some { remaining := 0, held := 500 } }

theorem withdrawalLaw_requalifying : WithdrawalLaw requalifying := by
  constructor <;> first | decide | (intro b; cases b <;> decide) | (constructor <;> decide)

theorem witness_RequalifyHoldsTheCapability :
    Alive onPack ∧ (∀ c, Foremost c onPack) ∧ (WithdrawalLaw waitingOpen ∧ waitingOpen.supply.waiting = some .bayA ∧
      (waitingOpen.bay .bayA).state = .online) ∧ WithdrawalLaw onPack ∧ (onPack.bay .bayB).state ≠ .online ∧ (onPack.bay .bayA).state = .online ∧
    onPack.supply.waiting ≠ some .bayA ∧ (onPack.bay .bayA).requalify = none ∧ WithdrawalLaw requalifying ∧
    (requalifying.bay .bayA).state = .online ∧ (requalifying.bay .bayA).requalify = some { remaining := 0, held := 500 } :=
  ⟨alive_of_supplied rfl, foremost_onPack, ⟨withdrawalLaw_waiting.2.2.1, by decide, by decide⟩, withdrawalLaw_onPack, by decide, by decide,
    by decide, by decide, withdrawalLaw_requalifying, by decide,
    by decide⟩

/-- Bay A QUALIFIED behind an OPEN lever. -/
def qualifiedWith (link : LinkStep) : State :=
  bayIn fun r => { r with state := .qualified, leverInput := .opened, leverTaken := .opened, link := some link }

/-- Bay A withdrawn by its lever, RELEASED or WITHDRAWING. -/
def leverOut (st : BayState) (link : LinkStep) : State :=
  { bayIn (fun r => { r with
      state := st, cause := some .lever, leverInput := .opened, leverTaken := .opened, link := some link }) with
    supply := { onPack.supply with slot := some .bayA, phase := some (if st = .released then .opened else .blocked) } }

theorem withdrawalLaw_levers : WithdrawalLaw otherBlocked ∧ WithdrawalLaw (qualifiedWith .inStep) ∧
    WithdrawalLaw (qualifiedWith .lost) ∧ WithdrawalLaw (leverOut .released .inStep) ∧
    WithdrawalLaw (leverOut .released .lost) ∧ WithdrawalLaw (leverOut .withdrawing .inStep) := by
  refine ⟨?_, ?_, ?_, ?_, ?_, ?_⟩ <;> constructor <;>
    first | decide | (intro b; cases b <;> decide) | (constructor <;> decide)

theorem witness_LeversMoveTheBays :
    (Alive onPack ∧ WithdrawalLaw onPack ∧ onPack.supply.deferral = false ∧ (onPack.bay .bayA).leverInput = .locked ∧
      (onPack.bay .bayA).state = .online ∧ onPack.supply.slot = none) ∧
    (WithdrawalLaw otherBlocked ∧ (otherBlocked.bay .bayA).state = .online ∧ (otherBlocked.bay .bayA).leverInput = .locked ∧
      otherBlocked.supply.slot = some (otherBay .bayA) ∧ otherBlocked.supply.phase ≠ some .clearing) ∧
    (WithdrawalLaw (ejected .inStep) ∧ ((ejected .inStep).bay .bayA).leverInput = .locked ∧
      ((ejected .inStep).bay .bayA).state ≠ .online ∧ ((ejected .inStep).bay .bayA).cause = some .eject) ∧
    (WithdrawalLaw (qualifiedWith .inStep) ∧ ((qualifiedWith .inStep).bay .bayA).leverInput = .opened ∧
      ((qualifiedWith .inStep).bay .bayA).state = .qualified ∧ ((qualifiedWith .inStep).bay .bayA).link = some .inStep) ∧
    (WithdrawalLaw (qualifiedWith .lost) ∧ ((qualifiedWith .lost).bay .bayA).link ≠ some .inStep) ∧
    (WithdrawalLaw (leverOut .released .inStep) ∧ ((leverOut .released .inStep).bay .bayA).cause = some .lever ∧
      SoundAtRelock ((leverOut .released .inStep).bay .bayA)) ∧
    (WithdrawalLaw (leverOut .released .lost) ∧ ¬SoundAtRelock ((leverOut .released .lost).bay .bayA)) ∧
    (WithdrawalLaw (leverOut .withdrawing .inStep) ∧ ((leverOut .withdrawing .inStep).bay .bayA).state = .withdrawing) ∧
    (WithdrawalLaw otherClearing ∧ (otherClearing.bay .bayA).state = .online ∧ (otherClearing.bay .bayA).leverInput = .locked ∧
      otherClearing.supply.slot = some (otherBay .bayA) ∧ otherClearing.supply.phase = some .clearing) ∧
    (WithdrawalLaw waitingOpen ∧ (waitingOpen.bay .bayA).leverInput = .opened ∧ (waitingOpen.bay .bayA).state = .online ∧
      waitingOpen.supply.waiting = some .bayA) :=
  ⟨⟨alive_of_supplied rfl, withdrawalLaw_onPack, by decide, by decide, by decide, by decide⟩,
    ⟨withdrawalLaw_levers.1, by decide, by decide, by decide, by decide⟩,
    ⟨withdrawalLaw_ejected.1, by decide, by decide, by decide⟩, ⟨withdrawalLaw_levers.2.1, by decide, by decide, by decide⟩,
    ⟨withdrawalLaw_levers.2.2.1, by decide⟩, ⟨withdrawalLaw_levers.2.2.2.1, by decide, (soundAtRelock_cases rfl).1 rfl⟩,
    ⟨withdrawalLaw_levers.2.2.2.2.1, (soundAtRelock_cases rfl).2 rfl⟩, ⟨withdrawalLaw_levers.2.2.2.2.2, by decide⟩,
    ⟨withdrawalLaw_waiting.2.2.2, by decide, by decide, by decide, by decide⟩,
    ⟨withdrawalLaw_waiting.2.2.1, by decide, by decide, by decide⟩⟩

/-- Levers that are recorded and change nothing else, in LeversMoveTheBays. -/
theorem witness_LeversMoveTheBays_recorded :
    (let s := { clearing .disconnect with
       bayA := { (clearing .disconnect).bayA with leverInput := .opened, leverTaken := .opened } }
     WithdrawalLaw s ∧ Alive s ∧ s.supply.deferral = false ∧ (s.bay .bayA).leverInput = .opened ∧
       (s.bay .bayA).state = .withdrawing ∧ (s.bay .bayA).cause ≠ some .lever) ∧
    (let s := clearing .disconnect
     WithdrawalLaw s ∧ (s.bay .bayA).leverInput = .locked ∧ (s.bay .bayA).state ≠ .online ∧ (s.bay .bayA).cause ≠ some .eject) ∧
    (let s := bayIn fun r => { r with leverInput := .opened, leverTaken := .opened }
     WithdrawalLaw s ∧ (s.bay .bayA).leverInput = .opened ∧ (s.bay .bayA).state = .online ∧ s.supply.waiting ≠ some .bayA) ∧
    (let s := bayIn fun r => { r with state := .faulted, leverInput := .opened, leverTaken := .opened }
     WithdrawalLaw s ∧ (s.bay .bayA).leverInput = .opened ∧ (s.bay .bayA).state = .faulted) := by
  refine ⟨⟨?_, alive_of_supplied rfl, by decide⟩, ⟨withdrawalLaw_clearing.2.1, by decide⟩, ⟨?_, by decide⟩, ?_, by decide⟩ <;>
    constructor <;> first | decide | (intro b; cases b <;> decide) | (constructor <;> decide)

/-- The start of a withdrawal of the last source, BLOCKED and not, in LeversMoveTheBays, ReprobeAndEject, AgreeingAnswersAreAccepted and
PolicyChangeRecountsTheBay, and of one that waits (R103). -/
theorem witness_WithdrawalStarted :
    (let s := { onPack with supply := { onPack.supply with reserve := 0 } }
     BridgeBlocks .bayA s ∧ WithdrawalLaw s ∧ (s.bay .bayA).state = .online ∧ s.supply.slot = none ∧
       HeldBlocked .bayA (after (.eject 0) s) ∧ HeldBlocked .bayA (after (.leverEvent .bayA .opened) s)) ∧
    (let s := { onPack with supply := { onPack.supply with reserve := 60 } }
     ¬BridgeBlocks .bayA s ∧ ¬HeldBlocked .bayA (after (.leverEvent .bayA .opened) s)) ∧
    (let s := clearingBefore .eject .blocked .disconnect .disconnect
     BridgeBlocks .bayB (after (.contactLoss .bayA) { s with supply := { s.supply with reserve := 0 } })) := by
  refine ⟨⟨?_, ?_, by decide, by decide, ?_, ?_⟩, ⟨?_, ?_⟩, ?_⟩
  case refine_2 => constructor <;> first | decide | (intro b; cases b <;> decide) | (constructor <;> decide)
  all_goals (first | unfold BridgeBlocks | unfold HeldBlocked); decide +kernel

/-- Bay A under REFER, its accepted request DISCONNECT. -/
def referring : State := bayIn fun r => { r with policy := .refer, accepted := some ⟨.ready, 500, .disconnect⟩ }

/-- Bay A under REFER, its accepted request DISCONNECT, while bay B holds the slot. -/
def referringBehind (s : State) : State :=
  s.modifyBay .bayA fun r => { r with policy := .refer, accepted := some ⟨.ready, 500, .disconnect⟩ }

theorem withdrawalLaw_policies : WithdrawalLaw referring ∧ WithdrawalLaw (referringBehind otherBlocked) ∧
    WithdrawalLaw (referringBehind otherClearing) := by
  refine ⟨?_, ?_, ?_⟩ <;> constructor <;> first | decide | (intro b; cases b <;> decide) | (constructor <;> decide)

theorem witness_PolicyChangeRecountsTheBay :
    (Alive referring ∧ (∀ c, Foremost c referring) ∧ WithdrawalLaw referring ∧ (referring.bay .bayA).policy ≠ .act ∧
      (referring.bay .bayA).accepted = some ⟨.ready, 500, .disconnect⟩ ∧ (referring.bay .bayA).requalify = none ∧
      (referring.bay .bayA).exhausted = false ∧ (referring.bay .bayA).state = .online ∧ referring.supply.slot = none) ∧
    (WithdrawalLaw waitingBay ∧ (waitingBay.bay .bayA).policy ≠ .refer ∧ waitingBay.supply.waiting = some .bayA ∧
      (waitingBay.bay .bayA).leverTaken = .locked) ∧
    (WithdrawalLaw waitingOpen ∧ (waitingOpen.bay .bayA).policy ≠ .refer ∧ waitingOpen.supply.waiting = some .bayA ∧
      (waitingOpen.bay .bayA).leverTaken = .opened) ∧
    (WithdrawalLaw (referringBehind otherBlocked) ∧ ((referringBehind otherBlocked).bay .bayA).policy ≠ .act ∧
      (referringBehind otherBlocked).supply.slot = some (otherBay .bayA) ∧ (referringBehind otherBlocked).supply.waiting = none) ∧
    (WithdrawalLaw (referringBehind otherClearing) ∧ (referringBehind otherClearing).supply.phase = some .clearing) ∧
    (onPack.bay .bayA).policy = .act :=
  ⟨⟨alive_of_supplied rfl, foremost_of_nothing rfl, withdrawalLaw_policies.1, by decide, by decide, by decide, by decide, by decide, by decide⟩,
    ⟨withdrawalLaw_waiting.1, by decide, by decide, by decide⟩,
    ⟨withdrawalLaw_waiting.2.2.1, by decide, by decide, by decide⟩, ⟨withdrawalLaw_policies.2.1, by decide, by decide, by decide⟩,
    ⟨withdrawalLaw_policies.2.2, by decide⟩, by decide⟩

theorem witness_ReprobeAndEject :
    Alive onPack ∧ (onPack.bay .bayA).state ≠ .faulted ∧
    (let s := bayIn fun r => { r with state := .faulted }
     (s.bay .bayA).state = .faulted ∧ (s.bay .bayA).contact = .made ∧ (s.bay .bayA).requalify = none) ∧
    (onPack.bay .bayB).state ≠ .online ∧ ((otherBlocked.bay .bayA).state = .online ∧ otherBlocked.supply.slot ≠ none) ∧
    ((onPack.bay .bayA).state = .online ∧ onPack.supply.slot = none) :=
  ⟨alive_of_supplied rfl, by decide, by decide, by decide, by decide, by decide⟩

/-- The part with another backlight record. -/
def lightIs (f : LightRec → LightRec) : State := { onInlet with light := f onInlet.light }

/-- A curve of the most points that one may have. -/
def longCurve : List Point := (List.range 12).map fun n => ⟨n, n⟩

theorem witness_CurvePanelAndPinRequests :
    Alive onInlet ∧ ([⟨131072, 0⟩] : List Point).all pointInRange = false ∧ ([⟨131071, 1023⟩] : List Point).all pointInRange = true ∧
    ((longCurve ++ [Point.mk 12 12]).all pointInRange = true ∧ 12 < (longCurve ++ [Point.mk 12 12]).length) ∧
    (longCurve.all pointInRange = true ∧ longCurve.length ≤ 12 ∧ curveOrdered longCurve = true) ∧
    curveOrdered [⟨5, 5⟩, ⟨5, 6⟩] = false ∧
    (onInlet.light.curve = [⟨0, 120⟩, ⟨500, 260⟩] ++ [⟨5000, 520⟩, ⟨30000, 860⟩, ⟨80000, 1023⟩] ∧
      (∀ q ∈ ([⟨0, 120⟩, ⟨500, 260⟩] : List Point), q.lux < 600) ∧
      (∀ q ∈ ([⟨5000, 520⟩, ⟨30000, 860⟩, ⟨80000, 1023⟩] : List Point), 600 ≤ q.lux) ∧ onInlet.light.curve.length < 12 ∧
      curveOrdered ([⟨0, 120⟩, ⟨500, 260⟩] ++ ⟨600, 260⟩ :: [⟨5000, 520⟩, ⟨30000, 860⟩, ⟨80000, 1023⟩]) = true ∧
      curveOrdered ([⟨0, 120⟩, ⟨500, 260⟩] ++ ⟨600, 259⟩ :: [⟨5000, 520⟩, ⟨30000, 860⟩, ⟨80000, 1023⟩]) = false) ∧
    12 ≤ (lightIs fun r => { r with curve := longCurve }).light.curve.length ∧
    (∀ q ∈ onInlet.light.curve, q.lux ≠ 1) ∧ (⟨500, 260⟩ : Point) ∈ onInlet.light.curve ∧ onInlet.light.panelOn = true ∧
    onInlet.light.panelOn ≠ false ∧ onInlet.light.pin = none ∧
    (lightIs fun r => { r with pin := some { level := 1023, remaining := none } }).light.pin ≠ none :=
  ⟨alive_of_supplied rfl, by decide, by decide, by decide, by decide, by decide, by decide, by decide, by decide, by decide, by decide,
    by decide, by decide, by decide⟩

theorem witness_TargetFollowsItsTableAndCurve :
    ((lightIs fun r => { r with panelOn := false }).light.panelOn = false ∧ State.reset.system.state = .dark) ∧
    (onInlet.light.panelOn = true ∧ onInlet.system.state ≠ .dark) ∧
    (lightIs fun r => { r with pin := some { level := 7, remaining := none } }).light.pin = some { level := 7, remaining := none } ∧
    (onInlet.light.pin = none ∧ onInlet.light.estimate = none) ∧
    (let s := lightIs fun r => { r with estimate := some 250 }
     s.light.pin = none ∧ s.light.estimate = some 250 ∧ s.light.curve ≠ []) ∧
    (retarget State.reset).light.target = State.reset.light.target ∧ (retarget onInlet).light.target ≠ onInlet.light.target ∧
    ((lightIs fun r => { r with inFlight := true }).light.inFlight = true ∧ onInlet.light.inFlight = false) ∧
    ({ requested := 84, minimum := 10 } : Claim) ≠ onInlet.light.claimSent ∧
    (onInlet.light.capped = false ∧ onInlet.light.cap < (retarget onInlet).light.target) ∧
    (curveOrdered defaultCurvePoints = true ∧ (⟨500, 260⟩ : Point) ∈ defaultCurvePoints ∧
      defaultCurvePoints = ([] : List Point) ++ ⟨0, 120⟩ :: ⟨500, 260⟩ :: [⟨5000, 520⟩, ⟨30000, 860⟩, ⟨80000, 1023⟩] ∧ 0 < 1 ∧ 499 < 500) := by
  decide

theorem witness_ReadEventMovesTheEstimate :
    Alive onInlet ∧ onInlet.light.readTimer = none ∧
    (let s := lightIs fun r => { r with readTimer := some 0, front := { r.front with failedReads := 2 } }
     s.light.readTimer ≠ none ∧ s.light.freeze = false ∧ s.light.front.failed = false ∧
       (after (.readEvent none (some 5)) s).light.front.failed = true) ∧
    (let s := lightIs fun r => { r with readTimer := some 0, window := [500, 500], estimate := some 499 }
     (after (.readEvent (some 500) none) s).light.window = [] ++ [500, 500, 500] ∧ s.light.estimate = some 499 ∧
       499 < min 500 (min 500 500)) ∧
    (let s := lightIs fun r => { r with readTimer := some 0, window := List.replicate 20 500, estimate := some 501 }
     (after (.readEvent (some 500) (some 131072)) s).light.window.length = 20 ∧
       500 ∈ (after (.readEvent (some 500) (some 131072)) s).light.window) ∧
    (let s := lightIs fun r => { r with
       readTimer := some 0, front := { r.front with failed := true }, rear := { r.rear with failedReads := 2 } }
     (after (.readEvent none none) s).light.front.failed = true ∧ (after (.readEvent none none) s).light.rear.failed = true) ∧
    (let s := lightIs fun r => { r with readTimer := some 0, window := [500, 500], estimate := some 500 }
     (after (.readEvent (some 500) none) s).light.window = [500, 500, 500] ∧ min 500 (min 500 500) ≤ 500 ∧
       (after (.readEvent (some 500) none) s).light.window.length < 20) ∧
    (lightIs fun r => { r with freeze := true }).light.freeze = true :=
  ⟨alive_of_supplied rfl, by decide, by decide, by decide, by decide, by decide, by decide, by decide⟩

theorem witness_GrantsCapTheOutputAndStepsRamp :
    Alive onInlet ∧ (∀ c, Foremost c onInlet) ∧
    ((lightIs fun r => { r with nextClaim := some { requested := 0, minimum := 0 } }).light.nextClaim =
      some onInlet.light.claimSent) ∧
    ({ requested := 100, minimum := 5 } : Claim) ≠ onInlet.light.claimSent ∧
    (let s := lightIs fun r => { r with target := 1 }
     s.light.capped = false ∧ (after (.slot0GrantHandoff 0 true) s).light.cap < (after (.slot0GrantHandoff 0 true) s).light.target) ∧
    (let s := lightIs fun r => { r with target := 1023 }
     let t := after (.slot0GrantHandoff 100 false) s
     s.light.inFlight = false ∧ t.light.cap ≠ s.light.cap ∧ s.light.capped = false ∧ t.light.cap < t.light.target) ∧
    onInlet.light.stepTimer = none ∧ (lightIs fun r => { r with stepTimer := some 0 }).light.stepTimer ≠ none ∧
    (defaultProfile.lightSettings.p0 ≤ defaultProfile.lightSettings.pfull ∧ 1 ≤ defaultProfile.lightSettings.pfull) :=
  ⟨alive_of_supplied rfl, foremost_onInlet, by decide, by decide, by decide, by decide, by decide, by decide, by decide⟩

theorem witness_BacklightTakesItsNotices :
    Alive onInlet ∧ (∀ c, Foremost c onInlet) ∧
    (let pin : Pin := { level := 7, remaining := some 0 }
     (lightIs fun r => { r with pin := some pin }).light.pin = some pin ∧ pin.remaining ≠ none) ∧
    (∀ pin, (lightIs fun r => { r with pin := some { level := 7, remaining := none } }).light.pin = some pin → pin.remaining = none) ∧
    onInlet.light.freeze = false ∧ (lightIs fun r => { r with freeze := true }).light.freeze = true ∧
    onInlet.system.state ≠ .dark ∧ (Alive State.reset ∧ State.reset.system.state = .dark ∧
      Foremost (.backlightStateNotice .starting) State.reset) ∧ onInlet.light.inFlight = false ∧
    (lightIs fun r => { r with inFlight := true }).light.inFlight = true := by
  refine ⟨alive_of_supplied rfl, foremost_onInlet, by decide, ?_, by decide, by decide, by decide,
    ⟨alive_of_gained rfl, rfl, foremost_of_nothing rfl _⟩, by decide, by decide⟩
  intro pin h
  have h' : some ({ level := 7, remaining := none } : Pin) = some pin := h
  cases h'
  rfl

/-- The end of an episode with a sensor OK, and with none, in BacklightTakesItsNotices. -/
theorem witness_BacklightTakesItsNotices_freeze :
    (let r := (lightIs fun r => { r with freeze := true, estimate := some 500 }).light
     r.freeze = true ∧ r.estimate = some 500 ∧ r.front.failed = false) ∧
    (let r := (lightIs fun r => { r with
       freeze := true, estimate := some 500, front := { r.front with failed := true }, rear := { r.rear with failed := true } }).light
     r.freeze = true ∧ r.front.failed = true ∧ r.rear.failed = true ∧ none ≠ r.estimate) := by decide

/-- The part with another motion record. -/
def motionIs (f : MotionRec → MotionRec) : State := { onInlet with motion := f onInlet.motion }

/-- Sampling in a motion state. -/
def sampling (st : MotionState) : State :=
  motionIs fun r => { r with state := st, sampleTimer := some 0, cls := if st = .impact then .light else .none }

theorem witness_MotionRequestsAndNotices :
    Alive onInlet ∧ (∀ c, Foremost c onInlet) ∧ onInlet.motion.armed = true ∧ (motionIs fun r => { r with armed := false }).motion.armed = false ∧
    onInlet.system.state = .run ∧ ¬(State.reset.system.state = .starting ∨ State.reset.system.state = .run) ∧
    (onInlet.motion.state ≠ .level ∧ onInlet.motion.state ≠ .suspect) ∧ (sampling .suspect).motion.state = .suspect ∧
    onInlet.motion.state = .off ∧ onInlet.store.working.armedAtStart = true ∧
    ({ onInlet with store := { onInlet.store with working := { defaultProfile with armedAtStart := false } } } :
      State).store.working.armedAtStart = false :=
  ⟨alive_of_supplied rfl, foremost_onInlet, by decide, by decide, by decide, by decide, by decide, by decide, by decide, by decide, by decide⟩

theorem motionLaw_sampling : MotionLaw (sampling .level).motion ∧ MotionLaw (sampling .suspect).motion ∧
    MotionLaw (sampling .falling).motion ∧ MotionLaw (sampling .impact).motion ∧ MotionLaw (sampling .settling).motion ∧
    MotionLaw (sampling .fault).motion ∧ MotionLaw onInlet.motion := by
  refine ⟨?_, ?_, ?_, ?_, ?_, ?_, ?_⟩ <;> constructor <;> decide

theorem witness_SamplesMoveTheFallStatesByBand :
    Alive onInlet ∧ (MotionLaw (sampling .level).motion ∧ (sampling .level).motion.state ≠ .off) ∧
    (MotionLaw onInlet.motion ∧ onInlet.motion.state = .off) ∧
    (axisOk 32767 = true ∧ axisOk (-32767) = true ∧ axisOk 32768 = false ∧ axisOk (-32768) = false) ∧
    (bandOf defaultProfile (magnitude ⟨0, 0, 349⟩) = .low ∧ bandOf defaultProfile (magnitude ⟨0, 0, 350⟩) = .moving ∧
      bandOf defaultProfile (magnitude ⟨0, 0, 800⟩) = .quiet ∧ bandOf defaultProfile (magnitude ⟨0, 0, 1200⟩) = .quiet ∧
      bandOf defaultProfile (magnitude ⟨0, 0, 1201⟩) = .moving ∧ bandOf defaultProfile (magnitude ⟨0, 0, 3000⟩) = .light ∧
      bandOf defaultProfile (magnitude ⟨0, 0, 8000⟩) = .hard) ∧
    ((sampling .suspect).motion.lowCount + 1 < defaultProfile.qualifyCount ∧ defaultProfile.qualifyCount ≤ 23 + 1) ∧
    ((sampling .settling).motion.quietCount + 1 < defaultProfile.settleCount ∧ defaultProfile.settleCount ≤ 199 + 1) ∧
    (MotionLaw (sampling .suspect).motion ∧ MotionLaw (sampling .falling).motion ∧ MotionLaw (sampling .impact).motion ∧
      MotionLaw (sampling .settling).motion ∧ MotionLaw (sampling .fault).motion) ∧
    (6 < 7 ∧ 7 ≤ ({ (sampling .level).motion with missedCount := 7 } : MotionRec).missedCount) ∧ defaultProfile.consistent = true :=
  ⟨alive_of_supplied rfl, ⟨motionLaw_sampling.1, by decide⟩, ⟨motionLaw_sampling.2.2.2.2.2.2, by decide⟩, by decide, by decide +kernel,
    by decide, by decide,
    ⟨motionLaw_sampling.2.1, motionLaw_sampling.2.2.1, motionLaw_sampling.2.2.2.1, motionLaw_sampling.2.2.2.2.1,
      motionLaw_sampling.2.2.2.2.2.1⟩, by decide, by decide⟩

/-- The part in an episode state with its lines IDLE. -/
def inEpisode (st : EpisodeState) (pending settle disarm : Bool) : State :=
  { onInlet with episode := { onInlet.episode with
    state := st, protectPending := pending, settleHeld := settle, disarmHeld := disarm } }

theorem episodeLaw_inEpisode :
    EpisodeLaw (inEpisode .idle false false false).episode ∧ EpisodeLaw (inEpisode .idle true true true).episode ∧
    EpisodeLaw (inEpisode .protecting false false false).episode ∧ EpisodeLaw (inEpisode .protecting true true false).episode ∧
    EpisodeLaw (inEpisode .holding false false false).episode ∧ EpisodeLaw (inEpisode .recovering false false false).episode := by
  refine ⟨?_, ?_, ?_, ?_, ?_, ?_⟩ <;> constructor <;> first | decide | (intro n; constructor <;> (revert n; decide))

theorem witness_EpisodeOpensAndTurns :
    Alive onInlet ∧ (∀ st p h d c, Foremost c (inEpisode st p h d)) ∧
    (EpisodeLaw (inEpisode .idle false false false).episode ∧ (inEpisode .idle false false false).episode.protectPending = false) ∧
    (EpisodeLaw (inEpisode .idle true true true).episode ∧ (inEpisode .idle true true true).episode.disarmHeld = true) ∧
    (EpisodeLaw (inEpisode .protecting false false false).episode ∧ onInlet.store.working.protectionMode = .auto ∧
      ({ defaultProfile with protectionMode := .hold } : Profile).protectionMode = .hold) ∧
    (EpisodeLaw (inEpisode .protecting true true false).episode ∧ (inEpisode .protecting true true false).episode.settleHeld = true) ∧
    EpisodeLaw (inEpisode .holding false false false).episode ∧ EpisodeLaw (inEpisode .recovering false false false).episode ∧
    (([0, 3] : List Line).Nodup ∧ (3 : Line) ∈ ([0, 3] : List Line) ∧ (1 : Line) ∉ ([0, 3] : List Line) ∧
      (inEpisode .idle true false false).episode.lines[3].doneActive = false) :=
  ⟨alive_of_supplied rfl, fun _ _ _ _ => foremost_of_nothing rfl, ⟨episodeLaw_inEpisode.1, by decide⟩, ⟨episodeLaw_inEpisode.2.1, by decide⟩,
    ⟨episodeLaw_inEpisode.2.2.1, by decide, by decide⟩, ⟨episodeLaw_inEpisode.2.2.2.1, by decide⟩, episodeLaw_inEpisode.2.2.2.2.1,
    episodeLaw_inEpisode.2.2.2.2.2, by decide⟩

/-- Line 1 in a state of its own, in an episode state. -/
def lineIs (st : EpisodeState) (l : LineRec) : State :=
  { onInlet with episode := { onInlet.episode with state := st, lines := onInlet.episode.lines.set 1 l } }

def requestedLine : LineRec := { state := .requested, requestOn := true, doneActive := false, parkTimer := some 0, unparkTimer := none }
def failedLine : LineRec := { requestedLine with state := .failed, parkTimer := none }
def liftingLine : LineRec := { state := .done, requestOn := false, doneActive := true, parkTimer := none, unparkTimer := some 0 }

theorem episodeLaw_lineIs : EpisodeLaw (lineIs .protecting requestedLine).episode ∧ EpisodeLaw (lineIs .holding failedLine).episode ∧
    EpisodeLaw (lineIs .recovering liftingLine).episode ∧
    EpisodeLaw (lineIs .protecting { requestedLine with doneActive := true, state := .done, parkTimer := none }).episode := by
  refine ⟨?_, ?_, ?_, ?_⟩ <;> constructor <;> first | decide | (intro n; constructor <;> (revert n; decide))

theorem witness_ParkLinesRecoveryAndEpisodeEnds :
    Alive onInlet ∧ (∀ c, Foremost c onInlet) ∧
    (EpisodeLaw (lineIs .protecting requestedLine).episode ∧ requestedLine.doneActive = false ∧ requestedLine.state = .requested ∧
      requestedLine.requestOn = true ∧ requestedLine.parkTimer ≠ none ∧ requestedLine.unparkTimer = none) ∧
    (EpisodeLaw (lineIs .holding failedLine).episode ∧ failedLine.state ≠ .requested ∧ failedLine.parkTimer = none ∧
      (lineIs .holding failedLine).episode.state = .holding) ∧
    (EpisodeLaw (lineIs .recovering liftingLine).episode ∧ liftingLine.doneActive = true ∧ liftingLine.unparkTimer ≠ none ∧
      (∀ k : Line, k ≠ 1 → (lineIs .recovering liftingLine).episode.lines[k].state = .idle) ∧
      ¬(∀ k : Line, k ≠ 2 → (lineIs .recovering liftingLine).episode.lines[k].state = .idle)) ∧
    (EpisodeLaw (inEpisode .idle true true true).episode ∧ (inEpisode .idle true true true).episode.protectPending = true) ∧
    (EpisodeLaw (lineIs .protecting { requestedLine with doneActive := true, state := .done, parkTimer := none }).episode ∧
      ¬(∀ n : Line, (lineIs .protecting { requestedLine with doneActive := true, state := .done, parkTimer := none }).episode.lines[n].state
        = .idle ∨ (lineIs .protecting { requestedLine with
          doneActive := true, state := .done, parkTimer := none }).episode.lines[n].doneActive = false)) ∧
    (∀ n : Line, (lineIs .holding failedLine).episode.lines[n].state = .idle ∨
      (lineIs .holding failedLine).episode.lines[n].doneActive = false) :=
  ⟨alive_of_supplied rfl, foremost_onInlet, ⟨episodeLaw_lineIs.1, by decide⟩, ⟨episodeLaw_lineIs.2.1, by decide⟩, ⟨episodeLaw_lineIs.2.2.1,
  by decide⟩,
    ⟨episodeLaw_inEpisode.2.1, by decide⟩, ⟨episodeLaw_lineIs.2.2.2, by decide⟩, by decide⟩

/-- The part with another system record. -/
def systemIs (f : SystemRec → SystemRec) : State := { onInlet with system := f onInlet.system }

theorem witness_SystemStateMoves :
    Alive onInlet ∧ (systemIs fun r => { r with buttonDown := true }).system.buttonDown = true ∧
    (onInlet.system.buttonDown = false ∧ onInlet.system.pressReady = true ∧ onInlet.system.state ≠ .dark) ∧
    (systemIs fun r => { r with pressReady := false }).system.pressReady = false ∧
    (State.reset.system.state = .dark ∧ State.reset.system.buttonDown = false ∧ State.reset.system.pressReady = true) ∧
    (let s := systemIs fun r => { r with state := .dark, pressTimer := some 0 }
     s.system.pressTimer ≠ none ∧ s.system.state = .dark ∧ s.store.working.startThreshold ≤ s.supply.ceiling) ∧
    (let s := { State.reset with supply := { State.reset.supply with ceiling := 99 } }
     s.supply.ceiling < s.store.working.startThreshold) ∧
    (onInlet.system.pressTimer = none ∧ onInlet.system.holdTimer = none ∧ onInlet.system.startTimer = none ∧
      onInlet.system.stopTimer = none) ∧
    ((systemIs fun r => { r with holdTimer := some 0 }).system.holdTimer ≠ none) ∧
    ((systemIs fun r => { r with state := .starting, startTimer := some 0 }).system.startTimer ≠ none) ∧
    ((systemIs fun r => { r with state := .stopping, stopTimer := some 0 }).system.stopTimer ≠ none) ∧ onInlet.system.state = .run :=
  ⟨alive_of_supplied rfl, by decide, by decide, by decide, by decide, by decide, by decide, by decide, by decide, by decide, by decide,
    by decide⟩

theorem witness_ProfileIsWrittenAndStored :
    Alive onInlet ∧ (1 ≤ 29 ∧ 29 ≤ 29 ∧ ([0] : List Byte).length ≠ 6) ∧
    (5 * (([0x01, 0, 0, 0, 0, 0] : List Byte).headD 0).toNat + 1 = ([0x01, 0, 0, 0, 0, 0] : List Byte).length) ∧
    (([0xE8, 0x03] : List Byte).length = 2 ∧ settingFills 1 [0xE8, 0x03] = true) ∧ onInlet.store.storing = none ∧
    (∃ q, putSetting 1 [0xE8, 0x03] onInlet.store.working = .ok q ∧ q ≠ onInlet.store.working) ∧
    putSetting 1 [0xE9, 0x03] onInlet.store.working = .error .badArgument ∧
    putSetting 1 [0x96, 0x00] onInlet.store.working = .ok onInlet.store.working ∧
    ({ onInlet.store with storing := some { snapshot := defaultProfile, timer := 0 } } : StoreRec).storing =
      some { snapshot := defaultProfile, timer := 0 } ∧
    (let p := defaultProfile
     p.p0 ≤ p.pfull ∧ p.lowThreshold < p.quietFloor ∧ p.quietFloor ≤ p.quietCeiling ∧ p.quietCeiling < p.lightThreshold ∧
       p.lightThreshold < p.hardThreshold ∧ 499 < p.quietFloor ∧ ¬(900 < p.quietFloor)) ∧
    (longCurve.length ≤ 12 ∧ longCurve.all Point.wellFormed = true ∧ (∀ q ∈ longCurve, q.lux ≤ 131071 ∧ q.level ≤ 1023) ∧
      longCurve.Pairwise (fun a b => a.lux < b.lux ∧ a.level ≤ b.level)) ∧
    (12 < (longCurve ++ [Point.mk 12 12]).length ∧ (longCurve ++ [Point.mk 12 12]).length < 256) ∧
    ¬([⟨5, 5⟩, ⟨5, 6⟩] : List Point).Pairwise (fun a b => a.lux < b.lux ∧ a.level ≤ b.level) :=
  ⟨alive_of_supplied rfl, by decide, by decide, by decide, by decide, ⟨_, rfl, by decide⟩, rfl, rfl, rfl, by decide, by decide, by decide,
    by decide⟩

theorem witness_AttentionsAreAcknowledgedAndMasked :
    Alive onInlet ∧ 30 ≤ 30 ∧ ((0x20 : Byte) &&& ~~~(0x1F : Byte) ≠ 0 ∧ (0x1F : Byte) &&& ~~~(0x1F : Byte) = 0) ∧
    masksValid defaultMasks = true ∧ masksValid { defaultMasks with supply := 0x20 } = false :=
  ⟨alive_of_supplied rfl, by decide, by decide, by decide, by decide⟩

theorem witness_ResetsReloadTheProfile :
    Alive onInlet ∧ State.reset.system.state ≠ .run ∧ onInlet.system.state = .run ∧ onInlet.store.storing = none ∧
    ({ onInlet.store with storing := some { snapshot := defaultProfile, timer := 0 } } : StoreRec).storing =
      some { snapshot := defaultProfile, timer := 0 } ∧
    ({ onInlet.store with storedOk := false } : StoreRec).storedOk = false ∧ onInlet.store.storedOk = true ∧
    onInlet.store = State.reset.store :=
  ⟨alive_of_supplied rfl, by decide, by decide, by decide, rfl, rfl, rfl, rfl⟩

end Sys2Proof.Tests
end

section
/-!
PROOFS. RELEASE (R18): one equation for each branch of its checks and of its request, and the statement assembled from them.
-/
namespace Sys2Proof.Machine

/-! ### The checks of a RELEASE and its effect -/

/-- R5, R18: a handle that names no live entry is stale. -/
theorem applyRelease_of_stale {h : Handle} {s : State} (hl : s.load.lookup h = none) :
    applyRelease h s = .error .staleHandle := by simp [applyRelease, hl]

/-- R18: slot 0 is never released. -/
theorem applyRelease_of_slot0 {h : Handle} {s : State} {e : Entry} (hl : s.load.lookup h = some (0, e)) :
    applyRelease h s = .error .wrongState := by simp [applyRelease, hl]

/-- R18: a host slot is released whatever the state of its entry. -/
theorem applyRelease_of_host {h : Handle} {s : State} {i : Slot} {e : Entry} (hl : s.load.lookup h = some (i, e)) (hi : i ≠ 0) :
    applyRelease h s = .ok (releaseSlot i s) := by simp [applyRelease, hl, hi]

/-! ### The request -/

/-- R15: whether a load-changing request meets the part in RUN. -/
theorem running_iff (s : State) : running s = true ↔ s.system.state = .run := by simp [running]

theorem releaseRequest_of_not_run (h : Handle) {s : State} (hs : s.system.state ≠ .run) :
    releaseRequest h s = refuse .notRunning s := by
  have hr : running s = false := Bool.eq_false_iff.mpr fun hr => hs ((running_iff s).mp hr)
  rw [releaseRequest, hr, require_false]

theorem releaseRequest_of_error {h : Handle} {s : State} {st : Status} (hs : s.system.state = .run)
    (ha : applyRelease h s = .error st) : releaseRequest h s = refuse st s := by
  rw [releaseRequest, (running_iff s).mpr hs, require_true, ha]

theorem releaseRequest_of_ok {h : Handle} {s u : State} (hs : s.system.state = .run) (ha : applyRelease h s = .ok u) :
    releaseRequest h s = (walkedEvent s u, okReply []) := by
  rw [releaseRequest, (running_iff s).mpr hs, require_true, ha]
  rfl

/-! ### The command -/

/-- R18, R203: RELEASE at a part that takes events is its request at the table as the Load Manager meets it. -/
theorem exec_release_of_alive {s : State} (ha : Alive (atLoadManager s)) (h : Handle) :
    exec (.release h) s =
      .next (answered (releaseRequest h (atLoadManager s)).2 (releaseRequest h (atLoadManager s)).1) :=
  loadRequest_of_alive ha (releaseRequest h)

/-- R180: a RELEASE whose request is refused leaves the state of a refusal. -/
theorem exec_release_of_refused {s : State} {h : Handle} {st : Status} (ha : Alive (atLoadManager s))
    (hr : releaseRequest h (atLoadManager s) = refuse st (atLoadManager s)) :
    exec (.release h) s = .next (refusedWith st (atLoadManager s)) := by
  rw [exec_release_of_alive ha, hr]
  rfl

/-- R18: a RELEASE that names a host entry in RUN retires it, and the walk runs. -/
theorem exec_release_of_host {s : State} {h : Handle} {i : Slot} {e : Entry} (ha : Alive (atLoadManager s))
    (hs : (atLoadManager s).system.state = .run) (hl : (atLoadManager s).load.lookup h = some (i, e)) (hi : i ≠ 0) :
    exec (.release h) s =
      .next (answered (okReply []) (walkedEvent (atLoadManager s) (releaseSlot i (atLoadManager s)))) := by
  rw [exec_release_of_alive ha, releaseRequest_of_ok hs (applyRelease_of_host hl hi)]

/-- Settles O21: the part not in RUN, a stale handle, slot 0 and a host slot, each by its equation above. -/
theorem releaseRetiresTheEntry : Obligations.ReleaseRetiresTheEntry := by
  intro s h m ha
  refine ⟨fun hs => ?notRunning, fun hs => ⟨fun hl => ?stale, fun i e hl => ⟨fun hi => ?slot0, fun hi => ?host⟩⟩⟩
  case notRunning => exact exec_release_of_refused ha (releaseRequest_of_not_run h hs)
  case stale => exact exec_release_of_refused ha (releaseRequest_of_error hs (applyRelease_of_stale hl))
  case slot0 =>
    subst hi
    exact exec_release_of_refused ha (releaseRequest_of_error hs (applyRelease_of_slot0 hl))
  case host => exact exec_release_of_host ha hs hl hi

end Sys2Proof.Machine
end

section
/-!
PROOFS. CONFIRM and the expiry of a grace (R44, R45): one equation for each branch of the request and of the event, and the statement assembled
from them.
-/
namespace Sys2Proof.Machine

/-! ### Refused load requests -/

/-- R180, R203: a load request that its block refuses leaves the state of a refusal. -/
theorem loadRequest_of_refused {s : State} {f : State → State × Reply} {st : Status} (ha : Alive (atLoadManager s))
    (hf : f (atLoadManager s) = refuse st (atLoadManager s)) :
    loadRequest s f = .next (refusedWith st (atLoadManager s)) := by
  rw [loadRequest_of_alive ha, hf]
  rfl

/-! ### CONFIRM -/

/-- R5, R44: a handle that names no live entry is stale. -/
theorem confirmRequest_of_stale {h : Handle} {s : State} (hl : s.load.lookup h = none) :
    confirmRequest h s = refuse .staleHandle s := by simp [confirmRequest, hl]

/-- R44: an entry without grace has nothing to confirm. -/
theorem confirmRequest_of_no_grace {h : Handle} {s : State} {i : Slot} {e : Entry} (hl : s.load.lookup h = some (i, e))
    (hg : e.grace = none) : confirmRequest h s = refuse .wrongState s := by simp [confirmRequest, hl, hg]

/-- R44: a grace ends whatever time remains of it, and the walk follows. -/
theorem confirmRequest_of_grace {h : Handle} {s : State} {i : Slot} {e : Entry} {g : Grace}
    (hl : s.load.lookup h = some (i, e)) (hg : e.grace = some g) :
    confirmRequest h s =
      (walkedEvent s { s with load := s.load.setEntry i (some (endGrace e)) }, okReply []) := by
  simp [confirmRequest, hl, hg, loadChange, walkedEvent]

/-! ### The expiry of a grace -/

/-- R45: the expiry that comes second finds no grace. -/
theorem expireGrace_of_no_grace {s : State} {i : Slot} {e : Entry} (he : s.load.entry i = some e) (hg : e.grace = none) :
    expireGrace i s = s := by simp [expireGrace, he, hg]

/-- R45: a grace with time remaining does not expire. -/
theorem expireGrace_of_remaining {s : State} {i : Slot} {e : Entry} {g : Grace} (he : s.load.entry i = some e)
    (hg : e.grace = some g) (ht : 0 < g.remaining) : expireGrace i s = s := by
  simp [expireGrace, he, hg, Nat.ne_of_gt ht]

/-- R45: a grace whose time is over ends with OVERDUE raised, and the walk follows. -/
theorem expireGrace_of_run_out {s : State} {i : Slot} {e : Entry} {g : Grace} (he : s.load.entry i = some e)
    (hg : e.grace = some g) (ht : g.remaining = 0) :
    expireGrace i s =
      walkedEvent s (({ s with load := s.load.setEntry i (some (endGrace e)) }).raise (.entry i .overdue)) := by
  simp [expireGrace, he, hg, ht, loadChange, walkedEvent]

/-! ### The commands -/

/-- R44: CONFIRM of an entry in grace ends the grace at the table as the Load Manager meets it. -/
theorem exec_confirm_of_grace {s : State} {h : Handle} {i : Slot} {e : Entry} {g : Grace} (ha : Alive (atLoadManager s))
    (hl : (atLoadManager s).load.lookup h = some (i, e)) (hg : e.grace = some g) :
    exec (.confirm h) s = .next (answered (okReply []) (walkedEvent (atLoadManager s)
      { atLoadManager s with load := (atLoadManager s).load.setEntry i (some (endGrace e)) })) := by
  show loadRequest s (confirmRequest h) = _
  rw [loadRequest_of_alive ha, confirmRequest_of_grace hl hg]

/-- R45: GRACE_EXPIRY at a part that takes events is its change, then the outputs. -/
theorem exec_graceExpiry_of_alive {s : State} (ha : Alive s) (i : Slot) :
    exec (.graceExpiry i) s = .next (finish (expireGrace i s)) :=
  event_of_alive ha (expireGrace i)

/-- Settles O22: a stale handle, an entry without grace and one in grace for CONFIRM; no grace, a grace with time remaining and one that has run
out for the expiry, each by its equation above. -/
theorem confirmOrExpiryEndsTheGrace : Obligations.ConfirmOrExpiryEndsTheGrace := by
  constructor
  · intro s h m ha
    refine ⟨fun hl => ?stale, fun i e hl => ⟨fun hg => ?noGrace, fun g hg => ?confirmed⟩⟩
    case stale => exact loadRequest_of_refused ha (confirmRequest_of_stale hl)
    case noGrace => exact loadRequest_of_refused ha (confirmRequest_of_no_grace hl hg)
    case confirmed => exact exec_confirm_of_grace ha hl hg
  · intro s i e ha he
    refine ⟨fun hg => ?nothingExpires, fun g hg ht => ?remaining, fun g hg ht => ?expired⟩
    case nothingExpires => rw [exec_graceExpiry_of_alive ha, expireGrace_of_no_grace he hg]
    case remaining => rw [exec_graceExpiry_of_alive ha, expireGrace_of_remaining he hg ht]
    case expired =>
      rw [exec_graceExpiry_of_alive ha, expireGrace_of_run_out he hg ht]
      rfl

end Sys2Proof.Machine
end

section
/-!
PROOFS. RENEW (R59, R60): one equation for each branch of the request and of the command, and the statement assembled from them.
-/
namespace Sys2Proof.Machine

/-! ### The request -/

/-- R15, R59: RENEW is taken in RUN alone. -/
theorem renewRequest_of_not_run (h : Handle) {s : State} (hs : s.system.state ≠ .run) :
    renewRequest h s = refuse .notRunning s := by
  have hr : running s = false := Bool.eq_false_iff.mpr fun hr => hs ((running_iff s).mp hr)
  rw [renewRequest, hr, require_false]

/-- R5, R59: a handle that names no live entry is stale. -/
theorem renewRequest_of_stale {h : Handle} {s : State} (hs : s.system.state = .run) (hl : s.load.lookup h = none) :
    renewRequest h s = refuse .staleHandle s := by
  rw [renewRequest, (running_iff s).mpr hs, require_true, hl]

/-- R59: an entry without a lease has nothing to renew. -/
theorem renewRequest_of_no_lease {h : Handle} {s : State} {i : Slot} {e : Entry} (hs : s.system.state = .run)
    (hl : s.load.lookup h = some (i, e)) (hn : e.lease = none) : renewRequest h s = refuse .wrongState s := by
  simp [renewRequest, (running_iff s).mpr hs, hl, hn]

/-- R59: the lease of an entry that is not LAPSED starts again, and no walk follows. -/
theorem renewRequest_of_not_lapsed {h : Handle} {s : State} {i : Slot} {e : Entry} {l : Lease} (hs : s.system.state = .run)
    (hl : s.load.lookup h = some (i, e)) (hlease : e.lease = some l) (hst : e.state ≠ .lapsed) :
    renewRequest h s =
      ({ s with load := s.load.setEntry i (some { e with lease := some l.restart }) }, okReply []) := by
  simp [renewRequest, (running_iff s).mpr hs, hl, hlease, hst]

/-- R60: a LAPSED entry joins the Grant Order again, and the walk follows. -/
theorem renewRequest_of_lapsed {h : Handle} {s : State} {i : Slot} {e : Entry} {l : Lease} (hs : s.system.state = .run)
    (hl : s.load.lookup h = some (i, e)) (hlease : e.lease = some l) (hst : e.state = .lapsed) :
    renewRequest h s =
      (walkedEvent s { s with load := (s.load.setEntry i (some (renewedEntry l e))).join i (renewedEntry l e) },
        okReply []) := by
  simp [renewRequest, (running_iff s).mpr hs, hl, hlease, hst, loadChange, walkedEvent]

/-! ### The command -/

/-- R59, R203: RENEW at a part that takes events is its request at the table as the Load Manager meets it. -/
theorem exec_renew_of_alive {s : State} (ha : Alive (atLoadManager s)) (h : Handle) :
    exec (.renew h) s = .next (answered (renewRequest h (atLoadManager s)).2 (renewRequest h (atLoadManager s)).1) :=
  loadRequest_of_alive ha (renewRequest h)

/-- R59: RENEW of an entry that is not LAPSED restarts its lease and changes nothing else. -/
theorem exec_renew_of_not_lapsed {s : State} {h : Handle} {i : Slot} {e : Entry} {l : Lease} (ha : Alive (atLoadManager s))
    (hs : (atLoadManager s).system.state = .run) (hl : (atLoadManager s).load.lookup h = some (i, e))
    (hlease : e.lease = some l) (hst : e.state ≠ .lapsed) :
    exec (.renew h) s = .next (answered (okReply []) { atLoadManager s with
      load := (atLoadManager s).load.setEntry i (some { e with lease := some l.restart }) }) := by
  rw [exec_renew_of_alive ha, renewRequest_of_not_lapsed hs hl hlease hst]

/-- R60: RENEW of a LAPSED entry returns it to the Grant Order, and the walk runs. -/
theorem exec_renew_of_lapsed {s : State} {h : Handle} {i : Slot} {e : Entry} {l : Lease} (ha : Alive (atLoadManager s))
    (hs : (atLoadManager s).system.state = .run) (hl : (atLoadManager s).load.lookup h = some (i, e))
    (hlease : e.lease = some l) (hst : e.state = .lapsed) :
    exec (.renew h) s = .next (answered (okReply []) (walkedEvent (atLoadManager s) { atLoadManager s with
      load := ((atLoadManager s).load.setEntry i (some (renewedEntry l e))).join i (renewedEntry l e) })) := by
  rw [exec_renew_of_alive ha, renewRequest_of_lapsed hs hl hlease hst]

/-- Settles O23: the part not in RUN, a stale handle, an entry without a lease, one whose lease still runs and a LAPSED one, each by its equation
above. -/
theorem renewRestartsTheLease : Obligations.RenewRestartsTheLease := by
  intro s h m ha
  refine ⟨fun hs => ?notRunning, fun hs => ⟨fun hl => ?stale, fun i e hl => ⟨fun hn => ?noLease, fun l hlease =>
    ⟨fun hst => ?restarted, fun hst => ?returned⟩⟩⟩⟩
  case notRunning => exact loadRequest_of_refused ha (renewRequest_of_not_run h hs)
  case stale => exact loadRequest_of_refused ha (renewRequest_of_stale hs hl)
  case noLease => exact loadRequest_of_refused ha (renewRequest_of_no_lease hs hl hn)
  case restarted => exact exec_renew_of_not_lapsed ha hs hl hlease hst
  case returned => exact exec_renew_of_lapsed (e := e) ha hs hl hlease hst

end Sys2Proof.Machine
end

section
/-!
PROOFS. The shapes of a command: what each event of the part's own, each request and each claim makes of the state, and one rule for what every
command keeps, so that a proof about all commands treats the changes alone. The statements that follow from the shapes: O6 and O3.
-/
namespace Sys2Proof.Machine

/-! ### What a command changes -/

/-- What an event of a timer, an input or a sensor makes of the state, before its outputs follow. -/
def eventChange (c : Instr) (s : State) : State :=
  match c with
  | .graceExpiry i => expireGrace i s
  | .holdoffExpiry i => expireHoldoff i s
  | .lapse i => lapseEntry i s
  | .drainTimerExpiry => if s.supply.carrying && s.supply.drainTimer.isSome then drain s else s
  | .refillTimerExpiry => if s.supply.refillTimer.isSome then refill s else s
  | .leverEvent b level => changeLever b level s
  | .conditionQuery b => if (s.bay b).queryTimer.isSome then s.modifyBay b sendQuery else s
  | .goodAnswer b bytes | .badAnswer b bytes => takeAnswer b bytes s
  | .missedAnswer b => if (s.bay b).answerWindow.isSome then failAnswer b s else s
  | .probeTimerExpiry b => if (s.bay b).probeTimer.isSome ∧ (s.bay b).state = .probing then becomeFaulted b s else s
  | .linkStepTimerExpiry b => if (s.bay b).stepTimer.isSome ∧ (s.bay b).link = some .outOfStep then loseLink b s else s
  | .ejectWindowExpiry b => if (s.bay b).ejectWindow.isSome then expireEject b s else s
  | .requalifyExpiry b => if (s.bay b).requalify.isSome then faultBay b s else s
  | .readEvent front rear => if s.light.readTimer.isSome then readSensors front rear s else s
  | .rampStep => if s.light.stepTimer.isSome then { s with light := stepOutput s.profile s.light } else s
  | .pinExpiry => if pinRuns s.light then expirePin s else s
  | .sampleEvent reading => if s.motion.sampleTimer.isSome then takeSample reading s else s
  | .doneInputChange n active => changeDone n active s
  | .parkTimerExpiry n =>
    if s.episode.lines[n].parkTimer.isSome ∧ s.episode.lines[n].state = .requested then failLine n s else s
  | .unparkTimerExpiry n =>
    if s.episode.state = .recovering ∧ s.episode.lines[n].unparkTimer.isSome then finishLift n s else s
  | .buttonChange down => changeButton down s
  | .pressTimerExpiry => if s.system.pressTimer.isSome then judgePress s else s
  | .holdTimerExpiry => if s.system.holdTimer.isSome ∧ s.system.state ≠ .dark then enterDark s else s
  | .startTimerExpiry => if s.system.startTimer.isSome ∧ s.system.state = .starting then enterDark s else s
  | .stopTimerExpiry => if s.system.stopTimer.isSome ∧ s.system.state = .stopping then enterDark s else s
  | .storeTimerExpiry passes => endStore passes s
  | _ => s

/-- What a request makes of the state, and its reply. -/
def requestChange (c : Instr) (s : State) : State × Reply :=
  match c with
  | .admitEntry a => admitRequest a s
  | .stagedAdmit a => stage (admitRecord a).isSome (.admitEntry a) s
  | .revise a => reviseRequest a s
  | .stagedRevise a => stage (reviseRangesOk a) (.revise a) s
  | .release h => releaseRequest h s
  | .stagedRelease h => stage true (.release h) s
  | .query h => queryRequest h s
  | .findTag tag => findTagRequest tag s
  | .findRail rail => findRailRequest rail s
  | .order => orderRequest s
  | .confirm h => confirmRequest h s
  | .renew h => renewRequest h s
  | .commit => commitRequest s
  | .discard => discardRequest s
  | .draftRead => draftReadRequest s
  | .bayStatus bay => bayStatusRequest bay s
  | .reprobe bay => reprobeRequest bay s
  | .eject bay => ejectRequest bay s
  | .supplyStatus => (s, okReply (supplyStatusBytes s))
  | .setInlet capability => setInletRequest capability s
  | .lightStatus part => lightStatusRequest part s
  | .curveSet points => curveSetRequest points s
  | .curveAdd p => curveAddRequest p s
  | .curveRemove lux => curveRemoveRequest lux s
  | .panel value => panelRequest value s
  | .pin level duration => pinRequest level duration s
  | .unpin => unpinRequest s
  | .fallStatus => (s, okReply (fallStatusBytes s))
  | .arm => (arm s, okReply [])
  | .disarm => (disarm s, okReply [])
  | .simulateFall => simulateFallRequest s
  | .resume => resumeRequest s
  | .ready => readyRequest s
  | .powerOff => powerOffRequest s
  | .partReset => partResetRequest s
  | .profileRead n => profileReadRequest n s
  | .profileWrite n value => profileWriteRequest n value s
  | .profileStore => profileStoreRequest s
  | .summary => (s, okReply (summaryBytes s.attention))
  | .acknowledge source reasons => acknowledgeRequest source reasons s
  | .mask bytes => maskRequest bytes s
  | _ => refuse .unknownRequest s

/-- What a party does with a claim handed to it. -/
def receives (p : Party) : Instr → State → State :=
  match p with
  | .loadManager => loadTakes
  | .supplyController => supplyTakes
  | .bayUnit _ => bayTakes
  | .backlight => lightTakes
  | .motionMonitor => motionTakes
  | .sequencer => sequencerTakes
  | .attention => attentionTakes
  | .systemPower => systemTakes
  | .inputs | .profileStore => fun _ s => s

/-- What a claim makes of the state once nothing waits before it. -/
def claimChange (c : Instr) (s : State) : State :=
  match route c with
  | some r => receives r.receiver c (s.take c)
  | none => s

theorem claimChange_of_route {c : Instr} {r : Route} (h : route c = some r) (s : State) :
    claimChange c s = receives r.receiver c (s.take c) := by simp [claimChange, h]

/-- A frame, with or without the more-follows mark. -/
def isFrame : Instr → Bool
  | .frame _ | .moreFollowsFrame _ _ => true
  | _ => false

/-- A request sent alone that its block takes as it comes. -/
def isPlainRequest (c : Instr) : Bool := isRequest c && !isFrame c && !isLoadRequest c

/-- An event of a timer, an input or a sensor. -/
def isOwnEvent : Instr → Bool
  | .graceExpiry _ | .holdoffExpiry _ | .lapse _ | .drainTimerExpiry | .refillTimerExpiry | .leverEvent _ _ | .conditionQuery _
  | .goodAnswer _ _ | .badAnswer _ _ | .missedAnswer _ | .probeTimerExpiry _ | .linkStepTimerExpiry _ | .ejectWindowExpiry _
  | .requalifyExpiry _ | .readEvent _ _ | .rampStep | .pinExpiry | .sampleEvent _ | .doneInputChange _ _ | .parkTimerExpiry _
  | .unparkTimerExpiry _ | .buttonChange _ | .pressTimerExpiry | .holdTimerExpiry | .startTimerExpiry | .stopTimerExpiry
  | .storeTimerExpiry _ => true
  | _ => false

/-! ### The shape of each command -/

theorem exec_ownEvent {c : Instr} (h : isOwnEvent c = true) (s : State) : exec c s = event s (eventChange c) := by
  cases c <;> simp only [isOwnEvent, Bool.false_eq_true] at h <;> rfl

theorem exec_plainRequest {c : Instr} (h : isPlainRequest c = true) (s : State) : exec c s = request s (requestChange c) := by
  cases c <;> simp [isPlainRequest, isRequest, isFrame, isLoadRequest] at h <;> rfl

theorem exec_loadRequest {c : Instr} (h : isLoadRequest c = true) (s : State) : exec c s = loadRequest s (requestChange c) := by
  cases c <;> simp only [isLoadRequest, Bool.false_eq_true] at h <;> rfl

theorem exec_claim {c : Instr} {r : Route} (h : route c = some r) (s : State) : exec c s = handover (receives r.receiver) c s := by
  cases c <;> simp only [route, reduceCtorEq, Option.some.injEq] at h <;> subst h <;> rfl

/-- Every command is a frame, a request, a claim, an event of its own or a power-on reset. -/
theorem command_cases (c : Instr) :
    isFrame c = true ∨ isPlainRequest c = true ∨ isLoadRequest c = true ∨ (∃ r, route c = some r) ∨ isOwnEvent c = true ∨
    ∃ x, c = .powerOnReset x := by
  cases c <;> simp [isFrame, isPlainRequest, isRequest, isLoadRequest, route, isOwnEvent]

/-! ### Frames -/

theorem filled_eq_ok {α : Type} {o : Option α} {f : α → Instr} {c : Instr} (h : filled o f = .ok c) : ∃ x, o = some x ∧ c = f x := by
  cases o with
  | none => cases h
  | some x => exact ⟨x, rfl, by injection h with h; exact h.symm⟩

theorem decodeProfileWrite_eq_ok {args : List Byte} {c : Instr} (h : decodeProfileWrite args = .ok c) :
    ∃ n value, args = n :: value ∧ c = .profileWrite n.toNat value := by
  cases args with
  | nil => cases h
  | cons n value =>
    simp only [decodeProfileWrite] at h
    split at h
    · cases h
    · split at h
      · cases h
      · exact ⟨n, value, rfl, by injection h with h; exact h.symm⟩

/-- 9.4: what a code and its arguments spell is a request sent alone. -/
theorem isRequest_of_decodeRequest {code : Byte} {args : List Byte} {c : Instr} (h : decodeRequest code args = .ok c) :
    isPlainRequest c = true ∨ isLoadRequest c = true := by
  unfold decodeRequest at h
  split at h
  case h_37 =>
    obtain ⟨n, value, -, rfl⟩ := decodeProfileWrite_eq_ok h
    exact .inl rfl
  case h_42 => cases h
  all_goals
    obtain ⟨x, -, rfl⟩ := filled_eq_ok h
    first | exact .inl rfl | exact .inr rfl

theorem runRequest_eq_exec {c : Instr} (h : isPlainRequest c = true ∨ isLoadRequest c = true) (s : State) : runRequest c s = exec c s := by
  cases c <;> simp [isPlainRequest, isRequest, isFrame, isLoadRequest] at h <;> rfl

/-- What a frame that reaches no block changes: the port. -/
def atPort (p : PortRec → PortRec) (s : State) : State := { s with port := p s.port }

theorem portRefusal_eq (st : Status) (s : State) : portRefusal st s = event s (atPort fun p => p.answer (refusal st)) := rfl

/-- R178: a frame with the more-follows mark is answered at the port. -/
theorem takeMoreFollows_eq (code : Byte) (args : List Byte) (s : State) : ∃ p, takeMoreFollows code args s = event s (atPort p) := by
  unfold takeMoreFollows
  split
  · exact ⟨_, portRefusal_eq _ s⟩
  · split
    · exact ⟨_, portRefusal_eq _ s⟩
    · exact ⟨fun p => assemble code (heldArgs code p ++ args) p, rfl⟩

theorem exec_moreFollowsFrame_eq (code : Byte) (args : List Byte) (s : State) :
    ∃ p, exec (.moreFollowsFrame code args) s = event s (atPort p) := by
  show ∃ p, execMoreFollowsFrame code args s = event s (atPort p)
  unfold execMoreFollowsFrame
  split
  · exact ⟨_, portRefusal_eq _ s⟩
  · exact takeMoreFollows_eq code args s

/-- R177, R178: what becomes of a frame: nothing, an answer of the port, or what a request does. -/
def FrameTaken (s : State) (r : Result) : Prop :=
  r = .next s ∨ (∃ p, r = event s (atPort p)) ∨ ∃ d, (isPlainRequest d = true ∨ isLoadRequest d = true) ∧ r = exec d s

theorem frameTaken_portRefusal (st : Status) (s : State) : FrameTaken s (portRefusal st s) := .inr (.inl ⟨_, portRefusal_eq st s⟩)

theorem frameTaken_takeRequest (code : Byte) (args : List Byte) (s : State) : FrameTaken s (takeRequest code args s) := by
  unfold takeRequest
  split
  next c hc => exact .inr (.inr ⟨c, isRequest_of_decodeRequest hc, runRequest_eq_exec (isRequest_of_decodeRequest hc) s⟩)
  next st _ => exact frameTaken_portRefusal st s

theorem frameTaken_takeSized (code len : Byte) (args : List Byte) (s : State) : FrameTaken s (takeSized code len args s) := by
  unfold takeSized takeFinal
  split
  · exact frameTaken_portRefusal _ s
  · repeat' split
    all_goals first
      | exact frameTaken_portRefusal _ s
      | exact .inr (.inl (takeMoreFollows_eq code args s))
      | exact frameTaken_takeRequest code _ s

/-- R176: a write transfer, wherever it goes. -/
theorem frameTaken_exec (bytes : List Byte) (s : State) : FrameTaken s (exec (.frame bytes) s) := by
  show FrameTaken s (writeTransfer (portAddress s.port) bytes s)
  unfold writeTransfer takeFrame
  repeat' split
  · exact .inl rfl
  · exact frameTaken_portRefusal _ s
  · exact frameTaken_takeSized _ _ _ s
  · exact .inl rfl

/-! ### The events that a command consists of -/

/-- What a request makes of the state, its reply held at the port (R179). -/
def requestState (c : Instr) (s : State) : State :=
  { (requestChange c s).1 with port := (requestChange c s).1.port.answer (requestChange c s).2 }

/-- The changes of the events that a command may consist of: its own, and those of what it finds waiting before it. -/
inductive PartOf : Instr → (State → State) → Prop where
  | port {c : Instr} (h : isFrame c = true) (p : PortRec → PortRec) : PartOf c (atPort p)
  | framed {bytes : List Byte} {d : Instr} {f : State → State} (h : isPlainRequest d = true ∨ isLoadRequest d = true)
      (hf : PartOf d f) : PartOf (.frame bytes) f
  | request {c : Instr} (h : isPlainRequest c = true ∨ isLoadRequest c = true) : PartOf c (requestState c)
  | reset {c d : Instr} (h : isLoadRequest c = true) (hd : isLoadReset d = true) : PartOf c (claimChange d)
  | claim {c d : Instr} {r : Route} (h : route c = some r) (hd : route d = some r) : PartOf c (claimChange d)
  | own {c : Instr} (h : isOwnEvent c = true) : PartOf c (eventChange c)

/-- One event of a command leads from a state to the next. -/
inductive Chain (c : Instr) : State → State → Prop where
  | refl (s : State) : Chain c s s
  | cons {f : State → State} {s t : State} (hf : PartOf c f) (h : Chain c (eventState f s) t) : Chain c s t

theorem Chain.trans {c : Instr} {s t u : State} (h : Chain c s t) (k : Chain c t u) : Chain c s u := by
  induction h with
  | refl => exact k
  | cons hf _ ih => exact .cons hf (ih k)

theorem Chain.one {c : Instr} {f : State → State} (hf : PartOf c f) (s : State) : Chain c s (eventState f s) := .cons hf (.refl _)

theorem Chain.ofFrame {bytes : List Byte} {d : Instr} (hd : isPlainRequest d = true ∨ isLoadRequest d = true) {s t : State}
    (h : Chain d s t) : Chain (.frame bytes) s t := by
  induction h with
  | refl s => exact .refl s
  | cons hf _ ih => exact .cons (.framed hd hf) ih

theorem taken_eq_claimChange {c : Instr} {r : Route} (h : route c = some r) (s : State) :
    taken (receives r.receiver) s c = eventState (claimChange c) s := by
  have hf : claimChange c = fun s => receives r.receiver c (s.take c) := funext (claimChange_of_route h)
  rw [hf]
  rfl

/-- What waits on one route is taken event by event. -/
theorem Chain.takenAll {c : Instr} {r : Route} (h : route c = some r) {cs : List Instr} (hcs : ∀ d ∈ cs, route d = some r) (s : State) :
    Chain c s (cs.foldl (taken (receives r.receiver)) s) := by
  induction cs generalizing s with
  | nil => exact .refl s
  | cons d ds ih =>
    have hd := hcs d (by simp)
    rw [List.foldl_cons, taken_eq_claimChange hd]
    exact .cons (.claim h hd) (ih (fun x hx => hcs x (by simp [hx])) _)

theorem route_of_isLoadReset {c : Instr} (h : isLoadReset c = true) : route c = some ⟨.systemPower, .loadManager⟩ := by
  simpa [isLoadReset] using h

theorem taken_reset {c : Instr} (h : isLoadReset c = true) (s : State) : taken loadResetTakes s c = eventState (claimChange c) s := by
  rw [← taken_eq_claimChange (route_of_isLoadReset h)]
  cases c <;> simp [isLoadReset, route] at h <;> rfl

/-- R203: the resets that a load request finds waiting are taken event by event. -/
theorem Chain.atLoadManager {c : Instr} (h : isLoadRequest c = true) (s : State) : Chain c s (atLoadManager s) := by
  have hall : ∀ cs : List Instr, (∀ d ∈ cs, isLoadReset d = true) → ∀ s, Chain c s (cs.foldl (taken loadResetTakes) s) := by
    intro cs hcs
    induction cs with
    | nil => exact fun s => .refl s
    | cons d ds ih =>
      intro s
      rw [List.foldl_cons, taken_reset (hcs d (by simp))]
      exact .cons (.reset h (hcs d (by simp))) (ih (fun x hx => hcs x (by simp [hx])) _)
  exact hall _ (fun d hd => (List.mem_filter.mp hd).2) s

/-- What a request sent alone answers is one event behind the resets that it finds waiting. -/
theorem chain_of_request {c : Instr} {s t : State} (h : isPlainRequest c = true ∨ isLoadRequest c = true)
    (ht : exec c s = .next t) : Chain c s t := by
  have hone : ∀ u, request u (requestChange c) = .next t → Chain c u t := fun u hu => by
    injection hu with hu
    exact hu ▸ Chain.one (.request h) u
  rcases h with h | h
  · exact hone s (exec_plainRequest h s ▸ ht)
  · rw [exec_loadRequest h] at ht
    exact (Chain.atLoadManager h s).trans (hone _ ht)

/-- Every command but a power-on reset is a chain of events of its own kind. -/
theorem chain_of_exec {c : Instr} {s t : State} (hc : ∀ x, c ≠ .powerOnReset x) (ht : exec c s = .next t) : Chain c s t := by
  have hone : ∀ f, PartOf c f → event s f = .next t → Chain c s t := fun f hf he => by
    injection he with he
    exact he ▸ Chain.one hf s
  rcases command_cases c with h | h | h | ⟨r, h⟩ | h | ⟨x, rfl⟩
  · cases c <;> simp only [isFrame, Bool.false_eq_true] at h
    case frame bytes =>
      rcases frameTaken_exec bytes s with hf | ⟨p, hf⟩ | ⟨d, hd, hf⟩
      · rw [hf] at ht
        injection ht with ht
        exact ht ▸ .refl s
      · exact hone _ (.port rfl p) (hf ▸ ht)
      · exact (chain_of_request hd (hf ▸ ht)).ofFrame hd
    case moreFollowsFrame code args =>
      obtain ⟨p, hp⟩ := exec_moreFollowsFrame_eq code args s
      exact hone _ (.port rfl p) (hp ▸ ht)
  · exact chain_of_request (.inl h) ht
  · exact chain_of_request (.inr h) ht
  · rw [exec_claim h] at ht
    injection ht with ht
    rw [← ht, taken_eq_claimChange h]
    exact (Chain.takenAll h (fun d hd => (ne_of_mem_before hd).2.trans h) s).trans (Chain.one (.claim h h) _)
  · exact hone _ (.own h) (exec_ownEvent h s ▸ ht)
  · exact absurd rfl (hc x)

/-- A preorder that every event of a command is within, the command is within. -/
theorem Chain.within {R : State → State → Prop} {c : Instr} (refl : ∀ s, R s s) (trans : ∀ s t u, R s t → R t u → R s u)
    (part : ∀ f, PartOf c f → ∀ s, R s (eventState f s)) {s t : State} (h : Chain c s t) : R s t := by
  induction h with
  | refl s => exact refl s
  | cons hf _ ih => exact trans _ _ _ (part _ hf _) ih

/-! ### What every command keeps -/

/-- A relation between the state before a change and after it that every change of the model is within, so that every command is. -/
structure Kept (R : State → State → Prop) : Prop where
  refl : ∀ s, R s s
  trans : ∀ s t u, R s t → R t u → R s u
  finish : ∀ s, R s (finish s)
  port : ∀ p s, R s (atPort p s)
  event : ∀ c s, R s (eventChange c s)
  request : ∀ c s, R s (requestChange c s).1
  claim : ∀ c s, R s (claimChange c s)

theorem Kept.part {R : State → State → Prop} (k : Kept R) {c : Instr} {f : State → State} (hf : PartOf c f) (s : State) : R s (f s) := by
  induction hf with
  | port _ p => exact k.port p s
  | framed _ _ ih => exact ih
  | @request c _ => exact k.trans _ _ _ (k.request c s) (k.port (fun p => p.answer (requestChange c s).2) _)
  | @reset c d _ _ => exact k.claim d s
  | @claim c d _ _ _ => exact k.claim d s
  | @own c _ => exact k.event c s

/-- What every change keeps, every command but a power-on reset keeps. -/
theorem Kept.exec {R : State → State → Prop} (k : Kept R) {c : Instr} {s t : State} (hc : ∀ x, c ≠ .powerOnReset x)
    (ht : exec c s = .next t) : R s t := by
  refine Chain.within k.refl k.trans (fun f hf s => ?_) (chain_of_exec hc ht)
  unfold eventState
  split
  · exact k.refl s
  · exact k.trans _ _ _ (k.part hf s) (k.finish _)

/-! ### The steps -/

/-- A step is a command, taken out of the queue or by the part itself, or the passing of time, or nothing in a part that has stopped. -/
theorem step_cases {s t : State} (h : step s = .next t) :
    (∃ c cs, exec c { s with pending := cs } = .next t) ∨ t = tick s ∨ t = s := by
  unfold step at h
  split at h
  next c cs _ => exact .inl ⟨c, cs, h⟩
  next hp =>
    have hs : ∀ c, exec c s = .next t → ∃ c cs, exec c { s with pending := cs } = .next t := fun c hc => ⟨c, s.pending, hc⟩
    unfold idle at h
    split at h
    · injection h with h
      exact .inr (.inr h.symm)
    · split at h
      · exact .inl (hs _ h)
      · split at h
        · exact .inl (hs _ h)
        · injection h with h
          exact .inr (.inl h.symm)

/-- A law of the state that every change keeps, the passing of time and a power-on reset among them. -/
structure Invariant (I : State → Prop) : Prop where
  kept : Kept fun s t => I s → I t
  pending : ∀ cs s, I s → I { s with pending := cs }
  tick : ∀ s, I s → I (tick s)
  powerOn : ∀ x s, I s → I (powerOnState x s)

/-- What is kept by every change is kept by every step. -/
theorem Invariant.step {I : State → Prop} (k : Invariant I) {s t : State} (hs : I s) (h : step s = .next t) : I t := by
  rcases step_cases h with ⟨c, cs, hc⟩ | rfl | rfl
  · by_cases hx : ∃ x, c = .powerOnReset x
    · obtain ⟨x, rfl⟩ := hx
      injection hc with hc
      exact hc ▸ k.kept.finish _ (k.powerOn x _ (k.pending cs s hs))
    · exact k.kept.exec (fun x hcx => hx ⟨x, hcx⟩) hc (k.pending cs s hs)
  · exact k.tick s hs
  · exact hs

/-! ### The outputs -/

/-- A command that changes anything writes the outputs behind it. -/
theorem exec_unchanged_or_finished {c : Instr} {s t : State} (h : exec c s = .next t) : t = s ∨ ∃ u, t = finish u := by
  by_cases hx : ∃ x, c = .powerOnReset x
  · obtain ⟨x, rfl⟩ := hx
    injection h with h
    exact .inr ⟨_, h.symm⟩
  · refine Chain.within (R := fun s t => t = s ∨ ∃ u, t = finish u) (fun s => .inl rfl) ?trans (fun f _ s => ?event)
      (chain_of_exec (fun x hcx => hx ⟨x, hcx⟩) h)
    case trans =>
      rintro s t u (rfl | ⟨v, rfl⟩) (rfl | ⟨w, rfl⟩)
      · exact .inl rfl
      · exact .inr ⟨w, rfl⟩
      · exact .inr ⟨v, rfl⟩
      · exact .inr ⟨w, rfl⟩
    case event =>
      unfold eventState
      split
      · exact .inl rfl
      · exact .inr ⟨_, rfl⟩

/-! ### The passing of time -/

@[simp] theorem tick_port (s : State) : (tick s).port = s.port := by simp only [tick]
@[simp] theorem tick_attention (s : State) : (tick s).attention = s.attention := by simp only [tick]
@[simp] theorem tick_pins (s : State) : (tick s).pins = s.pins := by simp only [tick]
@[simp] theorem tick_power (s : State) : (tick s).power = s.power := by simp only [tick]
@[simp] theorem tick_handed (s : State) : (tick s).handed = s.handed := by simp only [tick]
@[simp] theorem tick_supply (s : State) : (tick s).supply = tickSupply s.supply := by simp only [tick]
@[simp] theorem tick_bayA (s : State) : (tick s).bayA = tickBay s.bayA := by simp only [tick]
@[simp] theorem tick_bayB (s : State) : (tick s).bayB = tickBay s.bayB := by simp only [tick]
@[simp] theorem tick_light (s : State) : (tick s).light = tickLight s.light := by simp only [tick]
@[simp] theorem tick_motion (s : State) : (tick s).motion = tickMotion s.motion := by simp only [tick]
@[simp] theorem tick_system (s : State) : (tick s).system = tickSystem s.system := by simp only [tick]
@[simp] theorem tick_store (s : State) : (tick s).store = tickStore s.store := by simp only [tick]
@[simp] theorem tick_load (s : State) : (tick s).load = s.load.mapEntries fun _ e => tickEntry e := by simp only [tick]
@[simp] theorem tick_episode (s : State) : (tick s).episode = s.episode.mapLines fun _ l => tickLine l := by simp only [tick]
@[simp] theorem tick_bay (s : State) (b : Bay) : (tick s).bay b = tickBay (s.bay b) := by
  cases b <;> simp only [State.bay, tick_bayA, tick_bayB]

/-- A change of every record of the table, slot by slot. -/
@[simp] theorem LoadRec.entry_mapEntries (L : LoadRec) (f : Slot → Entry → Entry) (i : Slot) :
    (L.mapEntries f).entry i = (L.entry i).map (f i) := by simp [LoadRec.entry, LoadRec.mapEntries]

/-- A change of every park line, line by line. -/
@[simp] theorem EpisodeRec.lines_mapLines (f : Line → LineRec → LineRec) (e : EpisodeRec) (n : Line) :
    (e.mapLines f).lines[n] = f n e.lines[n] := by simp [EpisodeRec.mapLines]

/-- R12: a rail depends on no time remaining. -/
theorem railOn_tick (L : LoadRec) (r : Fin 12) :
    (∃ i e, (L.mapEntries fun _ e => tickEntry e).entry i = some e ∧ e.rail = some r ∧ e.state = .granted) ↔
    ∃ i e, L.entry i = some e ∧ e.rail = some r ∧ e.state = .granted := by
  constructor
  · rintro ⟨i, e, he, hr, hg⟩
    rw [LoadRec.entry_mapEntries, Option.map_eq_some_iff] at he
    obtain ⟨e', he', rfl⟩ := he
    exact ⟨i, e', he', hr, hg⟩
  · rintro ⟨i, e, he, hr, hg⟩
    exact ⟨i, tickEntry e, by simp [he], hr, hg⟩

theorem fed_tick (s : State) : Fed (tick s) ↔ Fed s := by simp [Fed, tickBay, tickSupply]

theorem sourceWaits_tick (s : State) : SourceWaits (tick s) ↔ SourceWaits s := by simp [SourceWaits]

/-- No output depends on a time remaining. -/
theorem outputsFollow_tick {s : State} (h : OutputsFollow s) : OutputsFollow (tick s) where
  alert := by simpa using h.alert
  rails := fun r => by
    rw [tick_pins, tick_load, railOn_tick]
    exact h.rails r
  pathA := by simpa [tickBay] using h.pathA
  pathB := by simpa [tickBay] using h.pathB
  lampA := by simpa [tickBay] using h.lampA
  lampB := by simpa [tickBay] using h.lampB
  links := fun b => by simpa [tickBay, tickTimer] using h.links b
  inletPath := by simpa [tickSupply] using h.inletPath
  bridgePath := by simpa [tickSupply] using h.bridgePath
  parkRequests := fun n => by
    rw [tick_pins, tick_episode, EpisodeRec.lines_mapLines]
    exact h.parkRequests n
  backlight := by simpa [tickLight] using h.backlight
  systemOn := by simpa [tickSystem] using h.systemOn
  mode := by simpa [tickSupply] using h.mode
  supplied := by simpa [fed_tick] using h.supplied
  failing := by simpa using h.failing
  gained := by simpa [fed_tick, sourceWaits_tick] using h.gained

/-- Settles O6: a step is a command, which leaves the outputs as the end of an event writes them, or the passing of time, which no output
depends on. -/
theorem outputsFollowEveryStep : Obligations.OutputsFollowEveryStep := by
  intro s t hs h
  rcases step_cases h with ⟨c, cs, hc⟩ | rfl | rfl
  · rcases exec_unchanged_or_finished hc with rfl | ⟨u, rfl⟩
    · exact ⟨hs.alert, hs.rails, hs.pathA, hs.pathB, hs.lampA, hs.lampB, hs.links, hs.inletPath, hs.bridgePath, hs.parkRequests,
        hs.backlight, hs.systemOn, hs.mode, hs.supplied, hs.failing, hs.gained⟩
    · exact outputsFollow_finish u
  · exact outputsFollow_tick hs
  · exact hs

end Sys2Proof.Machine
end

section
/-!
PROOFS. The footprint of every command: outside which fields each event it consists of leaves the state as it was. The statement that follows
at once: O3.
-/
namespace Sys2Proof.Machine

/-! ### The Load Manager -/

theorem changes_refuse (fs : List Field) (st : Status) (s : State) : Changes fs s (refuse st s).1 := Changes.refl fs s

/-- A request that has a condition to meet changes no more than it does when it meets it. -/
theorem changes_require {fs : List Field} {s : State} {k : State × Reply} (ok : Bool) (st : Status) (h : Changes fs s k.1) :
    Changes fs s (require ok st s k).1 := by
  cases ok
  · exact Changes.refl fs s
  · exact h

theorem changes_loadField (L : LoadRec) (s : State) : Changes loadFields s { s with load := L } := (changes_load L s).mono (by simp)

theorem changes_walkAfter (L : LoadRec) (s : State) : Changes loadFields s (runWalk { s with load := L }) :=
  (changes_load L s).via (changes_runWalk _) (by decide) (by decide)

theorem changes_loadChange {f : State → State} {s : State} (h : Changes loadFields s (f s)) : Changes loadFields s (loadChange f s) :=
  h.trans ((changes_handLoadResults _ _ _).mono (by simp))

theorem changes_walkedEvent {s u : State} (h : Changes loadFields s u) : Changes loadFields s (walkedEvent s u) :=
  (h.trans ((changes_runWalk u).mono (by simp))).trans ((changes_handLoadResults _ _ _).mono (by simp))

theorem changes_applyAdmit {a : AdmitArgs} {s u : State} {h : Handle} (ha : applyAdmit a s = .ok (u, h)) : Changes loadFields s u := by
  unfold applyAdmit at ha
  repeat' split at ha
  all_goals cases ha
  exact changes_loadField _ s

theorem changes_applyRevise {a : ReviseArgs} {s u : State} {w : Bool} (ha : applyRevise a s = .ok (u, w)) : Changes loadFields s u := by
  unfold applyRevise at ha
  repeat' split at ha
  all_goals cases ha
  exact changes_loadField _ s

theorem changes_applyRelease {h : Handle} {s u : State} (ha : applyRelease h s = .ok u) : Changes loadFields s u := by
  unfold applyRelease at ha
  repeat' split at ha
  all_goals cases ha
  exact (changes_releaseSlot _ s).mono (by simp)

theorem changes_applyChange {c : Change} {s u : State} {hs : List Handle} (ha : applyChange c s = .ok (u, hs)) :
    Changes loadFields s u := by
  cases c <;> simp only [applyChange] at ha <;> split at ha <;> cases ha
  next h => exact changes_applyAdmit h
  next h => exact changes_applyRevise h
  next h => exact changes_applyRelease h

theorem changes_commitChanges (cs : List Change) (s : State) : Changes loadFields s (commitChanges cs s).state := by
  induction cs generalizing s with
  | nil => exact Changes.refl _ s
  | cons c cs ih =>
    simp only [commitChanges]
    split
    · exact Changes.refl _ s
    next h => exact (changes_applyChange h).trans (ih _)

theorem changes_committed {r : CommitResult} {s : State} (h : Changes loadFields s r.state) : Changes loadFields s (committed r) := by
  unfold committed
  dsimp only
  split
  · exact h.trans (changes_loadField _ _)
  · exact h.trans (changes_walkAfter _ _)

theorem changes_admitRequest (a : AdmitArgs) (s : State) : Changes loadFields s (admitRequest a s).1 := by
  refine changes_require _ _ ?_
  split
  · exact changes_refuse _ _ s
  next s1 _ h =>
    dsimp only
    exact changes_walkedEvent (changes_applyAdmit h)

theorem changes_reviseRequest (a : ReviseArgs) (s : State) : Changes loadFields s (reviseRequest a s).1 := by
  refine changes_require _ _ ?_
  split
  · exact changes_refuse _ _ s
  next s1 walks h =>
    have hs := changes_applyRevise h
    have hw := Changes.ite (p := walks = true) (hs.trans ((changes_runWalk s1).mono (by simp))) hs
    dsimp only
    exact hw.trans ((changes_handLoadResults s.load false _).mono (by simp))

theorem changes_releaseRequest (h : Handle) (s : State) : Changes loadFields s (releaseRequest h s).1 := by
  refine changes_require _ _ ?_
  split
  · exact changes_refuse _ _ s
  next s1 hr =>
    dsimp only
    exact changes_walkedEvent (changes_applyRelease hr)

theorem changes_confirmRequest (h : Handle) (s : State) : Changes loadFields s (confirmRequest h s).1 := by
  unfold confirmRequest
  split
  · exact changes_refuse _ _ s
  · split
    · exact changes_refuse _ _ s
    · dsimp only
      exact changes_loadChange (changes_walkAfter _ s)

theorem changes_renewRequest (h : Handle) (s : State) : Changes loadFields s (renewRequest h s).1 := by
  refine changes_require _ _ ?_
  split
  · exact changes_refuse _ _ s
  · split
    · exact changes_refuse _ _ s
    · split
      · dsimp only
        exact changes_loadChange (changes_walkAfter _ s)
      · exact changes_loadField _ s

theorem changes_commitRequest (s : State) : Changes loadFields s (commitRequest s).1 := by
  refine changes_require _ _ (changes_require _ _ ?_)
  have h := changes_committed (changes_commitChanges s.load.draft s)
  exact Changes.ite h (h.trans ((changes_handLoadResults _ _ _).mono (by simp)))

theorem changes_stage (ok : Bool) (c : Change) (s : State) : Changes loadFields s (stage ok c s).1 :=
  changes_require _ _ (changes_require _ _ (changes_require _ _ (changes_loadField _ s)))

theorem changes_queryRequest (h : Handle) (s : State) : Changes loadFields s (queryRequest h s).1 := by
  unfold queryRequest
  split <;> exact Changes.refl _ s

theorem changes_findRailRequest (rail : Nat) (s : State) : Changes loadFields s (findRailRequest rail s).1 := by
  unfold findRailRequest
  split
  · exact Changes.refl _ s
  · split <;> exact Changes.refl _ s

/-- A load request works on the fields of the Load Manager. -/
theorem changes_loadRequestChange {c : Instr} (h : isLoadRequest c = true) (s : State) : Changes loadFields s (requestChange c s).1 := by
  cases c <;> (try cases h)
  case admitEntry a => exact changes_admitRequest a s
  case stagedAdmit a => exact changes_stage _ _ s
  case revise a => exact changes_reviseRequest a s
  case stagedRevise a => exact changes_stage _ _ s
  case release hd => exact changes_releaseRequest hd s
  case stagedRelease hd => exact changes_stage _ _ s
  case query hd => exact changes_queryRequest hd s
  case findTag tag => exact Changes.refl _ s
  case findRail rail => exact changes_findRailRequest rail s
  case order => exact Changes.refl _ s
  case confirm hd => exact changes_confirmRequest hd s
  case renew hd => exact changes_renewRequest hd s
  case commit => exact changes_commitRequest s
  case discard => exact changes_loadField _ s
  case draftRead => exact Changes.refl _ s

theorem changes_takeCeiling (ceiling : Nat) (s : State) : Changes loadFields s (takeCeiling ceiling s) := by
  unfold takeCeiling
  split
  · exact Changes.refl _ s
  · exact changes_loadChange (changes_walkAfter _ s)

theorem changes_claimSlot0 (requested minimum : Nat) (s : State) : Changes loadFields s (claimSlot0 requested minimum s) := by
  unfold claimSlot0
  split
  · split
    · exact Changes.refl _ s
    · exact Changes.ite (changes_loadField _ s) (changes_walkAfter _ s)
  · exact Changes.refl _ s

theorem changes_walkAfterRaise (L : LoadRec) (a : Attention) (s : State) :
    Changes loadFields s (runWalk (({ s with load := L }).raise a)) :=
  ((changes_load L s).via (changes_raise a _) (hs := loadFields) (by decide) (by decide)).trans ((changes_runWalk _).mono (by simp))

theorem changes_expireGrace (i : Slot) (s : State) : Changes loadFields s (expireGrace i s) := by
  unfold expireGrace
  split
  · split
    · split
      · exact changes_loadChange (changes_walkAfterRaise _ _ s)
      · exact Changes.refl _ s
    · exact Changes.refl _ s
  · exact Changes.refl _ s

theorem changes_expireHoldoff (i : Slot) (s : State) : Changes loadFields s (expireHoldoff i s) := by
  unfold expireHoldoff
  split
  · split
    · exact changes_loadChange (changes_walkAfter _ s)
    · exact Changes.refl _ s
  · exact Changes.refl _ s

theorem changes_lapseEntry (i : Slot) (s : State) : Changes loadFields s (lapseEntry i s) := by
  unfold lapseEntry
  split
  · split
    · split
      · exact Changes.refl _ s
      · exact changes_loadChange (changes_walkAfterRaise _ _ s)
    · exact Changes.refl _ s
  · exact Changes.refl _ s

theorem changes_cutSlots (is : List Slot) (s : State) : Changes loadFields s (cutSlots is s) := by
  unfold cutSlots
  induction is generalizing s with
  | nil => exact Changes.refl _ s
  | cons i is ih => exact ((changes_load _ s).via (changes_raise _ _) (by decide) (by decide)).trans (ih _)

theorem changes_returnSlots (is : List Slot) (s : State) : Changes loadFields s (returnSlots is s) := by
  unfold returnSlots
  induction is generalizing s with
  | nil => exact Changes.refl _ s
  | cons i is ih =>
    refine Changes.trans ?_ (ih _)
    dsimp only
    split
    · exact changes_loadField _ s
    · exact Changes.refl _ s

theorem changes_walkWhenAny (is : List Slot) (s : State) : Changes loadFields s (walkWhenAny is s) :=
  Changes.ite (Changes.refl _ s) ((changes_runWalk s).mono (by simp))

theorem changes_protect (s : State) : Changes loadFields s (protect s) :=
  ((changes_loadField _ s).trans (changes_cutSlots _ _)).trans (changes_walkWhenAny _ _)

theorem changes_lineFailed (n : Line) (s : State) : Changes loadFields s (lineFailed n s) :=
  (((changes_loadField _ s).trans ((changes_raiseAll _ _).mono (by simp))).trans (changes_cutSlots _ _)).trans
    (changes_walkWhenAny _ _)

theorem changes_cutReturn (s : State) : Changes loadFields s (cutReturn s) :=
  (changes_returnSlots _ s).trans (changes_walkWhenAny _ _)

theorem changes_lineReturn (n : Line) (s : State) : Changes loadFields s (lineReturn n s) :=
  ((changes_loadField _ s).trans (changes_returnSlots _ _)).trans (changes_walkWhenAny _ _)

theorem changes_lift (s : State) : Changes loadFields s (lift s) := by
  unfold lift
  exact Changes.ite (changes_walkAfter _ s) (Changes.refl _ s)

/-- A claim taken by the Load Manager works on its fields. -/
theorem changes_loadTakes (c : Instr) (s : State) : Changes loadFields s (loadTakes c s) := by
  unfold loadTakes
  split
  · exact changes_takeCeiling _ s
  · exact (changes_claimSlot0 _ _ s).trans ((changes_handLoadResults _ _ _).mono (by simp))
  · exact (changes_loadChange (changes_protect s)).trans ((changes_hand _ _).mono (by simp))
  · exact changes_loadField _ s
  · exact changes_loadChange (changes_lineFailed _ s)
  · exact (changes_raiseAll _ s).mono (by simp)
  · exact changes_loadChange (changes_cutReturn s)
  · exact changes_loadChange (changes_lineReturn _ s)
  · exact changes_loadChange (changes_lift s)
  · exact changes_loadResetTakes _ s

/-! ### The Supply Controller and the bays -/

theorem changes_supplyField (r : SupplyRec) (s : State) : Changes supplyWork s { s with supply := r } := (changes_supply r s).mono (by simp)

theorem changes_bayField (b : Bay) (g : BayRec → BayRec) (s : State) : Changes supplyWork s (s.modifyBay b g) :=
  (changes_modifyBay b g s).mono (by simp)

theorem changes_raiseSupply (a : Attention) (s : State) : Changes supplyWork s (s.raise a) := (changes_raise a s).mono (by simp)

theorem changes_leverOpened (b : Bay) (s : State) : Changes supplyWork s (leverOpened b s) := by
  unfold leverOpened
  split
  · exact (changes_requestWithdrawal b .lever s).trans (changes_settle _)
  · exact changes_bayField b _ s
  · exact changes_bayField b _ s
  all_goals exact Changes.refl _ s

theorem changes_qualifiedOnline (b : Bay) (s : State) : Changes supplyWork s (qualifiedOnline b s) :=
  (changes_raiseSupply _ s).trans (changes_bringOnline b _)

theorem changes_lockWaiting (b : Bay) (s : State) : Changes supplyWork s (lockWaiting b s) := by
  unfold lockWaiting
  split
  · exact Changes.ite (changes_supplyField _ s) (changes_stopWaiting b s)
  · exact Changes.refl _ s

theorem changes_leverLocked (b : Bay) (s : State) : Changes supplyWork s (leverLocked b s) := by
  unfold leverLocked
  split
  · exact Changes.ite (changes_qualifiedOnline b s) (Changes.refl _ s)
  · exact changes_lockWaiting b s
  · exact Changes.ite (changes_cancelWithdrawal b s) (Changes.refl _ s)
  · exact Changes.ite (changes_relock b s) (Changes.refl _ s)
  all_goals exact Changes.refl _ s

theorem changes_takeLever (b : Bay) (level : Lever) (s : State) : Changes supplyWork s (takeLever b level s) := by
  cases level
  · exact (changes_bayField b _ s).trans (changes_leverLocked b _)
  · exact (changes_bayField b _ s).trans (changes_leverOpened b _)

theorem changes_changeLever (b : Bay) (level : Lever) (s : State) : Changes supplyWork s (changeLever b level s) := by
  unfold changeLever
  split
  · exact Changes.refl _ s
  · exact (changes_bayField b _ s).trans (Changes.ite (changes_bayField b _ _) (changes_takeLever b level _))

theorem changes_makeContact (b : Bay) (s : State) : Changes supplyWork s (makeContact b s) := by
  unfold makeContact
  exact Changes.ite (Changes.refl _ s) ((changes_bayField b _ s).trans (changes_raiseSupply _ _))

theorem changes_loseContact (b : Bay) (s : State) : Changes supplyFields s (loseContact b s) := by
  unfold loseContact
  split
  · exact Changes.refl _ s
  · refine Changes.trans ?_ ((changes_endStart _).mono (by simp))
    refine Changes.mono (fs := supplyWork) ?_ (by simp)
    refine Changes.ite ?_ ?_
    · exact ((changes_bayField b _ s).trans (changes_raiseSupply _ _)).trans (changes_loseBay b _)
    · exact (((changes_bayField b _ s).trans (changes_raiseSupply _ _)).trans (changes_freeSlotOf b _)).trans (changes_settle _)

theorem changes_failAnswer (b : Bay) (s : State) : Changes supplyWork s (failAnswer b s) := by
  have h : Changes supplyWork s (s.setBay b (missStep { s.bay b with candidate := none, answerWindow := none })) :=
    (changes_setBay b _ s).mono (by simp)
  exact Changes.ite (h.trans (changes_raiseSupply _ _)) h

theorem changes_acceptProbing (b : Bay) (c : Condition) (s : State) : Changes supplyWork s (acceptProbing b c s) := by
  unfold acceptProbing
  split
  · exact changes_becomeFaulted b s
  · dsimp only
    split
    · exact (changes_raiseSupply _ s).trans (changes_bayField b _ _)
    · exact (changes_raiseSupply _ s).trans (changes_bringOnline b _)

theorem changes_acceptOnline (b : Bay) (c : Condition) (failed : Bool) (s : State) : Changes supplyWork s (acceptOnline b c failed s) :=
  Changes.ite (changes_faultBay b s) (Changes.ite ((changes_requestWithdrawal b .disconnect s).trans (changes_settle _)) (changes_settle s))

theorem changes_acceptWithdrawing (b : Bay) (c : Condition) (failed : Bool) (s : State) :
    Changes supplyWork s (acceptWithdrawing b c failed s) :=
  Changes.ite (changes_faultBay b s) (Changes.ite ((changes_bayField b _ s).trans (changes_settle _)) (changes_settle s))

theorem changes_reactAccepted (b : Bay) (c : Condition) (failed : Bool) (s : State) : Changes supplyWork s (reactAccepted b c failed s) := by
  unfold reactAccepted
  split
  · exact changes_acceptProbing b c s
  · exact Changes.ite (changes_becomeFaulted b s) (Changes.refl _ s)
  · exact changes_acceptOnline b c failed s
  · exact changes_acceptWithdrawing b c failed s
  all_goals exact Changes.refl _ s

theorem changes_acceptCondition (b : Bay) (c : Condition) (s : State) : Changes supplyWork s (acceptCondition b c s) := by
  have h := changes_bayField b (fun r => ({ r with accepted := some c, requalify := none }).recount) s
  exact (Changes.ite (h.trans (changes_raiseSupply _ _)) h).trans (changes_reactAccepted b c _ _)

theorem changes_linkReturned (b : Bay) (before : BayRec) {otherwise : State → State} {s : State}
    (h : Changes supplyWork s (otherwise s)) : Changes supplyWork s (linkReturned b before otherwise s) :=
  Changes.ite (changes_qualifiedOnline b s) h

theorem changes_hearAnswer (b : Bay) (a : Answer) (s : State) : Changes supplyWork s (hearAnswer b a s) := by
  have h := changes_bayField b (heardBay s.profile a) s
  exact Changes.ite ((h.trans (changes_acceptCondition b _ _)).trans (changes_linkReturned b _ (Changes.refl _ _)))
    (h.trans (changes_linkReturned b _ (changes_settle _)))

theorem changes_takeAnswer (b : Bay) (bytes : List Byte) (s : State) : Changes supplyWork s (takeAnswer b bytes s) := by
  unfold takeAnswer
  split
  · exact Changes.refl _ s
  · split
    · exact changes_hearAnswer b _ s
    · exact changes_failAnswer b s

theorem changes_loseLink (b : Bay) (s : State) : Changes supplyWork s (loseLink b s) := by
  have h := changes_bayField b (fun r => { r with link := some .lost, stepTimer := none }) s
  unfold loseLink
  dsimp only
  split
  · exact h.trans (changes_faultBay b _)
  · exact h.trans (changes_faultBay b _)
  · exact h.trans (changes_faultBay b _)
  all_goals exact h

theorem changes_expireEject (b : Bay) (s : State) : Changes supplyWork s (expireEject b s) := by
  unfold expireEject
  split
  · exact changes_cancelWithdrawal b s
  · exact changes_relock b s
  all_goals exact Changes.refl _ s

theorem changes_askRequalify (b : Bay) (s : State) : Changes supplyWork s (askRequalify b s) :=
  Changes.ite ((changes_bayField b _ s).trans (changes_settle _)) (Changes.refl _ s)

theorem changes_referWaiting (b : Bay) (s : State) : Changes supplyWork s (referWaiting b s) :=
  Changes.ite (Changes.ite (changes_supplyField _ s) (changes_stopWaiting b s)) (Changes.refl _ s)

theorem changes_actDisconnect (b : Bay) (s : State) : Changes supplyWork s (actDisconnect b s) :=
  Changes.ite (changes_requestWithdrawal b .disconnect s) (Changes.refl _ s)

theorem changes_changePolicy (b : Bay) (p : Policy) (s : State) : Changes supplyWork s (changePolicy b p s) := by
  refine Changes.ite (Changes.refl _ s) (Changes.trans ?_ (changes_settle _))
  cases p
  · exact (changes_bayField b _ s).trans (changes_actDisconnect b _)
  · exact (changes_bayField b _ s).trans (changes_referWaiting b _)

/-- A claim or event taken by a Bay Unit works on the fields of the supply side. -/
theorem changes_bayTakes (c : Instr) (s : State) : Changes supplyFields s (bayTakes c s) := by
  unfold bayTakes
  split
  · exact (changes_makeContact _ s).mono (by simp)
  · exact changes_loseContact _ s
  · exact (changes_changePolicy _ _ s).mono (by simp)
  · exact (changes_askRequalify _ s).mono (by simp)
  · exact Changes.refl _ s

theorem changes_takeTotal (total : Nat) (s : State) : Changes supplyWork s (takeTotal total s) :=
  (((changes_supplyField _ s).trans (changes_pathTest _)).trans (changes_pathTest _)).trans (changes_refreshRefill _)

theorem changes_changeInlet (present : Bool) (s : State) : Changes supplyWork s (changeInlet present s) :=
  Changes.ite (Changes.refl _ s) (Changes.ite
    ((((changes_supplyField _ s).trans (changes_endBridging _)).trans (changes_unblock _)).trans (changes_settle _))
    ((changes_supplyField _ s).trans (changes_answerLoss _)))

theorem changes_exhaustBridge (s : State) : Changes supplyWork s (exhaustBridge s) :=
  (changes_stopCarrying s).trans ((changes_hand _ _).mono (by simp))

theorem changes_drain (s : State) : Changes supplyWork s (drain s) := by
  refine Changes.trans (Changes.trans ?_ (changes_unblock _)) (changes_settle _)
  have h1 := changes_supplyField { s.supply with reserve := s.supply.reserve - 1, drainTimer := some (sec 1) } s
  have h2 := Changes.ite (p := s.supply.reserve - 1 = 15) (h1.trans (changes_raiseSupply (.supply .bridgeLow) _)) h1
  exact Changes.ite (h2.trans (changes_exhaustBridge _)) h2

theorem changes_refill (s : State) : Changes supplyWork s (refill s) :=
  ((changes_supplyField _ s).trans (changes_unblock _)).trans (changes_settle _)

theorem changes_takeDeferred (b : Bay) (s : State) : Changes supplyWork s (takeDeferred b s) := by
  unfold takeDeferred
  split
  · exact Changes.refl _ s
  · have h := changes_bayField b (fun r => { r with deferred := none }) s
    exact Changes.ite h (h.trans (changes_takeLever b _ _))

/-- The release of a deferral alone reads the free choice. -/
theorem changes_releaseDeferral (s : State) : Changes (.freeCount :: supplyWork) s (releaseDeferral s) := by
  have hs : Changes (.freeCount :: supplyWork) s { s with supply := { s.supply with deferral := false } } :=
    (changes_supply _ s).mono (by simp)
  have ht : ∀ b u, Changes (.freeCount :: supplyWork) u (takeDeferred b u) := fun b u => (changes_takeDeferred b u).mono (by simp)
  unfold releaseDeferral
  refine hs.trans (Changes.ite (((changes_freeCount (s.freeCount + 1) _).mono (by simp)).trans (Changes.ite ?_ ?_)) ?_)
  · exact (ht .bayA _).trans (ht .bayB _)
  · exact (ht .bayB _).trans (ht .bayA _)
  · exact (ht .bayA _).trans (ht .bayB _)

theorem changes_supplyNotice (st : SystemState) (s : State) : Changes supplyWork s (supplyNotice st s) := by
  cases st
  · exact ((changes_endBridging s).trans (changes_unblock _)).trans (changes_settle _)
  · exact ((Changes.ite (changes_startCarrying s) (Changes.refl _ s)).trans (changes_retest _)).trans (changes_settle _)
  · exact (changes_unblock s).trans (changes_settle _)
  · exact ((Changes.ite (changes_exhaustBridge s) (Changes.refl _ s)).trans (changes_retest _)).trans (changes_settle _)

theorem changes_changeSupplySettings (s : State) : Changes (.bridgeTests :: supplyWork) s (changeSupplySettings s) := by
  have h : Changes (.bridgeTests :: supplyWork) s { s with bridgeTests := s.bridgeTests.tail } :=
    (changes_bridgeTests _ s).mono (by simp)
  exact (h.trans (Changes.ite ((changes_retest _).mono (by simp)) (Changes.refl _ _))).trans ((changes_settle _).mono (by simp))

/-! ### The Backlight Controller -/

theorem changes_lightField (r : LightRec) (s : State) : Changes lightFields s { s with light := r } := (changes_light r s).mono (by simp)

theorem changes_raiseLight (a : Attention) (s : State) : Changes lightFields s (s.raise a) := (changes_raise a s).mono (by simp)

theorem changes_readSensors (front rear : Option Nat) (s : State) : Changes lightFields s (readSensors front rear s) := by
  have h1 := changes_lightField (readLight s.profile front rear s.light) s
  have h2 := Changes.ite (p := (sensorFails front s.light.front || sensorFails rear s.light.rear) = true)
    (h1.trans (changes_raiseLight (.light .sensorFail) _)) h1
  exact Changes.ite h2 (h2.trans (changes_retarget _))

theorem changes_takeAnswerToClaim (s : State) : Changes lightFields s (takeAnswerToClaim s) := by
  have h := changes_lightField { s.light with inFlight := false, nextClaim := none } s
  unfold takeAnswerToClaim
  dsimp only
  split
  · exact Changes.ite h (h.trans (changes_sendClaim _ _))
  · exact h

theorem changes_takeGrant (grant : Nat) (answer : Bool) (s : State) : Changes lightFields s (takeGrant grant answer s) := by
  have h1 := changes_lightField (recap { s.light with grantTaken := grant }) s
  have h2 := Changes.ite (p := answer = true) (h1.trans (changes_takeAnswerToClaim _)) h1
  exact Changes.ite (h2.trans (changes_capTest _)) h2

theorem changes_retargetAfter (r : LightRec) (s : State) : Changes lightFields s (retarget { s with light := r }) :=
  (changes_lightField r s).trans (changes_retarget _)

theorem changes_expirePin (s : State) : Changes lightFields s (expirePin s) :=
  ((changes_lightField _ s).trans (changes_raiseLight _ _)).trans (changes_retarget _)

theorem changes_endFreeze (s : State) : Changes lightFields s (endFreeze s) :=
  Changes.ite (changes_retargetAfter _ s) (changes_lightField _ s)

theorem changes_lightNotice (st : SystemState) (s : State) : Changes lightFields s (lightNotice st s) := by
  cases st
  · exact ((changes_light _ s).via (changes_attention _ _) (hs := lightFields) (by decide) (by decide)).trans (changes_formPair _)
  · exact (changes_lightField _ s).trans (changes_refreshTarget _)
  · exact Changes.refl _ s
  · exact Changes.refl _ s

theorem changes_followSetting (n : Nat) (s : State) : Changes lightFields s (followSetting n s) := by
  unfold followSetting
  repeat' split
  · exact changes_remap s
  · exact (changes_formPair s).trans (changes_capTest _)
  · exact changes_retarget s
  · exact Changes.refl _ s

theorem changes_lightSettingChanged (n : Nat) (s : State) : Changes lightFields s (lightSettingChanged n s) :=
  (changes_lightField _ s).trans (changes_followSetting n _)

theorem changes_lightPartReset (s : State) : Changes lightFields s (lightPartReset s) :=
  ((changes_lightField _ s).trans (changes_lightField _ _)).trans (changes_remap _)

/-- A claim or notice taken by the Backlight Controller works on its fields. -/
theorem changes_lightTakes (c : Instr) (s : State) : Changes lightFields s (lightTakes c s) := by
  unfold lightTakes
  split
  · exact changes_takeGrant _ _ s
  · exact changes_lightField _ s
  · exact Changes.ite (changes_endFreeze s) (Changes.refl _ s)
  · exact changes_lightNotice _ s
  · exact changes_lightSettingChanged _ s
  · exact changes_lightPartReset s
  · exact Changes.refl _ s

/-! ### The Motion Monitor and the Protection Sequencer -/

theorem changes_motionField (r : MotionRec) (s : State) : Changes motionFields s { s with motion := r } :=
  (changes_motion r s).mono (by simp)

theorem changes_takeSample (reading : Option Axes) (s : State) : Changes motionFields s (takeSample reading s) := by
  have h := (changes_motionField (sampleMotion s.profile reading s.motion).1 s).trans
    ((changes_handAll (sampleMotion s.profile reading s.motion).2 _).mono (by simp))
  exact Changes.ite (h.trans ((changes_raise _ _).mono (by simp))) h

/-- A notice taken by the Motion Monitor works on its fields. -/
theorem changes_motionTakes (c : Instr) (s : State) : Changes motionFields s (motionTakes c s) := by
  unfold motionTakes
  split
  next st =>
    cases st
    · exact changes_motionField _ s
    · exact Changes.ite (changes_motionField _ s) (Changes.refl _ s)
    · exact Changes.refl _ s
    · exact changes_motionField _ s
  · exact changes_motionField _ s
  · exact Changes.refl _ s

theorem changes_episodeField (e : EpisodeRec) (s : State) : Changes episodeFields s { s with episode := e } :=
  (changes_episode e s).mono (by simp)

theorem changes_handEpisode (c : Instr) (s : State) : Changes episodeFields s (s.hand c) := (changes_hand c s).mono (by simp)

theorem changes_raiseEpisode (a : Attention) (s : State) : Changes episodeFields s (s.raise a) := (changes_raise a s).mono (by simp)

theorem changes_takeImpact (k : Strike) (s : State) : Changes episodeFields s (takeImpact k s) := by
  have h := Changes.ite (p := s.episode.state ≠ .idle ∨ s.episode.protectPending = true)
    (changes_episodeField { s.episode with cls := maxClass s.episode.cls (strikeClass k) } s) (Changes.refl _ s)
  exact Changes.ite (h.trans (changes_handEpisode .lateClaim _)) h

theorem changes_actOnSettled (s : State) : Changes episodeFields s (actOnSettled s) := by
  unfold actOnSettled
  split
  · exact changes_enterRecovering s
  · exact (changes_episodeField _ s).trans (changes_raiseEpisode _ _)

theorem changes_takeSettled (s : State) : Changes episodeFields s (takeSettled s) := by
  unfold takeSettled
  split
  · exact changes_actOnSettled s
  · exact changes_episodeField _ s
  · exact changes_episodeField _ s
  all_goals exact Changes.refl _ s

theorem changes_takeDisarm (s : State) : Changes episodeFields s (takeDisarm s) := by
  unfold takeDisarm
  split
  · exact changes_episodeField _ s
  · exact changes_enterRecovering s
  · exact changes_enterRecovering s
  all_goals exact Changes.refl _ s

theorem changes_openOnAnswer (s : State) : Changes episodeFields s (openOnAnswer s) :=
  Changes.ite ((changes_episodeField _ s).trans ((changes_handAll _ _).mono (by simp))) (Changes.refl _ s)

theorem changes_actOnHeld (s : State) : Changes episodeFields s (actOnHeld s) :=
  Changes.ite ((changes_episodeField _ s).trans (changes_enterRecovering _))
    (Changes.ite ((changes_episodeField _ s).trans (changes_actOnSettled _)) (Changes.refl _ s))

theorem changes_assertLines (lines : List Line) (s : State) : Changes episodeFields s (lines.foldl assertLine s) := by
  induction lines generalizing s with
  | nil => exact Changes.refl _ s
  | cons n ns ih => exact (changes_assertLine s n).trans (ih _)

theorem changes_takeProtectAnswer (lines : List Line) (s : State) : Changes episodeFields s (takeProtectAnswer lines s) :=
  Changes.ite ((((changes_episodeField _ s).trans (changes_openOnAnswer _)).trans (changes_assertLines lines _)).trans
    (changes_actOnHeld _)) (Changes.refl _ s)

theorem changes_changeDone (n : Line) (active : Bool) (s : State) : Changes episodeFields s (changeDone n active s) := by
  refine Changes.ite (Changes.refl _ s) (Changes.ite ?_ ?_)
  · exact Changes.ite ((changes_episodeField _ s).trans (changes_handEpisode _ _)) (changes_episodeField _ s)
  · have h := changes_episodeField (s.episode.setLine n { s.episode.lines[n] with doneActive := false }) s
    exact Changes.ite (h.trans (changes_finishLift n _)) h

theorem changes_failLine (n : Line) (s : State) : Changes episodeFields s (failLine n s) :=
  (changes_episodeField _ s).trans (changes_handEpisode _ _)

theorem changes_episodeSystemOffClear (s : State) : Changes episodeFields s (episodeSystemOffClear s) :=
  Changes.ite ((changes_episodeField _ s).trans ((changes_handAll _ _).mono (by simp))) (changes_episodeField _ s)

theorem changes_episodePartReset (s : State) : Changes episodeFields s (episodePartReset s) := by
  unfold episodePartReset
  split
  · exact (changes_episodeField _ s).trans (changes_enterRecovering _)
  · exact (changes_episodeField _ s).trans (changes_enterRecovering _)
  · exact Changes.ite ((changes_episodeField _ s).trans (changes_handEpisode _ _)) (Changes.refl _ s)
  · exact Changes.refl _ s

/-- A declaration, an answer or a notice taken by the Sequencer works on its fields. -/
theorem changes_sequencerTakes (c : Instr) (s : State) : Changes episodeFields s (sequencerTakes c s) := by
  unfold sequencerTakes
  split
  · exact (changes_openEpisode s).trans (changes_raiseEpisode _ _)
  · exact (changes_takeImpact _ s).trans (changes_raiseEpisode _ _)
  · exact changes_takeSettled s
  · exact changes_takeDisarm s
  · exact changes_takeProtectAnswer _ s
  · exact changes_episodeSystemOffClear s
  · exact changes_episodePartReset s
  · exact Changes.refl _ s

/-! ### System Power Control and the Profile Store -/

theorem changes_systemTakes (c : Instr) (s : State) : Changes systemFields s (systemTakes c s) := by
  unfold systemTakes
  split
  · exact Changes.ite (Changes.refl _ s) (changes_enterDark s)
  · exact Changes.refl _ s

theorem changes_systemField (r : SystemRec) (s : State) : Changes systemFields s { s with system := r } :=
  (changes_system r s).mono (by simp)

theorem changes_changeButton (down : Bool) (s : State) : Changes systemFields s (changeButton down s) :=
  Changes.ite (Changes.refl _ s) (changes_systemField _ s)

theorem changes_judgePress (s : State) : Changes systemFields s (judgePress s) :=
  Changes.ite (changes_enterState _ s) (changes_systemField _ s)

theorem changes_endStore (passes : Bool) (s : State) : Changes storeFields s (endStore passes s) := by
  unfold endStore
  split
  · exact (changes_store _ s).via (changes_raise _ _) (by decide) (by decide)
  · exact Changes.refl _ s

theorem changes_writeProfile (n : Nat) (q : Profile) (s : State) : Changes storeFields s (writeProfile n q s) := by
  unfold writeProfile
  refine Changes.ite (Changes.refl _ s) ?_
  exact ((changes_store { s.store with working := q } s).via (changes_bridgeTests (s.bridgeTests ++ settingTests n) _)
    (hs := storeFields) (by decide) (by decide)).trans ((changes_handAll _ _).mono (by simp))

theorem changes_profileWriteRequest (n : Nat) (value : List Byte) (s : State) : Changes storeFields s (profileWriteRequest n value s).1 := by
  refine changes_require _ _ (changes_require _ _ (changes_require _ _ ?_))
  split
  · exact changes_refuse _ _ s
  · exact changes_writeProfile n _ s

theorem changes_partResetRequest (s : State) : Changes storeFields s (partResetRequest s).1 := by
  refine changes_require _ _ ?_
  refine Changes.trans ?_ ((changes_handAll _ _).mono (by simp))
  exact ((changes_store { s.store with working := reloadedProfile s.store } s).via
    (changes_attention (resetAttention (reloadDefaults s.store) (reloadedProfile s.store) s.attention) _) (hs := storeFields)
    (by decide) (by decide)).trans ((changes_bridgeTests (s.bridgeTests ++ [false]) _).mono (by simp))

/-! ### Every command -/

/-- The fields that the changes of a command work on, its reply and its outputs left aside. -/
def workFields : Instr → List Field
  | .supplyProfileChange => .bridgeTests :: supplyFields
  | .deferClaim | .releaseClaim => .freeCount :: supplyFields
  | c =>
    if isLoadRequest c || isLoadEvent c then loadFields
    else if isSupplyCommand c then supplyFields
    else if isLightCommand c then lightFields
    else if isMotionCommand c then motionFields
    else if isEpisodeCommand c then episodeFields
    else if isSystemCommand c then systemFields
    else if isStoreCommand c then storeFields
    else [.attention, .handed]

theorem changes_ownEvent {c : Instr} (h : isOwnEvent c = true) (s : State) : Changes (workFields c) s (eventChange c s) := by
  have hr : ∀ fs, Changes fs s s := fun fs => Changes.refl fs s
  cases c <;> (try cases h)
  case graceExpiry i => exact changes_expireGrace i s
  case holdoffExpiry i => exact changes_expireHoldoff i s
  case lapse i => exact changes_lapseEntry i s
  case drainTimerExpiry => exact (Changes.ite (changes_drain s) (hr _)).mono (gs := supplyFields) (by decide)
  case refillTimerExpiry => exact (Changes.ite (changes_refill s) (hr _)).mono (gs := supplyFields) (by decide)
  case leverEvent b level => exact (changes_changeLever b level s).mono (gs := supplyFields) (by decide)
  case conditionQuery b => exact (Changes.ite (changes_bayField b _ s) (hr _)).mono (gs := supplyFields) (by decide)
  case goodAnswer b bytes => exact (changes_takeAnswer b bytes s).mono (gs := supplyFields) (by decide)
  case badAnswer b bytes => exact (changes_takeAnswer b bytes s).mono (gs := supplyFields) (by decide)
  case missedAnswer b => exact (Changes.ite (changes_failAnswer b s) (hr _)).mono (gs := supplyFields) (by decide)
  case probeTimerExpiry b => exact (Changes.ite (changes_becomeFaulted b s) (hr _)).mono (gs := supplyFields) (by decide)
  case linkStepTimerExpiry b => exact (Changes.ite (changes_loseLink b s) (hr _)).mono (gs := supplyFields) (by decide)
  case ejectWindowExpiry b => exact (Changes.ite (changes_expireEject b s) (hr _)).mono (gs := supplyFields) (by decide)
  case requalifyExpiry b => exact (Changes.ite (changes_faultBay b s) (hr _)).mono (gs := supplyFields) (by decide)
  case readEvent front rear => exact Changes.ite (changes_readSensors front rear s) (hr _)
  case rampStep => exact Changes.ite (changes_lightField _ s) (hr _)
  case pinExpiry => exact Changes.ite (changes_expirePin s) (hr _)
  case sampleEvent reading => exact Changes.ite (changes_takeSample reading s) (hr _)
  case doneInputChange n active => exact changes_changeDone n active s
  case parkTimerExpiry n => exact Changes.ite (changes_failLine n s) (hr _)
  case unparkTimerExpiry n => exact Changes.ite (changes_finishLift n s) (hr _)
  case buttonChange down => exact changes_changeButton down s
  case pressTimerExpiry => exact Changes.ite (changes_judgePress s) (hr _)
  case holdTimerExpiry => exact Changes.ite (changes_enterDark s) (hr _)
  case startTimerExpiry => exact Changes.ite (changes_enterDark s) (hr _)
  case stopTimerExpiry => exact Changes.ite (changes_enterDark s) (hr _)
  case storeTimerExpiry passes => exact changes_endStore passes s

theorem changes_plainRequest {c : Instr} (h : isPlainRequest c = true) (s : State) :
    Changes (workFields c) s (requestChange c s).1 := by
  have hr : ∀ fs, Changes fs s s := fun fs => Changes.refl fs s
  have hsettle : ∀ u, Changes supplyWork s u → Changes supplyFields s (settle u) :=
    fun u hu => (hu.trans (changes_settle u)).mono (by decide)
  have hlight : ∀ r, Changes lightFields s (retarget { s with light := r }) := fun r => changes_retargetAfter r s
  cases c <;> (try cases h)
  case bayStatus bay => unfold requestChange bayStatusRequest; dsimp only; split <;> exact hr _
  case reprobe bay =>
    unfold requestChange reprobeRequest
    dsimp only
    split
    · exact hr _
    · exact changes_require _ _ ((changes_bayField _ _ s).mono (gs := supplyFields) (by decide))
  case eject bay =>
    unfold requestChange ejectRequest
    dsimp only
    split
    · exact hr _
    · exact changes_require _ _ (changes_require _ _ (hsettle _ (changes_startWithdrawal _ _ s)))
  case supplyStatus => exact hr _
  case setInlet capability => exact changes_require _ _ (changes_require _ _ (hsettle _ (changes_supplyField _ s)))
  case lightStatus part =>
    unfold requestChange lightStatusRequest
    dsimp only
    split
    · exact hr _
    · split <;> exact hr _
  case curveSet points => exact changes_require _ _ (changes_require _ _ (changes_require _ _ (hlight _)))
  case curveAdd p => exact changes_require _ _ (changes_require _ _ (changes_require _ _ (hlight _)))
  case curveRemove lux => exact changes_require _ _ (hlight _)
  case panel value => exact changes_require _ _ (Changes.ite (hr _) (hlight _))
  case pin level duration => exact changes_require _ _ (hlight _)
  case unpin => exact changes_require _ _ (hlight _)
  case fallStatus => exact hr _
  case arm => exact Changes.ite (hr _) (changes_motionField _ s)
  case disarm => exact (changes_motionField _ s).trans ((changes_hand _ _).mono (by decide))
  case simulateFall => exact changes_require _ _ ((changes_motionField _ s).trans ((changes_hand _ _).mono (by decide)))
  case resume => exact changes_require _ _ (changes_enterRecovering s)
  case ready => exact changes_require _ _ (changes_enterState _ s)
  case powerOff => exact changes_require _ _ (changes_enterState _ s)
  case partReset => exact changes_partResetRequest s
  case profileRead n => unfold requestChange profileReadRequest; dsimp only; split <;> exact hr _
  case profileWrite n value => exact changes_profileWriteRequest n value s
  case profileStore => exact changes_require _ _ ((changes_store _ s).mono (by decide))
  case summary => exact hr _
  case acknowledge source reasons =>
    unfold requestChange acknowledgeRequest
    dsimp only
    split
    · exact changes_require _ _ ((changes_attention _ s).mono (gs := [.attention, .handed]) (by decide))
    · exact hr _
  case mask bytes =>
    unfold requestChange maskRequest
    dsimp only
    split
    · exact hr _
    · exact changes_require _ _ ((changes_attention _ s).mono (gs := [.attention, .handed]) (by decide))

/-- The fields that the claims on a route work on. -/
def routeFields (r : Route) : List Field :=
  match r.receiver with
  | .loadManager => loadFields
  | .supplyController =>
    if r.sender = .profileStore then .bridgeTests :: supplyFields
    else if r.sender = .sequencer then .freeCount :: supplyFields
    else supplyFields
  | .bayUnit _ => supplyFields
  | .backlight => lightFields
  | .motionMonitor => motionFields
  | .sequencer => episodeFields
  | .systemPower => systemFields
  | .inputs | .profileStore | .attention => [.attention, .handed]

theorem workFields_of_route {c : Instr} {r : Route} (h : route c = some r) : workFields c = routeFields r := by
  cases c <;> simp only [route, reduceCtorEq, Option.some.injEq] at h <;> subst h <;> rfl

theorem changes_supplyTakes {c : Instr} {r : Route} (h : route c = some r) (hr : r.receiver = .supplyController) (s : State) :
    Changes (routeFields r) s (supplyTakes c s) := by
  cases c <;> simp only [route, reduceCtorEq, Option.some.injEq] at h <;> subst h <;> try cases hr
  case countedTotalHandover total => exact (changes_takeTotal total s).mono (gs := supplyFields) (by decide)
  case inletEvent present => exact (changes_changeInlet present s).mono (gs := supplyFields) (by decide)
  case deferClaim => exact (changes_supply _ s).mono (gs := .freeCount :: supplyFields) (by decide)
  case releaseClaim => exact (changes_releaseDeferral s).mono (gs := .freeCount :: supplyFields) (by decide)
  case supplyStateNotice st => exact (changes_supplyNotice st s).mono (gs := supplyFields) (by decide)
  case supplyProfileChange => exact (changes_changeSupplySettings s).mono (gs := .bridgeTests :: supplyFields) (by decide)

theorem changes_attentionTakes (c : Instr) (s : State) : Changes [.attention, .handed] s (attentionTakes c s) := by
  unfold attentionTakes
  split
  · exact (changes_attention _ s).mono (by simp)
  · exact Changes.refl _ s

theorem changes_claimChange {c : Instr} {r : Route} (h : route c = some r) (s : State) : Changes (routeFields r) s (claimChange c s) := by
  rw [claimChange_of_route h]
  have ht : Changes (routeFields r) s (s.take c) := by
    refine (changes_take c s).mono ?_
    unfold routeFields
    repeat' split
    all_goals simp
  refine ht.trans ?_
  obtain ⟨sender, receiver⟩ := r
  cases receiver
  case loadManager => exact changes_loadTakes c _
  case supplyController => exact changes_supplyTakes h rfl _
  case bayUnit => exact changes_bayTakes c _
  case backlight => exact changes_lightTakes c _
  case motionMonitor => exact changes_motionTakes c _
  case sequencer => exact changes_sequencerTakes c _
  case attention => exact changes_attentionTakes c _
  case systemPower => exact changes_systemTakes c _
  all_goals exact Changes.refl _ _

theorem workFields_of_loadRequest {c : Instr} (h : isLoadRequest c = true) : workFields c = loadFields := by
  cases c <;> first | rfl | cases h

/-- The fields that an event of a command may change, the outputs left aside. -/
def footprint (c : Instr) : List Field := (if isRequest c then [.port] else []) ++ workFields c

theorem isRequest_of_named {c : Instr} (h : isPlainRequest c = true ∨ isLoadRequest c = true) : isRequest c = true := by
  cases c <;> simp_all [isPlainRequest, isRequest, isLoadRequest]

theorem isRequest_of_isFrame {c : Instr} (h : isFrame c = true) : isRequest c = true := by
  cases c <;> first | rfl | cases h

theorem workFields_subset_footprint (c : Instr) : workFields c ⊆ footprint c := List.subset_append_right _ _

/-- Outside its footprint an event of a command leaves the state as it was. -/
theorem changes_part {c : Instr} {f : State → State} (hf : PartOf c f) (hc : isAnyRecord c = false) (s : State) :
    Changes (footprint c) s (f s) := by
  have hsub : ∀ f, f ∈ workFields c → f ∈ footprint c := fun f hf => workFields_subset_footprint c hf
  cases hf with
  | port h p => exact (changes_port _ s).mono (by simp [footprint, isRequest_of_isFrame h])
  | framed _ _ => cases hc
  | request h =>
    have hw : Changes (workFields c) s (requestChange c s).1 := by
      rcases h with h | h
      · exact changes_plainRequest h s
      · rw [workFields_of_loadRequest h]
        exact changes_loadRequestChange h s
    exact hw.via (changes_port _ _) (workFields_subset_footprint c) (by simp [footprint, isRequest_of_named h])
  | reset h hd =>
    refine (changes_claimChange (route_of_isLoadReset hd) s).mono fun f hf => hsub f ?_
    rw [workFields_of_loadRequest h]
    exact hf
  | claim h hd => exact (changes_claimChange hd s).mono fun f hf => hsub f (workFields_of_route h ▸ hf)
  | own h => exact (changes_ownEvent h s).mono hsub

/-- Outside its footprint and the outputs a command leaves the state as it was. -/
theorem changes_exec {c : Instr} {s t : State} (h : exec c s = .next t) (hc : isAnyRecord c = false) :
    Changes (footprint c ++ eventFields) s t := by
  refine Chain.within (Changes.refl _) (fun _ _ _ => Changes.trans) (fun f hf s => ?_) (chain_of_exec ?_ h)
  · exact changes_eventState (changes_part hf hc) s
  · rintro x rfl
    cases hc

/-! ### What no command touches -/

/-- Every command answers a next state. -/
theorem exec_next (c : Instr) (s : State) : ∃ t, exec c s = .next t := by
  have hnamed : ∀ d, isPlainRequest d = true ∨ isLoadRequest d = true → ∃ t, exec d s = .next t := by
    rintro d (h | h)
    · exact ⟨_, exec_plainRequest h s⟩
    · exact ⟨_, exec_loadRequest h s⟩
  rcases command_cases c with h | h | h | ⟨r, h⟩ | h | ⟨x, rfl⟩
  · cases c <;> simp only [isFrame, Bool.false_eq_true] at h
    case frame bytes =>
      rcases frameTaken_exec bytes s with hf | ⟨p, hf⟩ | ⟨d, hd, hf⟩
      · exact ⟨_, hf⟩
      · exact ⟨_, hf⟩
      · exact hf ▸ hnamed d hd
    case moreFollowsFrame code args =>
      obtain ⟨p, hp⟩ := exec_moreFollowsFrame_eq code args s
      exact ⟨_, hp⟩
  · exact hnamed c (.inl h)
  · exact hnamed c (.inr h)
  · exact ⟨_, exec_claim h s⟩
  · exact ⟨_, exec_ownEvent h s⟩
  · exact ⟨_, rfl⟩

/-- No command works on the queue, and two claims alone on the free choice. -/
theorem not_mem_footprint (c : Instr) :
    Field.pending ∉ footprint c ++ eventFields ∧
    (c ≠ .releaseClaim → c ≠ .deferClaim → Field.freeCount ∉ footprint c ++ eventFields) := by
  cases c <;> simp [footprint, workFields, isRequest, isLoadRequest, isLoadEvent, isSupplyCommand, isLightCommand, isMotionCommand,
    isEpisodeCommand, isSystemCommand, isStoreCommand]

/-- What a frame carries is a request of its own, whose footprint the frame has. -/
theorem queue_of_exec {c : Instr} {s t : State} (h : exec c s = .next t) :
    t.pending = s.pending ∧ (c ≠ .releaseClaim → c ≠ .deferClaim → t.freeCount = s.freeCount) := by
  have hc : ∀ d, isAnyRecord d = false → exec d s = .next t →
      t.pending = s.pending ∧ (d ≠ .releaseClaim → d ≠ .deferClaim → t.freeCount = s.freeCount) := fun d hd h =>
    ⟨changes_exec h hd .pending (not_mem_footprint d).1, fun h1 h2 => changes_exec h hd .freeCount ((not_mem_footprint d).2 h1 h2)⟩
  cases hany : isAnyRecord c with
  | false => exact hc c hany h
  | true =>
    cases c <;> simp only [isAnyRecord, Bool.false_eq_true] at hany
    case frame bytes =>
      rcases frameTaken_exec bytes s with hf | ⟨p, hf⟩ | ⟨d, hd, hf⟩
      · rw [hf] at h
        injection h with h
        simp [← h]
      · rw [hf] at h
        injection h with h
        have hk := changes_eventState (fun s => changes_port (p s.port) s) s
        exact h ▸ ⟨hk .pending (by decide), fun _ _ => hk .freeCount (by decide)⟩
      · have hn : isAnyRecord d = false := by rcases hd with hd | hd <;> cases d <;> first | rfl | cases hd
        have hd1 : d ≠ .releaseClaim := by rintro rfl; rcases hd with hd | hd <;> cases hd
        have hd2 : d ≠ .deferClaim := by rintro rfl; rcases hd with hd | hd <;> cases hd
        exact ⟨(hc d hn (hf ▸ h)).1, fun _ _ => (hc d hn (hf ▸ h)).2 hd1 hd2⟩
    case powerOnReset x =>
      injection h with h
      exact h ▸ ⟨rfl, fun _ _ => rfl⟩

/-- Settles O3: every command is one event after another within its footprint, to which neither the queue nor, but for the two claims of a
deferral, the free choice belongs. -/
theorem everyCommandAnswersNext : Obligations.EveryCommandAnswersNext := by
  intro c s
  obtain ⟨t, h⟩ := exec_next c s
  exact ⟨t, h, queue_of_exec h⟩

end Sys2Proof.Machine
end

section
/-!
PROOFS. Sums, lists and branches: general facts that the parts below share.
-/
namespace Sys2Proof.Machine

theorem sum_eq_zero_of_forall {l : List Nat} (h : ∀ n ∈ l, n = 0) : l.sum = 0 := by
  induction l with
  | nil => rfl
  | cons n l ih => rw [List.sum_cons, h n List.mem_cons_self, ih fun m hm => h m (List.mem_cons_of_mem n hm)]

theorem sum_map_le_sum_map {α : Type} {l : List α} {f g : α → Nat} (h : ∀ a ∈ l, f a ≤ g a) : (l.map f).sum ≤ (l.map g).sum := by
  induction l with
  | nil => exact Nat.le_refl _
  | cons a l ih =>
    rw [List.map_cons, List.map_cons, List.sum_cons, List.sum_cons]
    exact Nat.add_le_add (h a List.mem_cons_self) (ih fun b hb => h b (List.mem_cons_of_mem a hb))

theorem filterMap_congr_of_mem {α β : Type} {l : List α} {f g : α → Option β} (h : ∀ a ∈ l, f a = g a) :
    l.filterMap f = l.filterMap g := by
  induction l with
  | nil => rfl
  | cons a l ih =>
    rw [List.filterMap_cons, List.filterMap_cons, h a List.mem_cons_self, ih fun b hb => h b (List.mem_cons_of_mem a hb)]

theorem ite_of_iff {α : Type} {p q : Prop} [Decidable p] [Decidable q] (h : p ↔ q) {x y : α} :
    (if p then x else y) = if q then x else y := ite_congr (propext h) (fun _ => rfl) fun _ => rfl

end Sys2Proof.Machine
end

section
/-!
PROOFS. The budget walk (R28 to R32): what each pass gives an entry by its place, what a round gives in all, and what the rounds make of the eligible
members. The statement assembled from them: O31.
-/
namespace Sys2Proof.Machine

/-! ### The first pass (R29) -/

/-- The grants of a first pass, front to back. -/
def firstGrants (freeze : Bool) (h : Int) (es : List (Slot × Entry)) : List Nat := (firstPass freeze h es).1.map fun x => x.2.2

@[simp] theorem firstPass_nil (freeze : Bool) (h : Int) : firstPass freeze h [] = ([], h) := rfl

theorem firstPass_cons (freeze : Bool) (h : Int) (i : Slot) (e : Entry) (es : List (Slot × Entry)) :
    firstPass freeze h ((i, e) :: es) =
      ((i, e, firstGrant freeze h e) :: (firstPass freeze (h - firstGrant freeze h e) es).1,
        (firstPass freeze (h - firstGrant freeze h e) es).2) := rfl

theorem firstGrants_cons (freeze : Bool) (h : Int) (i : Slot) (e : Entry) (es : List (Slot × Entry)) :
    firstGrants freeze h ((i, e) :: es) = firstGrant freeze h e :: firstGrants freeze (h - firstGrant freeze h e) es := rfl

/-- The first pass visits every entry in its place. -/
theorem firstPass_entries (freeze : Bool) (h : Int) (es : List (Slot × Entry)) :
    (firstPass freeze h es).1.map (fun x => (x.1, x.2.1)) = es := by
  induction es generalizing h with
  | nil => rfl
  | cons x es ih =>
    obtain ⟨i, e⟩ := x
    simp [firstPass_cons, ih]

theorem firstPass_left (freeze : Bool) (h : Int) (es : List (Slot × Entry)) :
    (firstPass freeze h es).2 = h - ((firstGrants freeze h es).sum : Nat) := by
  induction es generalizing h with
  | nil => simp [firstGrants]
  | cons x es ih =>
    obtain ⟨i, e⟩ := x
    rw [firstPass_cons, firstGrants_cons]
    simp only [ih, List.sum_cons]
    push_cast
    omega

theorem length_firstGrants (freeze : Bool) (h : Int) (es : List (Slot × Entry)) : (firstGrants freeze h es).length = es.length := by
  have hl := congrArg List.length (firstPass_entries freeze h es)
  simpa [firstGrants] using hl

/-- R29: what the first pass gives the entry at a place, by the headroom that those before it have left. -/
theorem firstPass_getElem? (freeze : Bool) (h : Int) (es : List (Slot × Entry)) (n : Nat) {i : Slot} {e : Entry} (hn : es[n]? = some (i, e)) :
    (firstPass freeze h es).1[n]? = some (i, e, firstGrant freeze (h - (((firstGrants freeze h es).take n).sum : Nat)) e) := by
  induction es generalizing h n with
  | nil => simp at hn
  | cons x es ih =>
    obtain ⟨j, d⟩ := x
    rw [firstPass_cons, firstGrants_cons]
    cases n with
    | zero =>
      simp only [List.getElem?_cons_zero, Option.some.injEq, Prod.mk.injEq] at hn
      obtain ⟨rfl, rfl⟩ := hn
      simp
    | succ n =>
      simp only [List.getElem?_cons_succ] at hn ⊢
      rw [ih _ n hn]
      simp only [List.take_succ_cons, List.sum_cons]
      push_cast
      rw [Int.sub_sub]

/-! ### The second pass (R30) -/

/-- By how much the second pass raises each entry, front to back. -/
def secondRaises (freeze : Bool) : Int → List (Slot × Entry × Nat) → List Nat
  | _, [] => []
  | h, (_, e, g) :: xs => secondRaise freeze h e g :: secondRaises freeze (h - secondRaise freeze h e g) xs

theorem secondPass_cons (freeze : Bool) (h : Int) (i : Slot) (e : Entry) (g : Nat) (xs : List (Slot × Entry × Nat)) :
    secondPass freeze h ((i, e, g) :: xs) =
      (i, e, g + secondRaise freeze h e g) :: secondPass freeze (h - secondRaise freeze h e g) xs := rfl

theorem length_secondRaises (freeze : Bool) (h : Int) (xs : List (Slot × Entry × Nat)) : (secondRaises freeze h xs).length = xs.length := by
  induction xs generalizing h with
  | nil => rfl
  | cons x xs ih => simp [secondRaises, ih]

/-- The second pass visits every entry in its place. -/
theorem secondPass_entries (freeze : Bool) (h : Int) (xs : List (Slot × Entry × Nat)) :
    (secondPass freeze h xs).map (fun x => (x.1, x.2.1)) = xs.map fun x => (x.1, x.2.1) := by
  induction xs generalizing h with
  | nil => rfl
  | cons x xs ih =>
    obtain ⟨i, e, g⟩ := x
    simp [secondPass_cons, ih]

/-- R30: by how much the second pass raises the entry at a place, by the headroom that those before it have left. -/
theorem secondPass_getElem? (freeze : Bool) (h : Int) (xs : List (Slot × Entry × Nat)) (n : Nat) {i : Slot} {e : Entry} {g : Nat}
    (hn : xs[n]? = some (i, e, g)) :
    (secondPass freeze h xs)[n]? = some (i, e, g + (secondRaises freeze h xs).getD n 0) ∧
    (secondRaises freeze h xs).getD n 0 = secondRaise freeze (h - (((secondRaises freeze h xs).take n).sum : Nat)) e g := by
  induction xs generalizing h n with
  | nil => simp at hn
  | cons x xs ih =>
    obtain ⟨j, d, k⟩ := x
    rw [secondPass_cons, secondRaises]
    cases n with
    | zero =>
      simp only [List.getElem?_cons_zero, Option.some.injEq, Prod.mk.injEq] at hn
      obtain ⟨rfl, rfl, rfl⟩ := hn
      simp
    | succ n =>
      simp only [List.getElem?_cons_succ, List.getD_cons_succ] at hn ⊢
      obtain ⟨h1, h2⟩ := ih (h - secondRaise freeze h d k) n hn
      refine ⟨h1, h2.trans ?_⟩
      simp only [List.take_succ_cons, List.sum_cons]
      push_cast
      rw [Int.sub_sub]

/-- The raises of a second pass come to no more than the headroom. -/
theorem sum_secondRaises_le (freeze : Bool) {h : Int} (hh : 0 ≤ h) (xs : List (Slot × Entry × Nat)) :
    (((secondRaises freeze h xs).sum : Nat) : Int) ≤ h := by
  induction xs generalizing h with
  | nil => simpa [secondRaises] using hh
  | cons x xs ih =>
    obtain ⟨i, e, g⟩ := x
    have hr : (secondRaise freeze h e g : Int) ≤ h := by
      unfold secondRaise
      split <;> omega
    have := ih (h := h - secondRaise freeze h e g) (by omega)
    simp only [secondRaises, List.sum_cons]
    omega

theorem sum_secondPass (freeze : Bool) (h : Int) (xs : List (Slot × Entry × Nat)) :
    ((secondPass freeze h xs).map fun x => x.2.2).sum = (xs.map fun x => x.2.2).sum + (secondRaises freeze h xs).sum := by
  induction xs generalizing h with
  | nil => rfl
  | cons x xs ih =>
    obtain ⟨i, e, g⟩ := x
    simp only [secondPass_cons, secondRaises, List.map_cons, List.sum_cons, ih]
    omega

/-! ### A round -/

theorem walkRound_entries (freeze : Bool) (h : Int) (es : List (Slot × Entry)) :
    (walkRound freeze h es).map (fun x => (x.1, x.2.1)) = es := by
  unfold walkRound
  dsimp only
  rw [secondPass_entries, firstPass_entries]

theorem length_walkRound (freeze : Bool) (h : Int) (es : List (Slot × Entry)) : (walkRound freeze h es).length = es.length := by
  simpa using congrArg List.length (walkRound_entries freeze h es)

/-- R29, R32: a first-pass grant is nothing, or the minimum where the freeze lets it be. -/
theorem firstGrant_cases (freeze : Bool) (h : Int) (e : Entry) :
    firstGrant freeze h e = 0 ∨ (firstGrant freeze h e = e.minimum ∧ (freeze = true → e.minimum ≤ upperLimit freeze e)) := by
  unfold firstGrant
  split
  · exact .inl rfl
  next hf =>
    have hlim : freeze = true → e.minimum ≤ upperLimit freeze e := fun hfr => by
      refine Classical.byContradiction fun hlt => ?_
      exact hf ⟨hfr, by omega⟩
    split
    · exact .inr ⟨rfl, hlim⟩
    · split
      · exact .inr ⟨rfl, hlim⟩
      · exact .inl rfl

/-- R29, R30, R32: a grant that a round may give an entry: nothing, or at least the minimum and at most the limit. An entry whose minimum lies
above its limit, which R3 forbids, would get its minimum outside the freeze. -/
def GrantFits (freeze : Bool) (e : Entry) (g : Nat) : Prop :=
  g = 0 ∨ (e.minimum ≤ g ∧ (g ≤ upperLimit freeze e ∨ (freeze = false ∧ g = e.minimum)))

theorem grantFits_raised (freeze : Bool) (h k : Int) (e : Entry) :
    GrantFits freeze e (firstGrant freeze h e + secondRaise freeze k e (firstGrant freeze h e)) := by
  unfold secondRaise
  rcases firstGrant_cases freeze h e with h0 | ⟨hm, hlim⟩
  · rw [h0]
    exact .inl (by split <;> omega)
  · rw [hm]
    refine .inr ?_
    split
    · exact ⟨by omega, .inl (by omega)⟩
    · refine ⟨by omega, ?_⟩
      cases freeze with
      | true => exact .inl (by simpa using hlim rfl)
      | false => exact .inr ⟨rfl, by omega⟩

/-- Every grant of a round fits its entry. -/
theorem grantFits_of_mem_walkRound {freeze : Bool} {h : Int} {es : List (Slot × Entry)} {x : Slot × Entry × Nat}
    (hx : x ∈ walkRound freeze h es) : GrantFits freeze x.2.1 x.2.2 := by
  obtain ⟨n, hn⟩ := List.mem_iff_getElem?.mp hx
  have hes : es[n]? = some (x.1, x.2.1) := by
    rw [← walkRound_entries freeze h es, List.getElem?_map, hn]
    rfl
  have hf := firstPass_getElem? freeze h es n hes
  obtain ⟨hs, hr⟩ := secondPass_getElem? freeze (firstPass freeze h es).2 _ n hf
  have hxe : x = (x.1, x.2.1, _) := Option.some.inj (hn.symm.trans hs)
  rw [show x.2.2 = _ from congrArg (fun y => y.2.2) hxe, hr]
  exact grantFits_raised _ _ _ _

/-- The minimums of the entries of rank 0. -/
def floorSum (es : List (Slot × Entry)) : Nat := (es.map fun x => if x.2.rank = 0 then x.2.minimum else 0).sum

/-- R9: entries in the order of their ranks. -/
def ByRank (es : List (Slot × Entry)) : Prop := es.Pairwise fun x y => x.2.rank ≤ y.2.rank

theorem floorSum_eq_zero {es : List (Slot × Entry)} (h : ∀ x ∈ es, x.2.rank ≠ 0) : floorSum es = 0 := by
  unfold floorSum
  refine sum_eq_zero_of_forall ?_
  intro n hn
  obtain ⟨x, hx, rfl⟩ := List.mem_map.mp hn
  simp [h x hx]

theorem firstGrant_le_of_rank_ne_zero {freeze : Bool} {h : Int} {e : Entry} (hr : e.rank ≠ 0) (hh : 0 ≤ h) :
    (firstGrant freeze h e : Int) ≤ h := by
  unfold firstGrant
  split
  · simpa using hh
  · split
    next hm => exact hm
    · simpa using hh

theorem firstGrant_le_minimum (freeze : Bool) (h : Int) (e : Entry) : firstGrant freeze h e ≤ e.minimum := by
  rcases firstGrant_cases freeze h e with h0 | ⟨hm, -⟩ <;> omega

/-- R29: where the floor of rank 0 fits the headroom, the whole first pass does. -/
theorem sum_firstGrants_le (freeze : Bool) {h : Int} {es : List (Slot × Entry)} (hs : ByRank es) (hf : (floorSum es : Int) ≤ h) :
    (((firstGrants freeze h es).sum : Nat) : Int) ≤ h := by
  induction es generalizing h with
  | nil => simpa [firstGrants, floorSum] using hf
  | cons x es ih =>
    obtain ⟨i, e⟩ := x
    obtain ⟨hx, hs⟩ := List.pairwise_cons.mp hs
    have hcons : floorSum ((i, e) :: es) = (if e.rank = 0 then e.minimum else 0) + floorSum es := by simp [floorSum]
    rw [hcons] at hf
    rw [firstGrants_cons, List.sum_cons]
    have hle := firstGrant_le_minimum freeze h e
    have hrest : ((floorSum es : Nat) : Int) ≤ h - firstGrant freeze h e := by
      by_cases hr : e.rank = 0
      · rw [if_pos hr] at hf
        push_cast at hf
        omega
      · have h0 : floorSum es = 0 := floorSum_eq_zero fun y hy => by
          have hxy := hx y hy
          simp only at hxy
          omega
        rw [if_neg hr, h0] at hf
        rw [h0]
        have := firstGrant_le_of_rank_ne_zero (freeze := freeze) hr (h := h) (by simpa using hf)
        omega
    have := ih hs hrest
    omega

/-- R29, R30: where the floor of rank 0 fits the headroom, the whole round does. -/
theorem sum_walkRound_le (freeze : Bool) {h : Int} {es : List (Slot × Entry)} (hs : ByRank es) (hf : (floorSum es : Int) ≤ h) :
    ((((walkRound freeze h es).map fun x => x.2.2).sum : Nat) : Int) ≤ h := by
  unfold walkRound
  dsimp only
  rw [sum_secondPass]
  have h1 := sum_firstGrants_le freeze hs hf
  have hl := firstPass_left freeze h es
  have h2 := sum_secondRaises_le freeze (h := (firstPass freeze h es).2) (by omega) (firstPass freeze h es).1
  have h3 : ((firstPass freeze h es).1.map fun x => x.2.2).sum = (firstGrants freeze h es).sum := rfl
  rw [h3]
  omega

/-! ### The rounds (R31) -/

theorem loweredThrottled_eq (x : Slot × Entry × Nat) :
    loweredThrottled x = decide (x.2.1.kind = .throttled ∧ x.2.2 < x.2.1.granted) := by
  unfold loweredThrottled
  by_cases h : x.2.1.kind = .throttled <;> simp [h]

/-- The rounds over no entry give nothing. -/
theorem walkRounds_succ (freeze : Bool) (ceiling fuel total : Nat) (es : List (Slot × Entry)) :
    walkRounds freeze ceiling (fuel + 1) total es =
      if ((walkRound freeze ((ceiling : Int) - (total : Int)) es).filter loweredThrottled).isEmpty then
        ((walkRound freeze ((ceiling : Int) - (total : Int)) es).filter fun x => !loweredThrottled x).map fun x => ⟨x.1, x.2.2, false⟩
      else (((walkRound freeze ((ceiling : Int) - (total : Int)) es).filter loweredThrottled).map fun x => ⟨x.1, x.2.2, true⟩) ++
        walkRounds freeze ceiling fuel
          (total + (((walkRound freeze ((ceiling : Int) - (total : Int)) es).filter loweredThrottled).map fun x => x.2.1.counted).sum)
          (((walkRound freeze ((ceiling : Int) - (total : Int)) es).filter fun x => !loweredThrottled x).map fun x => (x.1, x.2.1)) := rfl

theorem filter_not_of_filter_empty {α : Type} {p : α → Bool} {xs : List α} (h : xs.filter p = []) : (xs.filter fun x => !p x) = xs := by
  rw [List.filter_eq_self]
  intro x hx
  have := List.filter_eq_nil_iff.mp h x hx
  simpa using this

/-- A round that lowers an entry leaves fewer for the next. -/
theorem length_kept_lt {freeze : Bool} {h : Int} {es : List (Slot × Entry)}
    (hlow : (walkRound freeze h es).filter loweredThrottled ≠ []) :
    (((walkRound freeze h es).filter fun x => !loweredThrottled x).map fun x => (x.1, x.2.1)).length < es.length := by
  rw [List.length_map, ← length_walkRound freeze h es]
  obtain ⟨x, hx⟩ := List.exists_mem_of_ne_nil _ hlow
  obtain ⟨hx, hp⟩ := List.mem_filter.mp hx
  refine List.length_filter_lt_length_iff_exists.mpr ⟨x, hx, by simp [hp]⟩

/-- R31: fuel beyond the number of entries is never used up. -/
theorem walkRounds_fuel (freeze : Bool) (ceiling : Nat) {f g total : Nat} {es : List (Slot × Entry)} (hf : es.length < f) (hg : es.length < g) :
    walkRounds freeze ceiling f total es = walkRounds freeze ceiling g total es := by
  induction f generalizing g total es with
  | zero => omega
  | succ f ih =>
    obtain ⟨g, rfl⟩ : ∃ k, g = k + 1 := ⟨g - 1, by omega⟩
    rw [walkRounds_succ, walkRounds_succ]
    split
    · rfl
    next hlow =>
      have hlt := length_kept_lt (by simpa using hlow)
      rw [ih (g := g) (by omega) (by omega)]

/-- A grant of the walk with the entry it is for. -/
structure EntryGrant where
  slot : Slot
  entry : Entry
  grant : Nat
  intoGrace : Bool

namespace EntryGrant

/-- The result that the walk records of a grant. -/
def result (x : EntryGrant) : GrantResult := ⟨x.slot, x.grant, x.intoGrace⟩

/-- The member that a grant is for. -/
def member (x : EntryGrant) : Slot × Entry := (x.slot, x.entry)

/-- R31: what the entry counts behind its grant. -/
def counts (x : EntryGrant) : Nat := if x.intoGrace then x.entry.counted else x.grant

/-- R47: what the entry adds to the overcommit sum behind its grant. -/
def floor (x : EntryGrant) : Nat := if x.intoGrace then x.entry.counted else if x.entry.rank = 0 then x.entry.minimum else 0

/-- The grant of a round, with whether it puts its entry into grace. -/
def ofRound (intoGrace : Bool) (x : Slot × Entry × Nat) : EntryGrant := ⟨x.1, x.2.1, x.2.2, intoGrace⟩

/-- R29 to R32: what holds of each grant of a walk. -/
structure Fits (freeze : Bool) (x : EntryGrant) : Prop where
  grant : GrantFits freeze x.entry x.grant
  grace : x.intoGrace = true → x.entry.kind = .throttled ∧ x.grant < x.entry.granted

end EntryGrant

/-- R28 to R31: what the rounds over entries give: a grant for each, fitting it; and where the floor of what is left fits the ceiling, so do the
counts of all. -/
structure RoundsGive (freeze : Bool) (ceiling total : Nat) (es : List (Slot × Entry)) (xs : List EntryGrant) : Prop where
  results : ∀ fuel, es.length < fuel → walkRounds freeze ceiling fuel total es = xs.map EntryGrant.result
  members : (xs.map EntryGrant.member).Perm es
  fits : ∀ x ∈ xs, x.Fits freeze
  total : total + (xs.map EntryGrant.floor).sum ≤ ceiling → ByRank es → total + (xs.map EntryGrant.counts).sum ≤ ceiling

theorem roundsGive_last {freeze : Bool} {ceiling total : Nat} {es : List (Slot × Entry)}
    (hlow : (walkRound freeze ((ceiling : Int) - (total : Int)) es).filter loweredThrottled = []) :
    RoundsGive freeze ceiling total es ((walkRound freeze ((ceiling : Int) - (total : Int)) es).map (EntryGrant.ofRound false)) where
  results := fun fuel hf => by
    obtain ⟨k, rfl⟩ : ∃ k, fuel = k + 1 := ⟨fuel - 1, by omega⟩
    rw [walkRounds_succ, hlow, if_pos List.isEmpty_nil, filter_not_of_filter_empty hlow, List.map_map]
    rfl
  members := by
    rw [List.map_map]
    exact List.Perm.of_eq (walkRound_entries freeze _ es)
  fits := fun x hx => by
    obtain ⟨y, hy, rfl⟩ := List.mem_map.mp hx
    exact ⟨grantFits_of_mem_walkRound hy, fun hc => absurd hc (by simp [EntryGrant.ofRound])⟩
  total := fun hfloor hs => by
    have hfl : (((walkRound freeze ((ceiling : Int) - (total : Int)) es).map (EntryGrant.ofRound false)).map EntryGrant.floor).sum =
        floorSum es := by
      conv => rhs; rw [← walkRound_entries freeze ((ceiling : Int) - (total : Int)) es]
      simp only [floorSum, List.map_map]
      rfl
    have hsum := sum_walkRound_le freeze (h := (ceiling : Int) - (total : Int)) hs (by omega)
    have hc : (((walkRound freeze ((ceiling : Int) - (total : Int)) es).map (EntryGrant.ofRound false)).map EntryGrant.counts).sum =
        ((walkRound freeze ((ceiling : Int) - (total : Int)) es).map fun x => x.2.2).sum := by
      rw [List.map_map]
      rfl
    omega

theorem roundsGive_further {freeze : Bool} {ceiling total : Nat} {es : List (Slot × Entry)} {low keep : List (Slot × Entry × Nat)}
    (hl : low = (walkRound freeze ((ceiling : Int) - (total : Int)) es).filter loweredThrottled)
    (hk : keep = (walkRound freeze ((ceiling : Int) - (total : Int)) es).filter fun x => !loweredThrottled x) (hlow : low ≠ [])
    {xs : List EntryGrant}
    (hx : RoundsGive freeze ceiling (total + (low.map fun x => x.2.1.counted).sum) (keep.map fun x => (x.1, x.2.1)) xs) :
    RoundsGive freeze ceiling total es (low.map (EntryGrant.ofRound true) ++ xs) where
  results := fun fuel hf => by
    obtain ⟨k, rfl⟩ : ∃ k, fuel = k + 1 := ⟨fuel - 1, by omega⟩
    have hlt := length_kept_lt (hl ▸ hlow)
    rw [← hk] at hlt
    rw [walkRounds_succ, ← hl, ← hk, if_neg (by simpa using hlow), hx.results k (by omega), List.map_append, List.map_map]
    rfl
  members := by
    have hp : ((low.map fun x => (x.1, x.2.1)) ++ keep.map fun x => (x.1, x.2.1)).Perm es := by
      rw [← List.map_append]
      conv => rhs; rw [← walkRound_entries freeze ((ceiling : Int) - (total : Int)) es]
      refine List.Perm.map _ ?_
      rw [hl, hk]
      exact List.filter_append_perm _ _
    rw [List.map_append, List.map_map]
    exact (hx.members.append_left _).trans hp
  fits := fun x hm => by
    rcases List.mem_append.mp hm with hm | hm
    · obtain ⟨y, hy, rfl⟩ := List.mem_map.mp hm
      rw [hl] at hy
      obtain ⟨hy, hp⟩ := List.mem_filter.mp hy
      rw [loweredThrottled_eq, decide_eq_true_eq] at hp
      exact ⟨grantFits_of_mem_walkRound hy, fun _ => hp⟩
    · exact hx.fits x hm
  total := fun hfloor hs => by
    have hsub : (keep.map fun x => (x.1, x.2.1)).Sublist es := by
      conv => rhs; rw [← walkRound_entries freeze ((ceiling : Int) - (total : Int)) es]
      rw [hk]
      exact List.filter_sublist.map _
    have hf : ((low.map (EntryGrant.ofRound true)).map EntryGrant.floor).sum = (low.map fun x => x.2.1.counted).sum := by
      rw [List.map_map]
      rfl
    have hc : ((low.map (EntryGrant.ofRound true)).map EntryGrant.counts).sum = (low.map fun x => x.2.1.counted).sum := by
      rw [List.map_map]
      rfl
    rw [List.map_append, List.sum_append, hf] at hfloor
    rw [List.map_append, List.sum_append, hc]
    have := hx.total (by omega) (hs.sublist hsub)
    omega

/-- R31: the rounds come to an end, and what they have given by then. -/
theorem exists_roundsGive (freeze : Bool) (ceiling total : Nat) (es : List (Slot × Entry)) : ∃ xs, RoundsGive freeze ceiling total es xs := by
  by_cases hlow : (walkRound freeze ((ceiling : Int) - (total : Int)) es).filter loweredThrottled = []
  · exact ⟨_, roundsGive_last hlow⟩
  · have hlt := length_kept_lt hlow
    obtain ⟨xs, hxs⟩ := exists_roundsGive freeze ceiling
      (total + (((walkRound freeze ((ceiling : Int) - (total : Int)) es).filter loweredThrottled).map fun x => x.2.1.counted).sum)
      (((walkRound freeze ((ceiling : Int) - (total : Int)) es).filter fun x => !loweredThrottled x).map fun x => (x.1, x.2.1))
    exact ⟨_, roundsGive_further rfl rfl hlow hxs⟩
termination_by es.length
decreasing_by exact hlt

/-! ### The walk over a table -/

/-- R28: the members that take part in the passes. -/
def eligibleMembers (L : LoadRec) : List (Slot × Entry) := L.members.filter fun p => p.2.eligible

/-- R28, R42: the grace values that a walk starts with. -/
def graceTotal (L : LoadRec) : Nat := (L.members.map fun p => p.2.graceValue).sum

/-- R28: what a walk over a table gives. -/
abbrev WalkGives (L : LoadRec) (xs : List EntryGrant) : Prop := RoundsGive L.freeze L.ceiling (graceTotal L) (eligibleMembers L) xs

theorem exists_walkGives (L : LoadRec) : ∃ xs, WalkGives L xs := exists_roundsGive _ _ _ _

theorem WalkGives.walkResults_eq {L : LoadRec} {xs : List EntryGrant} (h : WalkGives L xs) :
    walkResults L = xs.map EntryGrant.result := h.results _ (Nat.lt_succ_self _)

/-! ### The statement -/

theorem firstGrant_eq (freeze : Bool) (h : Int) (e : Entry) :
    firstGrant freeze h e = (if freeze = true ∧ (if freeze then min e.requested e.granted else e.requested) < e.minimum then 0
      else if e.rank = 0 ∨ (e.minimum : Int) ≤ h then e.minimum else 0) := by
  unfold firstGrant upperLimit
  by_cases hr : e.rank = 0 <;> simp [hr]

/-- R30: the raise of the second pass reads the first-pass grant alone. -/
theorem secondRaise_of_firstGrant (freeze : Bool) (h k : Int) (e : Entry) :
    secondRaise freeze k e (firstGrant freeze h e) =
      if 0 < firstGrant freeze h e ∧ firstGrant freeze h e < (if freeze then min e.requested e.granted else e.requested) then
        min ((if freeze then min e.requested e.granted else e.requested) - firstGrant freeze h e) k.toNat else 0 := by
  unfold secondRaise upperLimit
  rcases firstGrant_cases freeze h e with h0 | ⟨hm, -⟩
  · simp [h0]
  · simp [hm]

theorem walkRound_places (freeze : Bool) (h : Int) (es : List (Slot × Entry)) :
    let limit : Entry → Nat := fun e => if freeze then min e.requested e.granted else e.requested
    ∃ first more : List Nat, first.length = es.length ∧ more.length = es.length ∧
      (walkRound freeze h es).length = es.length ∧
      ∀ n i e, es[n]? = some (i, e) →
        let f := first.getD n 0
        let left := h - ((first.take n).sum : Nat)
        let spare := h - (first.sum : Nat) - ((more.take n).sum : Nat)
        (walkRound freeze h es)[n]? = some (i, e, f + more.getD n 0) ∧
        f = (if freeze = true ∧ limit e < e.minimum then 0 else if e.rank = 0 ∨ (e.minimum : Int) ≤ left then e.minimum else 0) ∧
        more.getD n 0 = (if 0 < f ∧ f < limit e then min (limit e - f) spare.toNat else 0) := by
  refine ⟨firstGrants freeze h es, secondRaises freeze (firstPass freeze h es).2 (firstPass freeze h es).1, length_firstGrants freeze h es,
    ?_, length_walkRound freeze h es, ?_⟩
  · rw [length_secondRaises]
    simpa using congrArg List.length (firstPass_entries freeze h es)
  · intro n i e hn
    have hf := firstPass_getElem? freeze h es n hn
    have hg : (firstGrants freeze h es).getD n 0 = firstGrant freeze (h - (((firstGrants freeze h es).take n).sum : Nat)) e := by
      rw [List.getD_eq_getElem?_getD]
      conv => lhs; rw [firstGrants, List.getElem?_map, hf]
      rfl
    obtain ⟨hs, hr⟩ := secondPass_getElem? freeze (firstPass freeze h es).2 _ n hf
    dsimp only
    rw [hg]
    refine ⟨hs, firstGrant_eq _ _ _, ?_⟩
    rw [hr, secondRaise_of_firstGrant, firstPass_left]

theorem loweredThrottled_funext :
    loweredThrottled = fun x : Slot × Entry × Nat => decide (x.2.1.kind = .throttled ∧ x.2.2 < x.2.1.granted) :=
  funext loweredThrottled_eq

theorem eligible_eq (e : Entry) : e.eligible = decide (e.grace = none ∧ ¬(e.state = .shed ∧ e.holdoff ≠ none)) := by
  unfold Entry.eligible
  cases e.grace <;> cases e.holdoff <;> by_cases hs : e.state = .shed <;> simp [hs]

theorem graceValue_eq (e : Entry) : e.graceValue = (e.grace.map Grace.value).getD 0 := by
  unfold Entry.graceValue
  cases e.grace <;> rfl

/-- Settles O31: the places of a round, the rounds by their fuel, and the grants of a walk slot by slot. -/
theorem walkGivesItsGrants : Obligations.WalkGivesItsGrants := by
  refine ⟨walkRound_places, fun freeze ceiling total es => ?rounds, fun L => ⟨?results, ?slots⟩⟩
  case rounds =>
    dsimp only
    rw [← loweredThrottled_funext]
    refine ⟨fun hlow => ?_, fun hlow => ?_⟩
    · rw [walkRounds_succ, hlow, if_pos List.isEmpty_nil, filter_not_of_filter_empty hlow]
    · rw [walkRounds_succ, if_neg (by simpa using hlow)]
      have hk : (((walkRound freeze ((ceiling : Int) - (total : Int)) es).filter fun x =>
            !decide (x.2.1.kind = .throttled ∧ x.2.2 < x.2.1.granted)).map fun x => (x.1, x.2.1)) =
          (((walkRound freeze ((ceiling : Int) - (total : Int)) es).filter fun x => !loweredThrottled x).map fun x => (x.1, x.2.1)) := by
        rw [loweredThrottled_funext]
      rw [hk, walkRounds_fuel freeze ceiling (g := es.length) (Nat.lt_succ_self _) (length_kept_lt hlow)]
  case results =>
    simp only [← eligible_eq, ← graceValue_eq]
    rfl
  case slots =>
    obtain ⟨xs, hxs⟩ := exists_walkGives L
    simp only [← eligible_eq]
    rw [hxs.walkResults_eq, List.map_map]
    have h := hxs.members.map Prod.fst
    rw [List.map_map] at h
    exact h.symm

end Sys2Proof.Machine
end

section
/-!
PROOFS. The Grant Order (R9, R10): a change that keeps rank, sequence and membership keeps the law of the order, and so do a slot that leaves and
one that joins at the place its rank and sequence give.
-/
namespace Sys2Proof.Machine

/-! ### Rank and sequence -/

theorem precedes_iff (a b : Entry) : precedes a b = true ↔ a.rank < b.rank ∨ (a.rank = b.rank ∧ a.sequence < b.sequence) := by
  simp [precedes]

theorem not_precedes_self (e : Entry) : precedes e e = false := by simp [precedes]

theorem precedes_trans {a b c : Entry} (h : precedes a b = true) (k : precedes b c = true) : precedes a c = true := by
  rw [precedes_iff] at *
  omega

theorem precedes_of_not {a b : Entry} (h : precedes a b = false) (hs : a.sequence ≠ b.sequence) : precedes b a = true := by
  rw [precedes_iff]
  rw [Bool.eq_false_iff, ne_eq, precedes_iff] at h
  omega

theorem precedes_congr {a b a' b' : Entry} (ha : a'.rank = a.rank ∧ a'.sequence = a.sequence) (hb : b'.rank = b.rank ∧ b'.sequence = b.sequence) :
    precedes a' b' = precedes a b := by simp [precedes, ha, hb]

/-- What the Grant Order reads of an entry. -/
def Entry.place (e : Entry) : Nat × Nat × Bool := (e.rank, e.sequence, e.state.isMember)

theorem Entry.place_eq_iff (a b : Entry) :
    a.place = b.place ↔ a.rank = b.rank ∧ a.sequence = b.sequence ∧ a.state.isMember = b.state.isMember := by simp [Entry.place]

/-- Two tables whose orders are one and whose entries have the same places in it. -/
structure SamePlaces (L M : LoadRec) : Prop where
  order : M.order = L.order
  counter : M.counter = L.counter
  entry : ∀ i, (M.entry i).map Entry.place = (L.entry i).map Entry.place

namespace SamePlaces

variable {L M : LoadRec}

theorem back (h : SamePlaces L M) {i : Slot} {e : Entry} (he : M.entry i = some e) : ∃ d, L.entry i = some d ∧ e.place = d.place := by
  have hi := h.entry i
  rw [he, Option.map_some] at hi
  obtain ⟨d, hd, hk⟩ := Option.map_eq_some_iff.mp hi.symm
  exact ⟨d, hd, hk.symm⟩

theorem symm (h : SamePlaces L M) : SamePlaces M L := ⟨h.order.symm, h.counter.symm, fun i => (h.entry i).symm⟩

theorem before (h : SamePlaces L M) {i j : Slot} (hb : Before L i j) : Before M i j := by
  obtain ⟨ei, ej, hi, hj, hp⟩ := hb
  obtain ⟨di, hdi, hki⟩ := h.symm.back hi
  obtain ⟨dj, hdj, hkj⟩ := h.symm.back hj
  rw [Entry.place_eq_iff] at hki hkj
  exact ⟨di, dj, hdi, hdj, (precedes_congr ⟨hki.1.symm, hki.2.1.symm⟩ ⟨hkj.1.symm, hkj.2.1.symm⟩).trans hp⟩

theorem members (h : SamePlaces L M) {i : Slot} (hm : ∃ e, L.entry i = some e ∧ e.state.isMember = true) :
    ∃ e, M.entry i = some e ∧ e.state.isMember = true := by
  obtain ⟨e, he, hs⟩ := hm
  obtain ⟨d, hd, hk⟩ := h.symm.back he
  exact ⟨d, hd, ((Entry.place_eq_iff _ _).mp hk).2.2 ▸ hs⟩

/-- R9, R13: the law of the Grant Order reads the places alone. -/
theorem grantOrder (h : SamePlaces L M) (hL : GrantOrderLaw L) : GrantOrderLaw M where
  members := fun i => by
    rw [h.order, hL.members]
    exact ⟨h.members, h.symm.members⟩
  sorted := by
    rw [h.order]
    exact hL.sorted.imp h.before
  unique := fun i j ei ej hi hj hs => by
    obtain ⟨di, hdi, hki⟩ := h.back hi
    obtain ⟨dj, hdj, hkj⟩ := h.back hj
    rw [Entry.place_eq_iff] at hki hkj
    exact hL.unique i j di dj hdi hdj (hki.2.1.symm.trans (hs.trans hkj.2.1))
  below := fun i e he => by
    obtain ⟨d, hd, hk⟩ := h.back he
    rw [((Entry.place_eq_iff _ _).mp hk).2.1, h.counter]
    exact hL.below i d hd
  backlight := by
    obtain ⟨e, he, hs⟩ := hL.backlight
    obtain ⟨d, hd, hk⟩ := h.symm.back he
    exact ⟨d, hd, ((Entry.place_eq_iff _ _).mp hk).2.1 ▸ hs⟩
  counter := h.counter ▸ hL.counter

end SamePlaces

/-- What the Grant Order and the rails read of an entry. -/
def Entry.key (e : Entry) : (Nat × Nat × Bool) × Option (Fin 12) := (e.place, e.rail)

theorem Entry.key_eq_iff (a b : Entry) :
    a.key = b.key ↔ a.rank = b.rank ∧ a.sequence = b.sequence ∧ a.state.isMember = b.state.isMember ∧ a.rail = b.rail := by
  simp [Entry.key, Entry.place_eq_iff, and_assoc]

/-- Two tables whose orders are one and whose entries have the same keys. -/
structure SameKeys (L M : LoadRec) : Prop where
  order : M.order = L.order
  counter : M.counter = L.counter
  entry : ∀ i, (M.entry i).map Entry.key = (L.entry i).map Entry.key

namespace SameKeys

variable {L M : LoadRec}

theorem back (h : SameKeys L M) {i : Slot} {e : Entry} (he : M.entry i = some e) : ∃ d, L.entry i = some d ∧ e.key = d.key := by
  have hi := h.entry i
  rw [he, Option.map_some] at hi
  obtain ⟨d, hd, hk⟩ := Option.map_eq_some_iff.mp hi.symm
  exact ⟨d, hd, hk.symm⟩

theorem places (h : SameKeys L M) : SamePlaces L M where
  order := h.order
  counter := h.counter
  entry := fun i => by
    have hi := congrArg (Option.map Prod.fst) (h.entry i)
    rwa [Option.map_map, Option.map_map] at hi

theorem grantOrder (h : SameKeys L M) (hL : GrantOrderLaw L) : GrantOrderLaw M := h.places.grantOrder hL

/-- R11: the uniqueness of the rails reads the keys alone. -/
theorem rails (h : SameKeys L M)
    (hL : ∀ i j ei ej, L.entry i = some ei → L.entry j = some ej → ei.rail.isSome = true → ei.rail = ej.rail → i = j) :
    ∀ i j ei ej, M.entry i = some ei → M.entry j = some ej → ei.rail.isSome = true → ei.rail = ej.rail → i = j := by
  intro i j ei ej hi hj hs hr
  obtain ⟨di, hdi, hki⟩ := h.back hi
  obtain ⟨dj, hdj, hkj⟩ := h.back hj
  rw [Entry.key_eq_iff] at hki hkj
  exact hL i j di dj hdi hdj (hki.2.2.2 ▸ hs) (hki.2.2.2.symm.trans (hr.trans hkj.2.2.2))

end SameKeys

/-- A record replaced by one of the same place. -/
theorem samePlaces_setEntry {L : LoadRec} {i : Slot} {e d : Entry} (he : L.entry i = some e) (hk : d.place = e.place) :
    SamePlaces L (L.setEntry i (some d)) where
  order := rfl
  counter := rfl
  entry := fun j => by
    rw [LoadRec.entry_setEntry]
    split
    next h => rw [h, he, Option.map_some, Option.map_some, hk]
    · rfl

/-- A record replaced by one of the same key. -/
theorem sameKeys_setEntry {L : LoadRec} {i : Slot} {e d : Entry} (he : L.entry i = some e) (hk : d.key = e.key) :
    SameKeys L (L.setEntry i (some d)) where
  order := rfl
  counter := rfl
  entry := fun j => by
    rw [LoadRec.entry_setEntry]
    split
    next h => rw [h, he, Option.map_some, Option.map_some, hk]
    · rfl

/-- A change of every record leaves the rest of the table. -/
theorem LoadRec.order_mapEntries (L : LoadRec) (f : Slot → Entry → Entry) : (L.mapEntries f).order = L.order := by simp only [LoadRec.mapEntries]
theorem LoadRec.counter_mapEntries (L : LoadRec) (f : Slot → Entry → Entry) : (L.mapEntries f).counter = L.counter := by simp only [LoadRec.mapEntries]

/-- Every record changed, its key kept. -/
theorem sameKeys_mapEntries {L : LoadRec} {f : Slot → Entry → Entry} (hk : ∀ i e, L.entry i = some e → (f i e).key = e.key) :
    SameKeys L (L.mapEntries f) where
  order := L.order_mapEntries f
  counter := L.counter_mapEntries f
  entry := fun i => by
    rw [LoadRec.entry_mapEntries, Option.map_map]
    cases he : L.entry i with
    | none => rfl
    | some e => simp [hk i e he]

/-! ### The order as a list -/

theorem not_before_self (L : LoadRec) (i : Slot) : ¬Before L i i := by
  rintro ⟨e, d, he, hd, hp⟩
  rw [he, Option.some.injEq] at hd
  rw [hd, not_precedes_self] at hp
  cases hp

/-- R9: no slot stands twice in the Grant Order. -/
theorem nodup_of_before {L : LoadRec} {l : List Slot} (h : l.Pairwise (Before L)) : l.Nodup :=
  h.imp fun {i j} hij => by
    rintro rfl
    exact not_before_self L i hij

theorem GrantOrderLaw.nodup {L : LoadRec} (h : GrantOrderLaw L) : L.order.Nodup := nodup_of_before h.sorted

/-- R9, R13, R14: the law of a Grant Order in which one slot has yet to find its place. -/
structure OrderWithout (i : Slot) (L : LoadRec) : Prop where
  members : ∀ j, j ∈ L.order ↔ j ≠ i ∧ ∃ e, L.entry j = some e ∧ e.state.isMember = true
  sorted : L.order.Pairwise (Before L)
  unique : ∀ i j ei ej, L.entry i = some ei → L.entry j = some ej → ei.sequence = ej.sequence → i = j
  below : ∀ i e, L.entry i = some e → e.sequence < L.counter
  backlight : ∃ e, L.entry 0 = some e ∧ e.sequence = 0
  counter : 1 ≤ L.counter ∧ L.counter ≤ counterLimit

theorem before_congr {L M : LoadRec} {i j k : Slot} (h : ∀ j, j ≠ k → M.entry j = L.entry j) (hi : i ≠ k) (hj : j ≠ k) (hb : Before L i j) :
    Before M i j := by
  obtain ⟨ei, ej, he, hd, hp⟩ := hb
  exact ⟨ei, ej, (h i hi).trans he, (h j hj).trans hd, hp⟩

/-- R10: a slot has left the order: its record may be another, of the same sequence, or gone. -/
theorem GrantOrderLaw.without {L M : LoadRec} (hL : GrantOrderLaw L) {i : Slot} (ho : M.order = L.order.filter fun j => j != i)
    (hc : M.counter = L.counter) (hother : ∀ j, j ≠ i → M.entry j = L.entry j)
    (hself : (i ≠ 0 ∧ M.entry i = none) ∨ ∃ e d, L.entry i = some e ∧ M.entry i = some d ∧ d.sequence = e.sequence) : OrderWithout i M where
  members := fun j => by
    rw [ho, List.mem_filter, hL.members]
    simp only [bne_iff_ne, ne_eq]
    constructor
    · rintro ⟨⟨e, he, hs⟩, hj⟩
      exact ⟨hj, e, (hother j hj).trans he, hs⟩
    · rintro ⟨hj, e, he, hs⟩
      exact ⟨⟨e, (hother j hj) ▸ he, hs⟩, hj⟩
  sorted := by
    rw [ho]
    have hp := (hL.sorted.sublist (List.filter_sublist (p := fun j => j != i)))
    exact hp.imp_of_mem fun {a b} ha hb hab => before_congr hother (by simpa using (List.mem_filter.mp ha).2)
      (by simpa using (List.mem_filter.mp hb).2) hab
  unique := fun a b ea eb ha hb hs => by
    have hback : ∀ j e, M.entry j = some e → ∃ d, L.entry j = some d ∧ e.sequence = d.sequence := by
      intro j e hj
      by_cases hji : j = i
      · subst hji
        rcases hself with ⟨-, hn⟩ | ⟨e0, d, he0, hd, hseq⟩
        · rw [hn] at hj
          cases hj
        · rw [hd, Option.some.injEq] at hj
          exact ⟨e0, he0, hj ▸ hseq⟩
      · exact ⟨e, (hother j hji) ▸ hj, rfl⟩
    obtain ⟨da, hda, hka⟩ := hback a ea ha
    obtain ⟨db, hdb, hkb⟩ := hback b eb hb
    exact hL.unique a b da db hda hdb (hka.symm.trans (hs.trans hkb))
  below := fun j e hj => by
    rw [hc]
    by_cases hji : j = i
    · subst hji
      rcases hself with ⟨-, hn⟩ | ⟨e0, d, he0, hd, hseq⟩
      · rw [hn] at hj
        cases hj
      · rw [hd, Option.some.injEq] at hj
        rw [← hj, hseq]
        exact hL.below j e0 he0
    · exact hL.below j e ((hother j hji) ▸ hj)
  backlight := by
    obtain ⟨e, he, hs⟩ := hL.backlight
    by_cases h0 : (0 : Slot) = i
    · subst h0
      rcases hself with ⟨hne, -⟩ | ⟨e0, d, he0, hd, hseq⟩
      · exact absurd rfl hne
      · rw [he, Option.some.injEq] at he0
        exact ⟨d, hd, by rw [hseq, ← he0, hs]⟩
    · exact ⟨e, (hother 0 h0).trans he, hs⟩
  counter := hc ▸ hL.counter

/-- A slot that is no member needs no place. -/
theorem OrderWithout.complete {L : LoadRec} {i : Slot} (h : OrderWithout i L)
    (hi : ∀ e, L.entry i = some e → e.state.isMember = false) : GrantOrderLaw L where
  members := fun j => by
    rw [h.members]
    refine ⟨fun hj => hj.2, fun hj => ⟨?_, hj⟩⟩
    rintro rfl
    obtain ⟨e, he, hs⟩ := hj
    rw [hi e he] at hs
    cases hs
  sorted := h.sorted
  unique := h.unique
  below := h.below
  backlight := h.backlight
  counter := h.counter

/-- R10: the place before the first member that an entry precedes keeps the order sorted. -/
theorem pairwise_insertBefore {L : LoadRec} {i : Slot} {e : Entry} (he : L.entry i = some e) {l : List Slot}
    (hl : l.Pairwise (Before L)) (hother : ∀ j ∈ l, ∃ d, L.entry j = some d ∧ d.sequence ≠ e.sequence) :
    (insertBefore L i e l).Pairwise (Before L) := by
  induction l with
  | nil => simp [insertBefore]
  | cons j js ih =>
    obtain ⟨hj, hjs⟩ := List.pairwise_cons.mp hl
    obtain ⟨d, hd, hseq⟩ := hother j (by simp)
    have ih := ih hjs fun k hk => hother k (by simp [hk])
    simp only [insertBefore, hd]
    split
    next hp =>
      have hij : Before L i j := ⟨e, d, he, hd, hp⟩
      refine List.pairwise_cons.mpr ⟨fun k hk => ?_, hl⟩
      rcases List.mem_cons.mp hk with rfl | hk
      · exact hij
      · obtain ⟨d', ek, hd', hek, hpk⟩ := hj k hk
        rw [hd, Option.some.injEq] at hd'
        exact ⟨e, ek, he, hek, precedes_trans hp (hd' ▸ hpk)⟩
    next hp =>
      have hji : Before L j i := ⟨d, e, hd, he, precedes_of_not (Bool.eq_false_iff.mpr hp) hseq.symm⟩
      refine List.pairwise_cons.mpr ⟨fun k hk => ?_, ih⟩
      rcases (mem_insertBefore L i e js k).mp hk with rfl | hk
      · exact hji
      · exact hj k hk

/-- R10: a member that joins finds its place. -/
theorem OrderWithout.join {L : LoadRec} {i : Slot} (h : OrderWithout i L) {e : Entry} (he : L.entry i = some e)
    (hs : e.state.isMember = true) : GrantOrderLaw (L.join i e) where
  members := fun j => by
    rw [LoadRec.mem_join, h.members, LoadRec.entry_join]
    constructor
    · rintro (rfl | ⟨-, hj⟩)
      · exact ⟨e, he, hs⟩
      · exact hj
    · intro hj
      by_cases hji : j = i
      · exact .inl hji
      · exact .inr ⟨hji, hj⟩
  sorted := by
    refine pairwise_insertBefore (L := L) he h.sorted fun j hj => ?_
    obtain ⟨hji, d, hd, -⟩ := (h.members j).mp hj
    exact ⟨d, hd, fun hseq => hji (h.unique j i d e hd he hseq)⟩
  unique := h.unique
  below := h.below
  backlight := h.backlight
  counter := h.counter

/-! ### The members -/

theorem LoadRec.mem_members {L : LoadRec} {i : Slot} {e : Entry} : (i, e) ∈ L.members ↔ i ∈ L.order ∧ L.entry i = some e := by
  simp only [LoadRec.members, List.mem_filterMap, Option.map_eq_some_iff, Prod.mk.injEq]
  constructor
  · rintro ⟨j, hj, d, hd, rfl, rfl⟩
    exact ⟨hj, hd⟩
  · rintro ⟨hi, he⟩
    exact ⟨i, hi, e, he, rfl, rfl⟩

/-- The slots of the members, in order, are those of the order that are live. -/
theorem LoadRec.members_slots_sublist (L : LoadRec) : (L.members.map Prod.fst).Sublist L.order := by
  have h : ∀ l : List Slot, ((l.filterMap fun i => (L.entry i).map fun e => (i, e)).map Prod.fst).Sublist l := by
    intro l
    induction l with
    | nil => simp
    | cons i l ih =>
      cases he : L.entry i with
      | none => simpa [he] using ih.cons i
      | some e => simpa [he] using ih
  exact h L.order

theorem GrantOrderLaw.members_nodup {L : LoadRec} (h : GrantOrderLaw L) : (L.members.map Prod.fst).Nodup :=
  h.nodup.sublist L.members_slots_sublist

/-- R9: the members stand by rank. -/
theorem GrantOrderLaw.byRank {L : LoadRec} (h : GrantOrderLaw L) : ByRank L.members := by
  have hl : ∀ l : List Slot, l.Pairwise (Before L) → ByRank (l.filterMap fun i => (L.entry i).map fun e => (i, e)) := by
    intro l hl
    induction l with
    | nil => simp [ByRank]
    | cons i l ih =>
      obtain ⟨hi, hl⟩ := List.pairwise_cons.mp hl
      cases he : L.entry i with
      | none => simpa [he] using ih hl
      | some e =>
        simp only [List.filterMap_cons, he, Option.map_some]
        refine List.pairwise_cons.mpr ⟨fun x hx => ?_, ih hl⟩
        obtain ⟨j, hj, hx⟩ := List.mem_filterMap.mp hx
        obtain ⟨d, hd, rfl⟩ := Option.map_eq_some_iff.mp hx
        obtain ⟨e', d', he', hd', hp⟩ := hi j hj
        rw [he, Option.some.injEq] at he'
        rw [hd, Option.some.injEq] at hd'
        subst he' hd'
        rw [precedes_iff] at hp
        show e.rank ≤ d.rank
        omega
  exact hl L.order h.sorted

/-! ### The counted total -/

/-- R4: what a slot counts. -/
def LoadRec.countedAt (L : LoadRec) (i : Slot) : Nat :=
  match L.entry i with
  | some e => e.counted
  | none => 0

theorem LoadRec.countedTotal_eq (L : LoadRec) : L.countedTotal = ((List.finRange 24).map L.countedAt).sum := rfl

theorem sum_countedAt_order (L : LoadRec) (l : List Slot) :
    (l.map L.countedAt).sum = ((l.filterMap fun i => (L.entry i).map fun e => (i, e)).map fun p => p.2.counted).sum := by
  induction l with
  | nil => rfl
  | cons i l ih => cases he : L.entry i <;> simp [LoadRec.countedAt, he, ih]

/-- R4: where no slot outside the order counts, the counted total is that of the members. -/
theorem countedTotal_eq_members {L : LoadRec} (hnd : L.order.Nodup) (hout : ∀ i, i ∉ L.order → L.countedAt i = 0) :
    L.countedTotal = (L.members.map fun p => p.2.counted).sum := by
  have hp : (L.order ++ (List.finRange 24).filter fun i => i ∉ L.order).Perm (List.finRange 24) := by
    rw [List.perm_ext_iff_of_nodup _ (List.nodup_finRange 24)]
    · intro i
      by_cases hi : i ∈ L.order <;> simp [hi]
    · refine List.nodup_append.mpr ⟨hnd, (List.nodup_finRange 24).filter _, fun i hi j hj hij => ?_⟩
      subst hij
      simpa [hi] using (List.mem_filter.mp hj).2
  have hz : (((List.finRange 24).filter fun i => i ∉ L.order).map L.countedAt).sum = 0 := by
    refine sum_eq_zero_of_forall ?_
    intro n hn
    obtain ⟨i, hi, rfl⟩ := List.mem_map.mp hn
    exact hout i (by simpa using (List.mem_filter.mp hi).2)
  rw [LoadRec.countedTotal_eq, ← (hp.map L.countedAt).sum_nat, List.map_append, List.sum_append, hz, sum_countedAt_order]
  rfl

end Sys2Proof.Machine
end

section
/-!
PROOFS. What a walk leaves of a table whose Grant Order keeps its law (R28, R34, R47): the record of every slot, the counted total within the ceiling
or overcommit declared, and with it the law of the whole table. The statement assembled from the walk: O32.
-/
namespace Sys2Proof.Machine

/-! ### The record of every slot -/

theorem LoadRec.entry_walked (p : Profile) (L : LoadRec) (i : Slot) :
    (L.walked p).entry i = ((walkResults L).foldl (LoadRec.applyResult p) L).entry i := rfl

/-- R47: the end of a walk sets or clears the overcommit condition. -/
theorem LoadRec.overcommit_walked (p : Profile) (L : LoadRec) :
    (L.walked p).overcommit = decide ((L.walked p).ceiling < (L.walked p).overcommitSum) := rfl

/-- R34: where no two grants of a result name one slot, each is what becomes of its entry. -/
theorem LoadRec.entry_applyResults_of_mem (p : Profile) {rs : List GrantResult} (hnd : (rs.map GrantResult.slot).Nodup) {r : GrantResult}
    (hr : r ∈ rs) (L : LoadRec) : (rs.foldl (LoadRec.applyResult p) L).entry r.slot = (L.entry r.slot).map (applyGrant p r) := by
  induction rs generalizing L with
  | nil => cases hr
  | cons q rs ih =>
    obtain ⟨hq, hnd⟩ := List.nodup_cons.mp hnd
    rw [List.foldl_cons]
    rcases List.mem_cons.mp hr with rfl | hr
    · rw [LoadRec.entry_applyResults_of_not_mem _ _ _ _ fun x hx hs => hq (List.mem_map.mpr ⟨x, hx, hs⟩), LoadRec.entry_applyResult,
        if_pos rfl]
    · have hne : r.slot ≠ q.slot := fun hs => hq (List.mem_map.mpr ⟨r, hr, hs⟩)
      rw [ih hnd hr, LoadRec.entry_applyResult, if_neg hne]

namespace WalkGives

variable {L : LoadRec} {xs : List EntryGrant}

theorem mem_eligible (h : WalkGives L xs) {x : EntryGrant} (hx : x ∈ xs) : x.member ∈ eligibleMembers L :=
  h.members.mem_iff.mp (List.mem_map_of_mem hx)

theorem mem_order (h : WalkGives L xs) {x : EntryGrant} (hx : x ∈ xs) : x.slot ∈ L.order :=
  (LoadRec.mem_members.mp (List.mem_filter.mp (h.mem_eligible hx)).1).1

theorem entry (h : WalkGives L xs) {x : EntryGrant} (hx : x ∈ xs) : L.entry x.slot = some x.entry :=
  (LoadRec.mem_members.mp (List.mem_filter.mp (h.mem_eligible hx)).1).2

theorem eligible (h : WalkGives L xs) {x : EntryGrant} (hx : x ∈ xs) : x.entry.eligible = true := (List.mem_filter.mp (h.mem_eligible hx)).2

theorem exists_of_member (h : WalkGives L xs) {i : Slot} {e : Entry} (hi : i ∈ L.order) (he : L.entry i = some e) (hel : e.eligible = true) :
    ∃ x ∈ xs, x.slot = i ∧ x.entry = e := by
  have hm : (i, e) ∈ xs.map EntryGrant.member :=
    h.members.mem_iff.mpr (List.mem_filter.mpr ⟨LoadRec.mem_members.mpr ⟨hi, he⟩, hel⟩)
  obtain ⟨x, hx, hxe⟩ := List.mem_map.mp hm
  exact ⟨x, hx, congrArg Prod.fst hxe, congrArg Prod.snd hxe⟩

theorem slots_nodup (h : WalkGives L xs) (hL : GrantOrderLaw L) : (xs.map EntryGrant.slot).Nodup := by
  have hp := h.members.map Prod.fst
  rw [List.map_map] at hp
  exact hp.nodup_iff.mpr (hL.members_nodup.sublist (List.filter_sublist.map _))

theorem results_nodup (h : WalkGives L xs) (hL : GrantOrderLaw L) : ((walkResults L).map GrantResult.slot).Nodup := by
  rw [h.walkResults_eq, List.map_map]
  exact h.slots_nodup hL

theorem result_mem (h : WalkGives L xs) {x : EntryGrant} (hx : x ∈ xs) : x.result ∈ walkResults L := by
  rw [h.walkResults_eq]
  exact List.mem_map_of_mem hx

theorem exists_of_result (h : WalkGives L xs) {r : GrantResult} (hr : r ∈ walkResults L) : ∃ x ∈ xs, r = x.result := by
  rw [h.walkResults_eq] at hr
  obtain ⟨x, hx, rfl⟩ := List.mem_map.mp hr
  exact ⟨x, hx, rfl⟩

/-- R34: the record of an entry that the walk gives a grant. -/
theorem entry_walked (h : WalkGives L xs) (hL : GrantOrderLaw L) (p : Profile) {x : EntryGrant} (hx : x ∈ xs) :
    (L.walked p).entry x.slot = some (applyGrant p x.result x.entry) := by
  have ha := LoadRec.entry_applyResults_of_mem p (h.results_nodup hL) (h.result_mem hx) L
  rw [show x.result.slot = x.slot from rfl, h.entry hx] at ha
  exact ha

/-- An entry that the walk gives no grant stays as it was. -/
theorem entry_walked_of_not_mem (h : WalkGives L xs) (p : Profile) {i : Slot} (hi : ∀ x ∈ xs, x.slot ≠ i) :
    (L.walked p).entry i = L.entry i := by
  refine LoadRec.entry_applyResults_of_not_mem p _ L i fun r hr => ?_
  obtain ⟨x, hx, rfl⟩ := h.exists_of_result hr
  exact hi x hx

/-- R28, R34: an entry keeps its record unless it is an eligible member, which takes a grant. -/
theorem entry_walked_cases (h : WalkGives L xs) (hL : GrantOrderLaw L) (p : Profile) {i : Slot} {e : Entry} (he : L.entry i = some e) :
    (∃ x ∈ xs, x.slot = i ∧ x.entry = e ∧ (L.walked p).entry i = some (applyGrant p x.result e)) ∨
    (¬(e.state.isMember = true ∧ e.eligible = true) ∧ (L.walked p).entry i = some e) := by
  by_cases hx : ∃ x ∈ xs, x.slot = i
  · obtain ⟨x, hx, rfl⟩ := hx
    have hee : x.entry = e := Option.some.inj ((h.entry hx).symm.trans he)
    exact .inl ⟨x, hx, rfl, hee, hee ▸ h.entry_walked hL p hx⟩
  · refine .inr ⟨fun hme => ?_, (h.entry_walked_of_not_mem p fun x hxm hxi => hx ⟨x, hxm, hxi⟩).trans he⟩
    obtain ⟨x, hxm, hxi, -⟩ := h.exists_of_member ((hL.members i).mpr ⟨e, he, hme.1⟩) he hme.2
    exact hx ⟨x, hxm, hxi⟩

/-- The members after a walk: those with their grants, and those that took no part. -/
theorem members_walked (h : WalkGives L xs) (hL : GrantOrderLaw L) (p : Profile) :
    (L.walked p).members.Perm
      ((xs.map fun x => (x.slot, applyGrant p x.result x.entry)) ++ L.members.filter fun m => !m.2.eligible) := by
  have hm : (L.walked p).members = L.members.map fun m => (m.1, ((L.walked p).entry m.1).getD m.2) := by
    unfold LoadRec.members
    rw [(LoadRec.walked_keeps p L).1, List.map_filterMap]
    refine filterMap_congr_of_mem fun i _ => ?_
    cases he : L.entry i with
    | none => rw [h.entry_walked_of_not_mem p fun x hx hs => by simp [← hs, h.entry hx] at he, he]; rfl
    | some e => rcases h.entry_walked_cases hL p he with ⟨x, -, -, -, hw⟩ | ⟨-, hw⟩ <;> simp [hw]
  have hsplit := (List.filter_append_perm (fun m : Slot × Entry => m.2.eligible) L.members).map fun m =>
    (m.1, ((L.walked p).entry m.1).getD m.2)
  rw [hm]
  refine hsplit.symm.trans ?_
  rw [List.map_append]
  refine List.Perm.append ?_ (List.Perm.of_eq ?_)
  · refine (h.members.symm.map fun m => (m.1, ((L.walked p).entry m.1).getD m.2)).trans (List.Perm.of_eq ?_)
    rw [List.map_map]
    refine List.map_congr_left fun x hx => ?_
    simp [EntryGrant.member, h.entry_walked hL p hx]
  · refine (List.map_congr_left fun m hm => ?_).trans (List.map_id _)
    obtain ⟨hm, hne⟩ := List.mem_filter.mp hm
    have he := (LoadRec.mem_members.mp hm).2
    rcases h.entry_walked_cases hL p he with ⟨x, hx, -, hxe, -⟩ | ⟨-, hw⟩
    · rw [← hxe, h.eligible hx] at hne
      cases hne
    · simp [hw]

end WalkGives

/-! ### The entries -/

theorem stateForGrant_isMember (e : Entry) (g : Nat) : (stateForGrant e g).isMember = true := by
  unfold stateForGrant
  repeat' split
  all_goals rfl

theorem stateForGrant_cases (e : Entry) (g : Nat) :
    (stateForGrant e g = .pending ∧ (g = 0 ∨ e.isIdleBacklight = true)) ∨ (stateForGrant e g = .shed ∧ g = 0) ∨
    (stateForGrant e g = .granted ∧ g = e.requested ∧ g ≠ 0) ∨ (stateForGrant e g = .reduced ∧ g ≠ 0 ∧ g ≠ e.requested) := by
  unfold stateForGrant
  split
  next h => exact .inl ⟨rfl, .inr h⟩
  · split
    next h => split <;> simp [h]
    · split <;> simp_all

theorem isIdleBacklight_iff (e : Entry) : e.isIdleBacklight = true ↔ e.kind = .backlight ∧ e.requested = 0 := by
  simp [Entry.isIdleBacklight]

theorem eligible_iff (e : Entry) : e.eligible = true ↔ e.grace = none ∧ ¬(e.state = .shed ∧ e.holdoff ≠ none) := by
  rw [eligible_eq, decide_eq_true_eq]

/-- R29, R30: a grant that fits is nothing, or between the minimum and the requested power. -/
theorem GrantFits.bounds {freeze : Bool} {e : Entry} {g : Nat} (h : GrantFits freeze e g) (hb : e.minimum ≤ e.requested) :
    g = 0 ∨ (e.minimum ≤ g ∧ g ≤ e.requested) := by
  rcases h with h | ⟨hm, h⟩
  · exact .inl h
  · refine .inr ⟨hm, ?_⟩
    rcases h with h | ⟨-, h⟩
    · unfold upperLimit at h
      split at h <;> omega
    · omega

/-- R2, R4, R8, R34, R39, R42: a grant makes a lawful entry of an eligible one. -/
theorem entryLaw_applyGrant (p : Profile) {freeze : Bool} {x : EntryGrant} (hx : x.Fits freeze) (hel : x.entry.eligible = true)
    (hb : x.entry.minimum ≤ x.entry.requested) : EntryLaw (applyGrant p x.result x.entry) := by
  have hgrace := ((eligible_iff _).mp hel).1
  have hg := hx.grant.bounds hb
  have hstate := stateForGrant_cases x.entry x.grant
  have hidle : x.entry.isIdleBacklight = true → x.grant = 0 := fun h => by
    have := ((isIdleBacklight_iff _).mp h).2
    omega
  have hs : (applyGrant p x.result x.entry).state = stateForGrant x.entry x.grant := rfl
  have hgr : (applyGrant p x.result x.entry).granted = x.grant := rfl
  have hrq : (applyGrant p x.result x.entry).requested = x.entry.requested := rfl
  refine ⟨?counted, hg, hb, fun h => ?off, fun h => ?full, fun h => ?reduced, fun h => ?grace, fun h => ?holdoff⟩
  case counted => cases hi : x.intoGrace <;> simp [applyGrant, EntryGrant.result, hi, hgrace]
  case off =>
    rw [hs] at h
    rw [hgr]
    rcases hstate with ⟨-, h0 | h0⟩ | ⟨-, h0⟩ | ⟨h1, -⟩ | ⟨h1, -⟩
    · exact h0
    · exact hidle h0
    · exact h0
    · simp [h1] at h
    · simp [h1] at h
  case full =>
    rw [hs] at h
    rw [hgr, hrq]
    rcases hstate with ⟨h1, -⟩ | ⟨h1, -⟩ | ⟨-, h1, h2⟩ | ⟨h1, -⟩
    · simp [h1] at h
    · simp [h1] at h
    · omega
    · simp [h1] at h
  case reduced =>
    rw [hs] at h
    rw [hgr, hrq]
    rcases hstate with ⟨h1, -⟩ | ⟨h1, -⟩ | ⟨h1, -⟩ | ⟨-, h1, h2⟩
    · simp [h1] at h
    · simp [h1] at h
    · simp [h1] at h
    · omega
  case grace =>
    refine ⟨?_, stateForGrant_isMember _ _⟩
    cases hi : x.intoGrace with
    | true => exact (hx.grace hi).1
    | false => simp [applyGrant, EntryGrant.result, hi, hgrace] at h
  case holdoff =>
    have hh : (holdoffForGrant p x.entry x.grant).isSome = true := h
    unfold holdoffForGrant at hh
    split at hh
    next hsh => exact hsh
    · cases hh

/-- R3, R6: a grant leaves what the kind asks for. -/
theorem kindLaw_applyGrant (p : Profile) (r : GrantResult) {i : Slot} {e : Entry} (h : KindLaw i e) : KindLaw i (applyGrant p r e) where
  backlight := h.backlight
  rail := h.rail
  switched := h.switched
  cut := h.cut
  slot0 := fun hk => by
    refine ⟨(h.slot0 hk).1, (h.slot0 hk).2.1, fun hs => ?_⟩
    have hm := stateForGrant_isMember e r.grant
    rw [show stateForGrant e r.grant = .held from hs] at hm
    cases hm

/-! ### The whole table -/

/-- R3, R8, R28: an entry that a walk may meet: its minimum is no more than its requested power, and one that the walk leaves as it is is lawful. -/
def Walkable (e : Entry) : Prop := e.minimum ≤ e.requested ∧ (¬(e.state.isMember = true ∧ e.eligible = true) → EntryLaw e)

theorem EntryLaw.walkable {e : Entry} (h : EntryLaw e) : Walkable e := ⟨h.bounds, fun _ => h⟩

/-- R4, R9, R11, R50: a table that a walk may meet. -/
structure WalkableLaw (L : LoadRec) : Prop where
  order : GrantOrderLaw L
  entries : ∀ i e, L.entry i = some e → Walkable e ∧ KindLaw i e
  rails : ∀ i j ei ej, L.entry i = some ei → L.entry j = some ej → ei.rail.isSome = true → ei.rail = ej.rail → i = j
  draft : L.draft.length ≤ draftLimit

theorem TableLaw.walkable {L : LoadRec} (h : TableLaw L) : WalkableLaw L :=
  ⟨h.order, fun i e he => ⟨(h.entries i e he).1.walkable, (h.entries i e he).2⟩, h.rails, h.draft⟩

/-- R8, R42: an entry that is no member counts nothing. -/
theorem EntryLaw.counted_of_not_member {e : Entry} (h : EntryLaw e) (hm : e.state.isMember = false) : e.counted = 0 := by
  have hg : e.grace = none := by
    refine Classical.byContradiction fun hg => ?_
    have := (h.grace (Option.isSome_iff_ne_none.mpr hg)).2
    rw [hm] at this
    cases this
  have hoff : e.granted = 0 := h.off (by revert hm; cases e.state <;> simp [EntryState.isMember])
  have hc := h.counted
  rw [hg] at hc
  exact hc.trans hoff

/-- R4, R28: an entry that takes no part in the passes counts its grace value. -/
theorem EntryLaw.counted_of_not_eligible {e : Entry} (h : EntryLaw e) (hel : e.eligible = false) : e.counted = e.graceValue := by
  have hc := h.counted
  unfold Entry.graceValue
  cases hg : e.grace with
  | some g =>
    rw [hg] at hc
    exact hc
  | none =>
    rw [hg] at hc
    have hs : e.state = .shed := by
      refine Classical.byContradiction fun hs => ?_
      rw [Bool.eq_false_iff, ne_eq, eligible_iff] at hel
      exact hel ⟨hg, fun hsh => hs hsh.1⟩
    exact hc.trans (h.off (.inr (.inl hs)))

theorem EntryGrant.counted_applyGrant (p : Profile) (x : EntryGrant) : (applyGrant p x.result x.entry).counted = x.counts := rfl

/-- R47: what an entry adds to the overcommit sum. -/
def Entry.overcommitShare (e : Entry) : Nat := if e.grace.isSome then e.graceValue else if e.rank = 0 then e.minimum else 0

theorem LoadRec.overcommitSum_eq (L : LoadRec) : L.overcommitSum = (L.members.map fun m => m.2.overcommitShare).sum := rfl

theorem EntryGrant.overcommitShare_applyGrant (p : Profile) {x : EntryGrant} (hg : x.entry.grace = none) :
    (applyGrant p x.result x.entry).overcommitShare = x.floor := by
  cases hi : x.intoGrace <;> simp [applyGrant, EntryGrant.result, EntryGrant.floor, Entry.overcommitShare, Entry.graceValue, hi, hg]

theorem graceValue_le_overcommitShare (e : Entry) : e.graceValue ≤ e.overcommitShare := by
  unfold Entry.overcommitShare Entry.graceValue
  cases e.grace <;> simp

namespace WalkGives

variable {L : LoadRec} {xs : List EntryGrant}

/-- R28: the grace values at the start of a walk are those of the members that take no part. -/
theorem graceTotal_eq (L : LoadRec) : graceTotal L = ((L.members.filter fun m => !m.2.eligible).map fun m => m.2.graceValue).sum := by
  have hp := ((List.filter_append_perm (fun m : Slot × Entry => m.2.eligible) L.members).map fun m => m.2.graceValue).sum_nat
  rw [List.map_append, List.sum_append] at hp
  have hz : ((L.members.filter fun m => m.2.eligible).map fun m => m.2.graceValue).sum = 0 := by
    refine sum_eq_zero_of_forall ?_
    intro n hn
    obtain ⟨m, hm, rfl⟩ := List.mem_map.mp hn
    simp [Entry.graceValue, ((eligible_iff _).mp (List.mem_filter.mp hm).2).1]
  unfold graceTotal
  omega

/-- R47: the overcommit sum after a walk is no less than the floor of its grants with the grace values it started with. -/
theorem floor_le_overcommitSum (h : WalkGives L xs) (hL : GrantOrderLaw L) (p : Profile) :
    graceTotal L + (xs.map EntryGrant.floor).sum ≤ (L.walked p).overcommitSum := by
  have hp := ((h.members_walked hL p).map fun m => m.2.overcommitShare).sum_nat
  rw [List.map_append, List.sum_append, List.map_map] at hp
  have hx : xs.map ((fun m => m.2.overcommitShare) ∘ fun x => (x.slot, applyGrant p x.result x.entry)) = xs.map EntryGrant.floor :=
    List.map_congr_left fun x hx => EntryGrant.overcommitShare_applyGrant p ((eligible_iff _).mp (h.eligible hx)).1
  have hle : graceTotal L ≤ ((L.members.filter fun m => !m.2.eligible).map fun m => m.2.overcommitShare).sum := by
    rw [graceTotal_eq]
    exact sum_map_le_sum_map fun m _ => graceValue_le_overcommitShare m.2
  rw [LoadRec.overcommitSum_eq, hp, hx]
  omega

/-- R4, R31: the counted total after a walk. -/
theorem sum_counted_members (h : WalkGives L xs) (hL : GrantOrderLaw L) (p : Profile)
    (hin : ∀ m ∈ L.members, m.2.eligible = false → EntryLaw m.2) :
    ((L.walked p).members.map fun m => m.2.counted).sum = graceTotal L + (xs.map EntryGrant.counts).sum := by
  have hp := ((h.members_walked hL p).map fun m => m.2.counted).sum_nat
  rw [List.map_append, List.sum_append, List.map_map] at hp
  have hx : xs.map ((fun m => m.2.counted) ∘ fun x => (x.slot, applyGrant p x.result x.entry)) = xs.map EntryGrant.counts :=
    List.map_congr_left fun x _ => EntryGrant.counted_applyGrant p x
  have hi : (L.members.filter fun m => !m.2.eligible).map (fun m => m.2.counted) =
      (L.members.filter fun m => !m.2.eligible).map fun m => m.2.graceValue := by
    refine List.map_congr_left fun m hm => ?_
    obtain ⟨hm, hne⟩ := List.mem_filter.mp hm
    have hne : m.2.eligible = false := by simpa using hne
    exact (hin m hm hne).counted_of_not_eligible hne
  rw [hp, hx, hi, ← graceTotal_eq]
  omega

end WalkGives

theorem key_applyGrant (p : Profile) (r : GrantResult) {e : Entry} (hm : e.state.isMember = true) : (applyGrant p r e).key = e.key := by
  simp [Entry.key, Entry.place, applyGrant, stateForGrant_isMember, hm]

/-- A walk keeps rank, sequence and membership. -/
theorem sameKeys_walked (p : Profile) {L : LoadRec} (hL : GrantOrderLaw L) : SameKeys L (L.walked p) where
  order := (LoadRec.walked_keeps p L).1
  counter := (LoadRec.walked_keeps p L).2.2.2.2.1
  entry := fun i => by
    obtain ⟨xs, h⟩ := exists_walkGives L
    cases he : L.entry i with
    | none => rw [h.entry_walked_of_not_mem p fun x hx hs => by simp [← hs, h.entry hx] at he, he]
    | some e =>
      rcases h.entry_walked_cases hL p he with ⟨x, hx, hxi, -, hw⟩ | ⟨-, hw⟩
      · obtain ⟨d, hd, hs⟩ := (hL.members i).mp (hxi ▸ h.mem_order hx)
        have hed : d = e := Option.some.inj (hd.symm.trans he)
        rw [hw, Option.map_some, Option.map_some, key_applyGrant p _ (hed ▸ hs)]
      · rw [hw]

/-- R2 to R50: a walk leaves the law of the whole table. -/
theorem tableLaw_walked (p : Profile) {L : LoadRec} (hL : WalkableLaw L) : TableLaw (L.walked p) := by
  obtain ⟨xs, h⟩ := exists_walkGives L
  have hk := sameKeys_walked p hL.order
  have horder := hk.grantOrder hL.order
  have hentries : ∀ i e, (L.walked p).entry i = some e → EntryLaw e ∧ KindLaw i e := by
    intro i e he
    cases hd : L.entry i with
    | none => simpa [hd, he] using hk.entry i
    | some d =>
      obtain ⟨⟨hb, hlaw⟩, hkind⟩ := hL.entries i d hd
      rcases h.entry_walked_cases hL.order p hd with ⟨x, hx, -, rfl, hw⟩ | ⟨hn, hw⟩
      · rw [he, Option.some.injEq] at hw
        exact hw ▸ ⟨entryLaw_applyGrant p (h.fits x hx) (h.eligible hx) hb, kindLaw_applyGrant p _ hkind⟩
      · rw [he, Option.some.injEq] at hw
        exact hw ▸ ⟨hlaw hn, hkind⟩
  refine ⟨horder, hentries, hk.rails hL.rails, (LoadRec.walked_keeps p L).2.2.2.1 ▸ hL.draft, ?within⟩
  case within =>
    by_cases hover : (L.walked p).ceiling < (L.walked p).overcommitSum
    · exact .inr (by rw [LoadRec.overcommit_walked, decide_eq_true_eq]; exact hover)
    · refine .inl ?_
      have hceil : (L.walked p).ceiling = L.ceiling := (LoadRec.walked_keeps p L).2.1
      have hfloor := h.floor_le_overcommitSum hL.order p
      have hout : ∀ i, i ∉ (L.walked p).order → (L.walked p).countedAt i = 0 := by
        intro i hi
        unfold LoadRec.countedAt
        split
        next e he =>
          refine (hentries i e he).1.counted_of_not_member (Bool.eq_false_iff.mpr fun hm => hi ?_)
          exact (horder.members i).mpr ⟨e, he, hm⟩
        · rfl
      rw [countedTotal_eq_members horder.nodup hout, hceil,
        h.sum_counted_members hL.order p fun m hm hne => ?inelig]
      case inelig =>
        have he := (LoadRec.mem_members.mp hm).2
        exact (hL.entries m.1 m.2 he).1.2 fun hme => by
          rw [hne] at hme
          cases hme.2
      exact h.total (by omega) ((hL.order.byRank).sublist List.filter_sublist)

end Sys2Proof.Machine
end

section
/-!
PROOFS. The operations of the load table (chapters 1 to 3, 8) and the law of the table: a record replaced, a slot that leaves or joins the Grant
Order, an admission, a revision, a release, a cut and a return each leave a table that a walk may meet.
-/
namespace Sys2Proof.Machine

/-! ### One record replaced -/

/-- R11: no two live entries name one rail. -/
def RailsApart (L : LoadRec) : Prop :=
  ∀ i j ei ej, L.entry i = some ei → L.entry j = some ej → ei.rail.isSome = true → ei.rail = ej.rail → i = j

/-- R11: no other live entry names the rail that a record for a slot names. -/
def RailFree (L : LoadRec) (i : Slot) (d : Entry) : Prop :=
  d.rail.isSome = true → ∀ j ej, j ≠ i → L.entry j = some ej → ej.rail ≠ d.rail

theorem RailsApart.railFree {L : LoadRec} (h : RailsApart L) {i : Slot} {e d : Entry} (he : L.entry i = some e) (hr : d.rail = e.rail) :
    RailFree L i d := by
  intro hs j ej hj hej heq
  exact hj (h j i ej e hej he (heq ▸ hs) (heq.trans hr))

/-- One table is another with the record of one slot replaced, whatever the order. -/
structure Replaces (L M : LoadRec) (i : Slot) (o : Option Entry) : Prop where
  self : M.entry i = o
  other : ∀ j, j ≠ i → M.entry j = L.entry j
  counter : M.counter = L.counter
  draft : M.draft = L.draft

theorem replaces_setEntry (L : LoadRec) (i : Slot) (o : Option Entry) : Replaces L (L.setEntry i o) i o :=
  ⟨L.entry_setEntry_self i o, fun _ hj => L.entry_setEntry_ne o hj, rfl, rfl⟩

theorem Replaces.leave {L M : LoadRec} {i : Slot} {o : Option Entry} (h : Replaces L M i o) (j : Slot) : Replaces L (M.leave j) i o :=
  ⟨h.self, h.other, h.counter, h.draft⟩

theorem Replaces.join {L M : LoadRec} {i : Slot} {o : Option Entry} (h : Replaces L M i o) (j : Slot) (e : Entry) :
    Replaces L (M.join j e) i o := ⟨h.self, h.other, h.counter, h.draft⟩

theorem Replaces.railsApart {L M : LoadRec} {i : Slot} {o : Option Entry} (h : Replaces L M i o) (hL : RailsApart L)
    (hr : ∀ d, o = some d → RailFree L i d) : RailsApart M := by
  have hfree : ∀ j d ej, j ≠ i → M.entry i = some d → M.entry j = some ej → d.rail.isSome = true → ej.rail ≠ d.rail :=
    fun j d ej hj hd hej hs => hr d (h.self.symm.trans hd) hs j ej hj (h.other j hj ▸ hej)
  intro j k ej ek hj hk hs heq
  by_cases hji : j = i
  · subst hji
    refine Classical.byContradiction fun hne => ?_
    exact hfree k ej ek (Ne.symm hne) hj hk hs heq.symm
  · by_cases hki : k = i
    · subst hki
      exact absurd heq (hfree j ek ej hji hk hj (heq ▸ hs))
    · exact hL j k ej ek (h.other j hji ▸ hj) (h.other k hki ▸ hk) hs heq

/-- A record of another kind of law replaced in a table whose order keeps its law. -/
theorem WalkableLaw.of_replaces {L M : LoadRec} (hL : WalkableLaw L) {i : Slot} {o : Option Entry} (h : Replaces L M i o)
    (hM : GrantOrderLaw M) (hlaw : ∀ d, o = some d → Walkable d ∧ KindLaw i d) (hr : ∀ d, o = some d → RailFree L i d) :
    WalkableLaw M where
  order := hM
  entries := fun j e he => by
    by_cases hj : j = i
    · subst hj
      exact hlaw e (h.self.symm.trans he)
    · exact hL.entries j e (h.other j hj ▸ he)
  rails := h.railsApart hL.rails hr
  draft := h.draft ▸ hL.draft

/-- A table of one's own draft, ceiling, freeze and so on. -/
theorem WalkableLaw.of_sameEntries {L M : LoadRec} (hL : WalkableLaw L) (ho : M.order = L.order) (hc : M.counter = L.counter)
    (he : ∀ i, M.entry i = L.entry i) (hd : M.draft.length ≤ draftLimit) : WalkableLaw M :=
  have hk : SameKeys L M := ⟨ho, hc, fun i => by rw [he i]⟩
  ⟨hk.grantOrder hL.order, fun i e h => hL.entries i e (he i ▸ h), hk.rails hL.rails, hd⟩

theorem countedTotal_congr {L M : LoadRec} (h : ∀ i, M.countedAt i = L.countedAt i) : M.countedTotal = L.countedTotal := by
  rw [LoadRec.countedTotal_eq, LoadRec.countedTotal_eq]
  exact congrArg List.sum (List.map_congr_left fun i _ => h i)

/-- R4: where the records keep what they count, the total stays within the ceiling. -/
theorem TableLaw.of_walkable {L M : LoadRec} (hL : TableLaw L) (hM : WalkableLaw M) (hlaw : ∀ i e, M.entry i = some e → EntryLaw e)
    (hcount : ∀ i, M.countedAt i = L.countedAt i) (hceil : M.ceiling = L.ceiling) (hover : M.overcommit = L.overcommit) : TableLaw M :=
  ⟨hM.order, fun i e he => ⟨hlaw i e he, (hM.entries i e he).2⟩, hM.rails, hM.draft, by
    rw [countedTotal_congr hcount, hceil, hover]
    exact hL.within⟩

theorem Replaces.entryLaw {L M : LoadRec} {i : Slot} {o : Option Entry} (h : Replaces L M i o) (hL : TableLaw L)
    (ho : ∀ d, o = some d → EntryLaw d) : ∀ j e, M.entry j = some e → EntryLaw e := by
  intro j e he
  by_cases hj : j = i
  · subst hj
    exact ho e (h.self.symm.trans he)
  · exact (hL.entries j e (h.other j hj ▸ he)).1

theorem Replaces.countedAt {L M : LoadRec} {i : Slot} {e d : Entry} (h : Replaces L M i (some d)) (he : L.entry i = some e)
    (hc : d.counted = e.counted) (j : Slot) : M.countedAt j = L.countedAt j := by
  unfold LoadRec.countedAt
  by_cases hj : j = i
  · subst hj
    rw [h.self, he]
    exact hc
  · rw [h.other j hj]

/-! ### The Grant Order under a record replaced -/

theorem GrantOrderLaw.filter_of_not_member {L : LoadRec} (hL : GrantOrderLaw L) {i : Slot}
    (hi : ∀ e, L.entry i = some e → e.state.isMember = false) : L.order = L.order.filter fun j => j != i := by
  refine (List.filter_eq_self.mpr fun j hj => ?_).symm
  rw [bne_iff_ne]
  rintro rfl
  obtain ⟨e, he, hs⟩ := (hL.members j).mp hj
  rw [hi e he] at hs
  cases hs

/-- R10: a slot leaves the order, its record no member's any more. -/
theorem grantOrderLaw_leave {L : LoadRec} (hL : GrantOrderLaw L) {i : Slot} {e d : Entry} (he : L.entry i = some e)
    (hd : d.sequence = e.sequence) (hm : d.state.isMember = false) : GrantOrderLaw ((L.setEntry i (some d)).leave i) := by
  have h := replaces_setEntry L i (some d)
  have hw : OrderWithout i ((L.setEntry i (some d)).leave i) := hL.without rfl rfl h.other (.inr ⟨e, d, he, h.self, hd⟩)
  refine hw.complete fun x hx => ?_
  rw [LoadRec.entry_leave] at hx
  rw [h.self, Option.some.injEq] at hx
  exact hx ▸ hm

/-- R10: a slot that was no member's joins the order. -/
theorem grantOrderLaw_join {L : LoadRec} (hL : GrantOrderLaw L) {i : Slot} {e d : Entry} (he : L.entry i = some e)
    (hm : e.state.isMember = false) (hd : d.sequence = e.sequence) (hdm : d.state.isMember = true) :
    GrantOrderLaw ((L.setEntry i (some d)).join i d) := by
  have h := replaces_setEntry L i (some d)
  have hfil := hL.filter_of_not_member fun x hx => by
    rw [he, Option.some.injEq] at hx
    exact hx ▸ hm
  have hw : OrderWithout i (L.setEntry i (some d)) := hL.without hfil rfl h.other (.inr ⟨e, d, he, h.self, hd⟩)
  exact hw.join h.self hdm

/-- R10: a member takes the place of another rank. -/
theorem grantOrderLaw_move {L : LoadRec} (hL : GrantOrderLaw L) {i : Slot} {e d : Entry} (he : L.entry i = some e)
    (hd : d.sequence = e.sequence) (hdm : d.state.isMember = true) :
    GrantOrderLaw (((L.setEntry i (some d)).leave i).join i d) := by
  have h := replaces_setEntry L i (some d)
  have hw : OrderWithout i ((L.setEntry i (some d)).leave i) := hL.without rfl rfl h.other (.inr ⟨e, d, he, h.self, hd⟩)
  exact hw.join h.self hdm

/-- R10: an entry that is no member may take another rank and stay out of the order. -/
theorem grantOrderLaw_aside {L : LoadRec} (hL : GrantOrderLaw L) {i : Slot} {e d : Entry} (he : L.entry i = some e)
    (hm : e.state.isMember = false) (hd : d.sequence = e.sequence) (hdm : d.state.isMember = false) :
    GrantOrderLaw (L.setEntry i (some d)) := by
  have h := replaces_setEntry L i (some d)
  have hfil := hL.filter_of_not_member fun x hx => by
    rw [he, Option.some.injEq] at hx
    exact hx ▸ hm
  have hw : OrderWithout i (L.setEntry i (some d)) := hL.without hfil rfl h.other (.inr ⟨e, d, he, h.self, hd⟩)
  refine hw.complete fun x hx => ?_
  rw [h.self, Option.some.injEq] at hx
  exact hx ▸ hdm

/-- A record replaced by one of the same key, both lawful for a walk. -/
theorem WalkableLaw.setEntry {L : LoadRec} (hL : WalkableLaw L) {i : Slot} {e d : Entry} (he : L.entry i = some e) (hk : d.key = e.key)
    (hw : Walkable d) (hkind : KindLaw i d) : WalkableLaw (L.setEntry i (some d)) :=
  hL.of_replaces (replaces_setEntry L i (some d)) ((sameKeys_setEntry he hk).grantOrder hL.order)
    (fun x hx => by injection hx with hx; exact hx ▸ ⟨hw, hkind⟩)
    (fun x hx => by injection hx with hx; exact hx ▸ RailsApart.railFree hL.rails he ((Entry.key_eq_iff _ _).mp hk).2.2.2)

/-- R10: a record that leaves the order, lawful and no member's any more. -/
theorem WalkableLaw.leave {L : LoadRec} (hL : WalkableLaw L) {i : Slot} {e d : Entry} (he : L.entry i = some e)
    (hs : d.sequence = e.sequence) (hr : d.rail = e.rail) (hm : d.state.isMember = false) (hw : EntryLaw d) (hkind : KindLaw i d) :
    WalkableLaw ((L.setEntry i (some d)).leave i) :=
  hL.of_replaces ((replaces_setEntry L i (some d)).leave i) (grantOrderLaw_leave hL.order he hs hm)
    (fun x hx => by injection hx with hx; exact hx ▸ ⟨hw.walkable, hkind⟩)
    (fun x hx => by injection hx with hx; exact hx ▸ RailsApart.railFree hL.rails he hr)

/-- R10: a record that returns to the order. -/
theorem WalkableLaw.join {L : LoadRec} (hL : WalkableLaw L) {i : Slot} {e d : Entry} (he : L.entry i = some e)
    (hm : e.state.isMember = false) (hs : d.sequence = e.sequence) (hr : d.rail = e.rail) (hdm : d.state.isMember = true)
    (hw : Walkable d) (hkind : KindLaw i d) : WalkableLaw ((L.setEntry i (some d)).join i d) :=
  hL.of_replaces ((replaces_setEntry L i (some d)).join i d) (grantOrderLaw_join hL.order he hm hs hdm)
    (fun x hx => by injection hx with hx; exact hx ▸ ⟨hw, hkind⟩)
    (fun x hx => by injection hx with hx; exact hx ▸ RailsApart.railFree hL.rails he hr)

/-- Every record changed, its key kept. -/
theorem WalkableLaw.mapEntries {L : LoadRec} (hL : WalkableLaw L) {f : Slot → Entry → Entry}
    (hk : ∀ i e, L.entry i = some e → (f i e).key = e.key)
    (hlaw : ∀ i e, L.entry i = some e → Walkable (f i e) ∧ KindLaw i (f i e)) : WalkableLaw (L.mapEntries f) where
  order := (sameKeys_mapEntries hk).grantOrder hL.order
  entries := fun i e he => by
    rw [LoadRec.entry_mapEntries, Option.map_eq_some_iff] at he
    obtain ⟨d, hd, rfl⟩ := he
    exact hlaw i d hd
  rails := (sameKeys_mapEntries hk).rails hL.rails
  draft := by simpa only [LoadRec.mapEntries] using hL.draft

theorem TableLaw.mapEntries {L : LoadRec} (hL : TableLaw L) {f : Slot → Entry → Entry}
    (hk : ∀ i e, L.entry i = some e → (f i e).key = e.key)
    (hlaw : ∀ i e, L.entry i = some e → EntryLaw (f i e) ∧ KindLaw i (f i e) ∧ (f i e).counted = e.counted) :
    TableLaw (L.mapEntries f) := by
  refine hL.of_walkable (hL.walkable.mapEntries hk fun i e he => ⟨(hlaw i e he).1.walkable, (hlaw i e he).2.1⟩) (fun i e he => ?_)
    (fun i => ?_) (by simp only [LoadRec.mapEntries]) (by simp only [LoadRec.mapEntries])
  · rw [LoadRec.entry_mapEntries, Option.map_eq_some_iff] at he
    obtain ⟨d, hd, rfl⟩ := he
    exact (hlaw i d hd).1
  · unfold LoadRec.countedAt
    rw [LoadRec.entry_mapEntries]
    cases he : L.entry i with
    | none => rfl
    | some e => exact (hlaw i e he).2.2

/-- A record replaced by one of the same key that counts as much. -/
theorem TableLaw.setEntry {L : LoadRec} (hL : TableLaw L) {i : Slot} {e d : Entry} (he : L.entry i = some e) (hk : d.key = e.key)
    (hlaw : EntryLaw d) (hkind : KindLaw i d) (hc : d.counted = e.counted) : TableLaw (L.setEntry i (some d)) :=
  have h := replaces_setEntry L i (some d)
  hL.of_walkable (hL.walkable.setEntry he hk hlaw.walkable hkind)
    (h.entryLaw hL fun x hx => by injection hx with hx; exact hx ▸ hlaw) (h.countedAt he hc) rfl rfl

/-- A table of one's own draft, freeze and last grant handed over. -/
theorem TableLaw.of_sameEntries {L M : LoadRec} (hL : TableLaw L) (ho : M.order = L.order) (hc : M.counter = L.counter)
    (he : ∀ i, M.entry i = L.entry i) (hd : M.draft.length ≤ draftLimit) (hceil : M.ceiling = L.ceiling)
    (hover : M.overcommit = L.overcommit) : TableLaw M :=
  hL.of_walkable (hL.walkable.of_sameEntries ho hc he hd) (fun i e h => (hL.entries i e (he i ▸ h)).1)
    (fun i => by unfold LoadRec.countedAt; rw [he i]) hceil hover

/-! ### Release (R18) -/

theorem entry_releaseSlot (i j : Slot) (s : State) : (releaseSlot i s).load.entry j = if j = i then none else s.load.entry j := by
  by_cases h : j = i
  · subst h
    simp [releaseSlot, LoadRec.entry]
  · have hv : i.val ≠ j.val := fun hv => h (Fin.ext hv.symm)
    simp [releaseSlot, LoadRec.entry, Vector.getElem_set_ne, hv, h]

theorem walkableLaw_releaseSlot {s : State} (hL : WalkableLaw s.load) {i : Slot} (hi : i ≠ 0) : WalkableLaw (releaseSlot i s).load := by
  have hself : (releaseSlot i s).load.entry i = none := by rw [entry_releaseSlot, if_pos rfl]
  have hother : ∀ j, j ≠ i → (releaseSlot i s).load.entry j = s.load.entry j := fun j hj => by rw [entry_releaseSlot, if_neg hj]
  refine hL.of_replaces (i := i) (o := none) ⟨hself, hother, rfl, rfl⟩ ?_ (fun d hd => by cases hd) (fun d hd => by cases hd)
  have hw : OrderWithout i (releaseSlot i s).load := hL.order.without rfl rfl hother (.inl ⟨hi, hself⟩)
  exact hw.complete fun e he => by rw [hself] at he; cases he

theorem walkableLaw_releaseSlots (is : List Slot) {s : State} (hL : WalkableLaw s.load) (h : ∀ i ∈ is, i ≠ 0) :
    WalkableLaw (is.foldl (fun s i => releaseSlot i s) s).load := by
  induction is generalizing s with
  | nil => exact hL
  | cons i is ih => exact ih (walkableLaw_releaseSlot hL (h i (by simp))) fun j hj => h j (by simp [hj])

theorem walkableLaw_releaseHostSlots {s : State} (hL : WalkableLaw s.load) : WalkableLaw (releaseHostSlots s).load :=
  walkableLaw_releaseSlots _ hL fun i hi => by simpa using (List.mem_filter.mp hi).2

/-! ### Slots that meet a test -/

theorem LoadRec.mem_slotsWhere {L : LoadRec} {p : Entry → Bool} {i : Slot} : i ∈ L.slotsWhere p ↔ ∃ e, L.entry i = some e ∧ p e = true := by
  simp only [LoadRec.slotsWhere, List.mem_filter, List.mem_finRange, true_and]
  cases L.entry i <;> simp

theorem LoadRec.nodup_slotsWhere (L : LoadRec) (p : Entry → Bool) : (L.slotsWhere p).Nodup := (List.nodup_finRange 24).filter _

/-! ### Cuts and returns (R159, R164, R169) -/

theorem LoadRec.modifyEntry_of_live {L : LoadRec} {i : Slot} {e : Entry} (he : L.entry i = some e) (f : Entry → Entry) :
    L.modifyEntry i f = L.setEntry i (some (f e)) := by simp [LoadRec.modifyEntry, he]

/-- R43: an entry that a walk may meet and that is not THROTTLED has no grace. -/
theorem Walkable.grace_of_kind {e : Entry} (h : Walkable e) (hk : e.kind ≠ .throttled) : e.grace = none := by
  refine Classical.byContradiction fun hg => ?_
  have hlaw := h.2 fun hme => hg ((eligible_iff e).mp hme.2).1
  exact hk (hlaw.grace (Option.isSome_iff_ne_none.mpr hg)).1

theorem entryLaw_heldEntry {e : Entry} (hb : e.minimum ≤ e.requested) (hg : e.grace = none) : EntryLaw (heldEntry e) where
  counted := by simp [heldEntry, hg]
  granted := .inl rfl
  bounds := hb
  off := fun _ => rfl
  full := fun h => by cases h
  reduced := fun h => by cases h
  grace := fun h => by simp [heldEntry, hg] at h
  holdoff := fun h => by cases h

theorem kindLaw_heldEntry {i : Slot} {e : Entry} (h : KindLaw i e) (hk : e.kind = .switched) : KindLaw i (heldEntry e) :=
  ⟨h.backlight, h.rail, h.switched, h.cut, fun hb => by rw [show e.kind = .backlight from hb] at hk; cases hk⟩

theorem LoadRec.entry_cut {L : LoadRec} {i j : Slot} (hj : j ≠ i) : ((L.modifyEntry i heldEntry).leave i).entry j = L.entry j := by
  rw [LoadRec.entry_leave]
  unfold LoadRec.modifyEntry
  split
  · exact L.entry_setEntry_ne _ hj
  · rfl

theorem walkableLaw_cutSlots {is : List Slot} (hnd : is.Nodup) {s : State} (hL : WalkableLaw s.load)
    (h : ∀ i ∈ is, ∃ e, s.load.entry i = some e ∧ e.kind = .switched) : WalkableLaw (cutSlots is s).load := by
  induction is generalizing s with
  | nil => exact hL
  | cons i is ih =>
    obtain ⟨hi, hnd⟩ := List.nodup_cons.mp hnd
    obtain ⟨e, he, hk⟩ := h i (by simp)
    obtain ⟨hw, hkind⟩ := hL.entries i e he
    have hlaw := entryLaw_heldEntry hw.1 (hw.grace_of_kind (by rw [hk]; decide))
    refine ih hnd (s := ({ s with load := (s.load.modifyEntry i heldEntry).leave i }).raise (.entry i .held)) ?_ fun j hj => ?_
    · rw [State.raise_load, LoadRec.modifyEntry_of_live he]
      exact hL.leave he rfl rfl rfl hlaw (kindLaw_heldEntry hkind hk)
    · obtain ⟨d, hd, hdk⟩ := h j (by simp [hj])
      refine ⟨d, ?_, hdk⟩
      rw [State.raise_load, LoadRec.entry_cut (ne_of_mem_of_not_mem hj hi), hd]

theorem walkable_returnedEntry {e : Entry} (h : EntryLaw e) (hm : e.state.isMember = false) : EntryLaw (returnedEntry e) where
  counted := h.counted
  granted := h.granted
  bounds := h.bounds
  off := fun _ => h.off (by revert hm; cases e.state <;> simp [EntryState.isMember])
  full := fun h => by cases h
  reduced := fun h => by cases h
  grace := fun hg => by
    have := (h.grace hg).2
    rw [hm] at this
    cases this
  holdoff := fun h => by cases h

theorem kindLaw_returnedEntry {i : Slot} {e : Entry} (h : KindLaw i e) : KindLaw i (returnedEntry e) :=
  ⟨h.backlight, h.rail, h.switched, h.cut, fun hk => ⟨(h.slot0 hk).1, (h.slot0 hk).2.1, fun hs => by cases hs⟩⟩

theorem walkableLaw_returnSlots {is : List Slot} (hnd : is.Nodup) {s : State} (hL : WalkableLaw s.load)
    (h : ∀ i ∈ is, ∃ e, s.load.entry i = some e ∧ e.state = .held) : WalkableLaw (returnSlots is s).load := by
  induction is generalizing s with
  | nil => exact hL
  | cons i is ih =>
    obtain ⟨hi, hnd⟩ := List.nodup_cons.mp hnd
    obtain ⟨e, he, hs⟩ := h i (by simp)
    obtain ⟨hw, hkind⟩ := hL.entries i e he
    have hm : e.state.isMember = false := by rw [hs]; rfl
    have hlaw := walkable_returnedEntry (hw.2 fun hme => by rw [hm] at hme; cases hme.1) hm
    unfold returnSlots
    rw [List.foldl_cons, he]
    dsimp only
    refine ih hnd ?_ fun j hj => ?_
    · exact hL.join he hm rfl rfl rfl hlaw.walkable (kindLaw_returnedEntry hkind)
    · obtain ⟨d, hd, hds⟩ := h j (by simp [hj])
      refine ⟨d, ?_, hds⟩
      rw [LoadRec.entry_join, LoadRec.entry_setEntry_ne _ _ (ne_of_mem_of_not_mem hj hi), hd]

end Sys2Proof.Machine
end

section
/-!
PROOFS. Admission, with its counter and its renumbering (R13, R14, R16), and revision (R17): what each leaves a table that a walk may meet.
-/
namespace Sys2Proof.Machine

/-! ### Renumbering (R14) -/

/-- R14: the sequence that renumbering gives an entry: slot 0 keeps its own. -/
def newSequence (L : LoadRec) (i : Slot) (e : Entry) : Nat := if i = 0 then e.sequence else renumbered L e

/-- R14: an entry with the sequence that renumbering gives it. -/
def renumberedEntry (L : LoadRec) (i : Slot) (e : Entry) : Entry := { e with sequence := newSequence L i e }

/-- R14: the live host slots. -/
def LoadRec.hostSlots (L : LoadRec) : List Slot := (L.slotsWhere fun _ => true).filter fun i => i != 0

/-- R14: the live host slots with a lower sequence. -/
def LoadRec.hostsBelow (L : LoadRec) (n : Nat) : List Slot := (L.slotsWhere fun x => decide (x.sequence < n)).filter fun i => i != 0

theorem LoadRec.mem_hostSlots {L : LoadRec} {i : Slot} : i ∈ L.hostSlots ↔ i ≠ 0 ∧ ∃ e, L.entry i = some e := by
  simp [LoadRec.hostSlots, LoadRec.mem_slotsWhere, and_comm]

theorem LoadRec.mem_hostsBelow {L : LoadRec} {i : Slot} {n : Nat} : i ∈ L.hostsBelow n ↔ i ≠ 0 ∧ ∃ e, L.entry i = some e ∧ e.sequence < n := by
  simp [LoadRec.hostsBelow, LoadRec.mem_slotsWhere, and_comm]

theorem LoadRec.length_hostSlots (L : LoadRec) : L.hostSlots.length ≤ 24 := by
  have h := (List.filter_sublist (p := fun i : Slot => i != 0) (l := L.slotsWhere fun _ => true)).length_le
  have k := (List.filter_sublist (p := fun i : Slot => match L.entry i with | some _ => true | none => false)
    (l := List.finRange 24)).length_le
  have hf : (List.finRange 24).length = 24 := List.length_finRange
  exact Nat.le_trans h (Nat.le_trans k (Nat.le_of_eq hf))

theorem renumbered_eq (L : LoadRec) (e : Entry) : renumbered L e = (L.hostsBelow e.sequence).length + 1 := rfl

theorem LoadRec.entry_renumber (L : LoadRec) (i : Slot) : L.renumber.entry i = (L.entry i).map (renumberedEntry L i) := by
  have h : renumberedEntry L i = fun e => if i = 0 then e else { e with sequence := renumbered L e } := by
    funext e
    by_cases hi : i = 0 <;> simp [renumberedEntry, newSequence, hi]
  rw [h]
  simp [LoadRec.entry, LoadRec.renumber, LoadRec.mapEntries]

theorem LoadRec.order_renumber (L : LoadRec) : L.renumber.order = L.order := by simp only [LoadRec.renumber, LoadRec.mapEntries]
theorem LoadRec.draft_renumber (L : LoadRec) : L.renumber.draft = L.draft := by simp only [LoadRec.renumber, LoadRec.mapEntries]
theorem LoadRec.counter_renumber (L : LoadRec) : L.renumber.counter = L.hostSlots.length + 1 := by simp only [LoadRec.renumber, LoadRec.hostSlots]

/-- R14: a host entry's new sequence is no more than the number of any slots that hold it and the hosts below it. -/
theorem renumbered_le {L : LoadRec} {i : Slot} {e : Entry} (he : L.entry i = some e) {l : List Slot} (hil : i ∈ l)
    (hl : ∀ j ∈ L.hostsBelow e.sequence, j ∈ l) : renumbered L e ≤ l.length := by
  have hnd : (i :: L.hostsBelow e.sequence).Nodup := by
    refine List.nodup_cons.mpr ⟨fun hm => ?_, (L.nodup_slotsWhere _).filter _⟩
    obtain ⟨-, d, hd, hlt⟩ := LoadRec.mem_hostsBelow.mp hm
    rw [he, Option.some.injEq] at hd
    subst hd
    omega
  have hs : (i :: L.hostsBelow e.sequence) ⊆ l := List.cons_subset.mpr ⟨hil, fun j hj => hl j hj⟩
  have := hnd.length_le_of_subset hs
  rw [renumbered_eq]
  simpa using this

/-- R14: renumbering keeps the order of the sequences. -/
theorem newSequence_lt {L : LoadRec} (hL : GrantOrderLaw L) {i j : Slot} {ei ej : Entry} (hi : L.entry i = some ei) (hj : L.entry j = some ej)
    (hlt : ei.sequence < ej.sequence) : newSequence L i ei < newSequence L j ej := by
  obtain ⟨e0, h0, hs0⟩ := hL.backlight
  have hj0 : j ≠ 0 := by
    rintro rfl
    rw [h0, Option.some.injEq] at hj
    subst hj
    omega
  simp only [newSequence, if_neg hj0]
  by_cases hi0 : i = 0
  · subst hi0
    rw [h0, Option.some.injEq] at hi
    subst hi
    rw [if_pos rfl, hs0, renumbered_eq]
    omega
  · rw [if_neg hi0, renumbered_eq L ej]
    refine Nat.lt_succ_of_le (renumbered_le hi (LoadRec.mem_hostsBelow.mpr ⟨hi0, ei, hi, hlt⟩) fun k hk => ?_)
    obtain ⟨hk0, ek, hek, hlk⟩ := LoadRec.mem_hostsBelow.mp hk
    exact LoadRec.mem_hostsBelow.mpr ⟨hk0, ek, hek, Nat.lt_trans hlk hlt⟩

theorem newSequence_inj {L : LoadRec} (hL : GrantOrderLaw L) {i j : Slot} {ei ej : Entry} (hi : L.entry i = some ei) (hj : L.entry j = some ej)
    (heq : newSequence L i ei = newSequence L j ej) : ei.sequence = ej.sequence := by
  rcases Nat.lt_trichotomy ei.sequence ej.sequence with h | h | h
  · have := newSequence_lt hL hi hj h
    omega
  · exact h
  · have := newSequence_lt hL hj hi h
    omega

theorem newSequence_le {L : LoadRec} (hL : GrantOrderLaw L) {i : Slot} {e : Entry} (he : L.entry i = some e) :
    newSequence L i e ≤ L.hostSlots.length := by
  unfold newSequence
  split
  next hi =>
    obtain ⟨e0, h0, hs0⟩ := hL.backlight
    rw [hi, h0, Option.some.injEq] at he
    subst he
    omega
  next hi =>
    refine renumbered_le he (LoadRec.mem_hostSlots.mpr ⟨hi, e, he⟩) fun j hj => ?_
    obtain ⟨hj0, ej, hej, -⟩ := LoadRec.mem_hostsBelow.mp hj
    exact LoadRec.mem_hostSlots.mpr ⟨hj0, ej, hej⟩

/-- R9, R14: renumbering keeps the law of the Grant Order. -/
theorem grantOrderLaw_renumber {L : LoadRec} (hL : GrantOrderLaw L) : GrantOrderLaw L.renumber := by
  have hback : ∀ i e, L.renumber.entry i = some e → ∃ d, L.entry i = some d ∧ e = renumberedEntry L i d := by
    intro i e he
    rw [LoadRec.entry_renumber, Option.map_eq_some_iff] at he
    obtain ⟨d, hd, rfl⟩ := he
    exact ⟨d, hd, rfl⟩
  have hforth : ∀ i d, L.entry i = some d → L.renumber.entry i = some (renumberedEntry L i d) := by
    intro i d hd
    rw [LoadRec.entry_renumber, hd, Option.map_some]
  refine ⟨fun i => ?members, ?sorted, fun i j ei ej hi hj hs => ?unique, fun i e he => ?below, ?backlight, ?counter⟩
  case members =>
    rw [L.order_renumber, hL.members]
    constructor
    · rintro ⟨e, he, hs⟩
      exact ⟨_, hforth i e he, hs⟩
    · rintro ⟨e, he, hs⟩
      obtain ⟨d, hd, rfl⟩ := hback i e he
      exact ⟨d, hd, hs⟩
  case sorted =>
    rw [L.order_renumber]
    refine hL.sorted.imp ?_
    rintro i j ⟨ei, ej, hi, hj, hp⟩
    refine ⟨_, _, hforth i ei hi, hforth j ej hj, ?_⟩
    rw [precedes_iff] at hp ⊢
    rcases hp with hp | ⟨hr, hs⟩
    · exact .inl hp
    · exact .inr ⟨hr, newSequence_lt hL hi hj hs⟩
  case unique =>
    obtain ⟨di, hdi, rfl⟩ := hback i ei hi
    obtain ⟨dj, hdj, rfl⟩ := hback j ej hj
    exact hL.unique i j di dj hdi hdj (newSequence_inj hL hdi hdj hs)
  case below =>
    obtain ⟨d, hd, rfl⟩ := hback i e he
    rw [L.counter_renumber]
    exact Nat.lt_succ_of_le (newSequence_le hL hd)
  case backlight =>
    obtain ⟨e, he, hs⟩ := hL.backlight
    exact ⟨_, hforth 0 e he, hs⟩
  case counter =>
    have := L.length_hostSlots
    rw [L.counter_renumber]
    unfold counterLimit
    omega

theorem walkable_congr_sequence {e : Entry} (n : Nat) (h : Walkable e) : Walkable { e with sequence := n } := by
  refine ⟨h.1, fun hme => ?_⟩
  have hl := h.2 hme
  exact ⟨hl.counted, hl.granted, hl.bounds, hl.off, hl.full, hl.reduced, hl.grace, hl.holdoff⟩

theorem kindLaw_congr_sequence {i : Slot} {e : Entry} (n : Nat) (h : KindLaw i e) : KindLaw i { e with sequence := n } :=
  ⟨h.backlight, h.rail, h.switched, h.cut, h.slot0⟩

theorem walkableLaw_renumber {L : LoadRec} (hL : WalkableLaw L) : WalkableLaw L.renumber := by
  refine ⟨grantOrderLaw_renumber hL.order, fun i e he => ?_, fun i j ei ej hi hj hs hr => ?_, L.draft_renumber.symm ▸ hL.draft⟩
  · rw [LoadRec.entry_renumber, Option.map_eq_some_iff] at he
    obtain ⟨d, hd, rfl⟩ := he
    exact ⟨walkable_congr_sequence _ (hL.entries i d hd).1, kindLaw_congr_sequence _ (hL.entries i d hd).2⟩
  · rw [LoadRec.entry_renumber, Option.map_eq_some_iff] at hi hj
    obtain ⟨di, hdi, rfl⟩ := hi
    obtain ⟨dj, hdj, rfl⟩ := hj
    exact hL.rails i j di dj hdi hdj hs hr

/-! ### Admission (R13, R16) -/

/-- R13, R14: the table before an admission has room for a sequence. -/
theorem walkableLaw_readyCounter {L : LoadRec} (hL : WalkableLaw L) : WalkableLaw L.readyCounter ∧ L.readyCounter.counter < counterLimit := by
  unfold LoadRec.readyCounter
  split
  · refine ⟨walkableLaw_renumber hL, ?_⟩
    have := L.length_hostSlots
    rw [L.counter_renumber]
    unfold counterLimit
    omega
  next hc =>
    have := hL.order.counter.2
    exact ⟨hL, by omega⟩

theorem LoadRec.entry_readyCounter_isSome (L : LoadRec) (i : Slot) : (L.readyCounter.entry i).map Entry.rail = (L.entry i).map Entry.rail := by
  unfold LoadRec.readyCounter
  split
  · rw [LoadRec.entry_renumber, Option.map_map]
    rfl
  · rfl

/-- R13, R14: the slot takes a record with a sequence of its own, above every other. -/
theorem orderWithout_admitted {L : LoadRec} (hL : GrantOrderLaw L) (hc : L.counter < counterLimit) {i : Slot} (hi : L.entry i = none)
    {e : Entry} (hs : e.sequence = L.counter) : OrderWithout i (({ L with counter := L.counter + 1 }).setEntry i (some e)) := by
  have hself : (({ L with counter := L.counter + 1 }).setEntry i (some e)).entry i = some e := LoadRec.entry_setEntry_self _ _ _
  have hother : ∀ j, j ≠ i → (({ L with counter := L.counter + 1 }).setEntry i (some e)).entry j = L.entry j :=
    fun j hj => LoadRec.entry_setEntry_ne _ _ hj
  have hnot : ∀ j, j ∈ L.order → j ≠ i := by
    rintro j hj rfl
    obtain ⟨d, hd, -⟩ := (hL.members j).mp hj
    rw [hi] at hd
    cases hd
  refine ⟨fun j => ⟨fun hj => ?_, fun hj => ?_⟩, ?sorted, fun j k ej ek hj hk hjk => ?unique, fun j ej hj => ?below, ?backlight, ?counter⟩
  · obtain ⟨d, hd, hds⟩ := (hL.members j).mp hj
    exact ⟨hnot j hj, d, (hother j (hnot j hj)).trans hd, hds⟩
  · obtain ⟨hji, d, hd, hds⟩ := hj
    exact (hL.members j).mpr ⟨d, hother j hji ▸ hd, hds⟩
  case sorted => exact hL.sorted.imp_of_mem fun {a b} ha hb => before_congr hother (hnot a ha) (hnot b hb)
  case unique =>
    by_cases hji : j = i <;> by_cases hki : k = i
    · rw [hji, hki]
    · rw [hji, hself, Option.some.injEq] at hj
      have := hL.below k ek (hother k hki ▸ hk)
      subst hj
      omega
    · rw [hki, hself, Option.some.injEq] at hk
      have := hL.below j ej (hother j hji ▸ hj)
      subst hk
      omega
    · exact hL.unique j k ej ek (hother j hji ▸ hj) (hother k hki ▸ hk) hjk
  case below =>
    show ej.sequence < L.counter + 1
    by_cases hji : j = i
    · rw [hji, hself, Option.some.injEq] at hj
      subst hj
      omega
    · have := hL.below j ej (hother j hji ▸ hj)
      omega
  case backlight =>
    obtain ⟨e0, he0, hs0⟩ := hL.backlight
    refine ⟨e0, (hother 0 ?_).trans he0, hs0⟩
    rintro rfl
    rw [hi] at he0
    cases he0
  case counter =>
    show 1 ≤ L.counter + 1 ∧ L.counter + 1 ≤ counterLimit
    omega

/-- R13: a record for a FREE slot is placed. -/
theorem walkableLaw_place {L : LoadRec} (hL : WalkableLaw L) {i : Slot} {e : Entry} (hi : L.entry i = none) (hm : e.state.isMember = true)
    (hw : Walkable e) (hkind : KindLaw i e) (hr : RailFree L i e) : WalkableLaw (L.place i e) := by
  obtain ⟨hL1, hc⟩ := walkableLaw_readyCounter hL
  have hmap := L.entry_readyCounter_isSome
  have hi1 : L.readyCounter.entry i = none := by simpa [hi] using hmap i
  have hw1 := orderWithout_admitted hL1.order hc hi1 (e := { e with sequence := L.readyCounter.counter }) rfl
  have hself := LoadRec.entry_setEntry_self { L.readyCounter with counter := L.readyCounter.counter + 1 } i
    (some { e with sequence := L.readyCounter.counter })
  have hother : ∀ j, j ≠ i → (L.place i e).entry j = L.readyCounter.entry j := fun j hj => LoadRec.entry_setEntry_ne _ _ hj
  have horder : GrantOrderLaw (L.place i e) := hw1.join hself hm
  have hfree : RailFree L.readyCounter i { e with sequence := L.readyCounter.counter } := by
    intro hs j ej hj hej heq
    have hjm := hmap j
    rw [hej, Option.map_some] at hjm
    obtain ⟨d, hd, hdr⟩ := Option.map_eq_some_iff.mp hjm.symm
    exact hr hs j d hj hd (hdr.trans heq)
  refine ⟨horder, fun j ej hej => ?_, ?_, hL1.draft⟩
  · by_cases hj : j = i
    · have : (L.place i e).entry i = _ := hself
      rw [hj, this, Option.some.injEq] at hej
      subst hj hej
      exact ⟨walkable_congr_sequence _ hw, kindLaw_congr_sequence _ hkind⟩
    · exact hL1.entries j ej (hother j hj ▸ hej)
  · intro j k ej ek hj hk hs heq
    by_cases hji : j = i
    · subst hji
      refine Classical.byContradiction fun hne => ?_
      rw [show (L.place j e).entry j = _ from hself, Option.some.injEq] at hj
      subst hj
      exact hfree hs k ek (Ne.symm hne) (hother k (Ne.symm hne) ▸ hk) heq.symm
    · by_cases hki : k = i
      · subst hki
        rw [show (L.place k e).entry k = _ from hself, Option.some.injEq] at hk
        subst hk
        exact absurd heq (hfree (heq ▸ hs) j ej hji (hother j hji ▸ hj))
      · exact hL1.rails j k ej ek (hother j hji ▸ hj) (hother k hki ▸ hk) hs heq

/-- R16: what the arguments of an ADMIT give. -/
structure Admitted (e : Entry) : Prop where
  state : e.state = .pending
  grace : e.grace = none
  holdoff : e.holdoff = none
  bounds : e.minimum ≤ e.requested
  kind : e.kind ≠ .backlight
  rail : e.rail.isSome = true ↔ e.kind = .switched
  switched : e.kind = .switched → e.minimum = e.requested
  cut : e.fallAction = some .cut → e.kind = .switched

theorem admitted_of_admitRecord {a : AdmitArgs} {e : Entry} (h : admitRecord a = some e) : Admitted e := by
  unfold admitRecord at h
  repeat' split at h
  all_goals try cases h
  · exact ⟨rfl, rfl, rfl, Nat.le_refl _, by simp, by simp, fun _ => rfl, fun _ => rfl⟩
  next hc => exact ⟨rfl, rfl, rfl, hc.2.2.1, by simp, by simp, (fun hk => by cases hk), fun hf => absurd hf hc.2.2.2⟩

theorem Admitted.walkable {e : Entry} (h : Admitted e) : Walkable e :=
  ⟨h.bounds, fun hme => absurd ⟨by rw [h.state]; rfl, (eligible_iff e).mpr ⟨h.grace, fun hs => hs.2 h.holdoff⟩⟩ hme⟩

theorem Admitted.kindLaw {e : Entry} (h : Admitted e) {i : Slot} (hi : i ≠ 0) : KindLaw i e :=
  ⟨⟨fun hk => absurd hk h.kind, fun h0 => absurd h0 hi⟩, h.rail, h.switched, h.cut, fun hk => absurd hk h.kind⟩

/-- R11: no live entry names a rail without holder. -/
theorem LoadRec.railHolder_eq_none {L : LoadRec} {r : Fin 12} : L.railHolder r = none ↔ ∀ j ej, L.entry j = some ej → ej.rail ≠ some r := by
  unfold LoadRec.railHolder
  rw [List.head?_eq_none_iff, List.eq_nil_iff_forall_not_mem]
  constructor
  · intro h j ej hej hr
    exact h j (LoadRec.mem_slotsWhere.mpr ⟨ej, hej, by simp [hr]⟩)
  · intro h j hj
    obtain ⟨ej, hej, hr⟩ := LoadRec.mem_slotsWhere.mp hj
    exact h j ej hej (by simpa using hr)

theorem LoadRec.freeSlot_eq_some {L : LoadRec} {i : Slot} (h : L.freeSlot = some i) : i ≠ 0 ∧ L.entry i = none := by
  have := List.find?_some h
  simpa using this

theorem walkableLaw_applyAdmit {a : AdmitArgs} {s u : State} {h : Handle} (ha : applyAdmit a s = .ok (u, h)) (hL : WalkableLaw s.load) :
    WalkableLaw u.load := by
  unfold applyAdmit at ha
  repeat' split at ha
  all_goals cases ha
  next e hrec _ i hi hr =>
    have hadm := admitted_of_admitRecord hrec
    obtain ⟨hi0, hfree⟩ := LoadRec.freeSlot_eq_some hi
    refine walkableLaw_place hL hfree (by rw [hadm.state]; rfl) hadm.walkable (hadm.kindLaw hi0) fun hs j ej _ hej heq => ?_
    obtain ⟨r, hre⟩ := Option.isSome_iff_exists.mp hs
    have hnone : s.load.railHolder r = none := by simpa [hre] using hr
    exact LoadRec.railHolder_eq_none.mp hnone j ej hej (heq.trans hre)

/-! ### Revision (R17) -/

/-- R17: a REVISE that passes its checks. -/
structure RevisionOk (a : ReviseArgs) (e : Entry) : Prop where
  ranges : reviseRangesOk a = true
  kind : reviseKindOk a e = true
  state : reviseStateOk a e = true

section
variable {a : ReviseArgs} {e : Entry} (h : RevisionOk a e)
include h

theorem RevisionOk.switched (hk : e.kind = .switched) : revisedMinimum a e = revisedRequested a e := by
  simpa [reviseKindOk, hk] using h.kind

theorem RevisionOk.throttled (hk : e.kind = .throttled) : ReviseNamed a 6 = false ∧ revisedMinimum a e ≤ revisedRequested a e ∧
    (ReviseNamed a 4 = true → readFallAction a.fallAction ≠ some (some .cut)) := by
  have hc := h.kind
  simp only [reviseKindOk, hk] at hc
  simpa [and_assoc, Decidable.imp_iff_not_or] using hc

theorem RevisionOk.backlight (hk : e.kind = .backlight) :
    ReviseNamed a 1 = false ∧ ReviseNamed a 2 = false ∧ ReviseNamed a 4 = false ∧ ReviseNamed a 6 = false := by
  have hc := h.kind
  simp only [reviseKindOk, hk] at hc
  simpa [and_assoc] using hc

theorem RevisionOk.bounds (hb : e.minimum ≤ e.requested) : revisedMinimum a e ≤ revisedRequested a e := by
  cases hk : e.kind with
  | switched => exact Nat.le_of_eq (h.switched hk)
  | throttled => exact (h.throttled hk).2.1
  | backlight =>
    obtain ⟨h1, h2, -, -⟩ := h.backlight hk
    simpa [revisedMinimum, revisedRequested, h1, h2, hk] using hb

theorem RevisionOk.grace_of_named (hn : ReviseNamed a 1 = true ∨ ReviseNamed a 2 = true) : e.grace = none := by
  have hc := h.state
  simp only [reviseStateOk, Bool.and_eq_true, Bool.not_eq_true', Bool.and_eq_false_iff] at hc
  have := hc.1.1
  rcases hn with hn | hn <;> simpa [hn] using this

theorem RevisionOk.rail_of_named (hn : ReviseNamed a 6 = true) : (readRail a.rail).isSome = true := by
  have hc := h.ranges
  simp only [reviseRangesOk, Bool.and_eq_true] at hc
  simpa [hn] using hc.2

/-- R3, R6: a revision keeps to what the kind allows. -/
theorem RevisionOk.kindLaw {i : Slot} (hk : KindLaw i e) : KindLaw i (revisedEntry a e) where
  backlight := hk.backlight
  rail := by
    show (if ReviseNamed a 6 then readRail a.rail else e.rail).isSome = true ↔ e.kind = .switched
    split
    next hn =>
      refine iff_of_true (h.rail_of_named hn) ?_
      cases hkind : e.kind with
      | switched => rfl
      | throttled => rw [(h.throttled hkind).1] at hn; cases hn
      | backlight => rw [(h.backlight hkind).2.2.2] at hn; cases hn
    · exact hk.rail
  switched := h.switched
  cut := fun hc => by
    have hc : (if ReviseNamed a 4 then (readFallAction a.fallAction).getD none else e.fallAction) = some .cut := hc
    split at hc
    next hn =>
      have hcut : readFallAction a.fallAction = some (some .cut) := by
        cases hf : readFallAction a.fallAction with
        | none => rw [hf] at hc; cases hc
        | some f => rw [hf] at hc; exact congrArg some hc
      show e.kind = .switched
      cases hkind : e.kind with
      | switched => rfl
      | throttled => exact absurd hcut ((h.throttled hkind).2.2 hn)
      | backlight => rw [(h.backlight hkind).2.2.1] at hn; cases hn
    · exact hk.cut hc
  slot0 := fun hb => by
    obtain ⟨-, -, h4, -⟩ := h.backlight hb
    have hf : (revisedEntry a e).fallAction = e.fallAction := by simp [revisedEntry, h4]
    exact hf ▸ hk.slot0 hb

omit h in
/-- R17: a revision that names neither power leaves both. -/
theorem revised_powers {i : Slot} (hk : KindLaw i e) (h1 : ReviseNamed a 1 = false) (h2 : ReviseNamed a 2 = false) :
    revisedRequested a e = e.requested ∧ revisedMinimum a e = e.minimum := by
  refine ⟨by simp [revisedRequested, h1], ?_⟩
  by_cases hs : e.kind = .switched
  · simp [revisedMinimum, revisedRequested, h1, h2, hs, hk.switched hs]
  · simp [revisedMinimum, h2, hs]

/-- R2, R8, R17: a revision that names no power, or one of an entry that has nothing granted, leaves a lawful entry lawful. -/
theorem RevisionOk.entryLaw {i : Slot} (hk : KindLaw i e) (hl : EntryLaw e)
    (hp : (ReviseNamed a 1 = false ∧ ReviseNamed a 2 = false) ∨ ¬(e.state.isMember = true ∧ e.eligible = true)) :
    EntryLaw (revisedEntry a e) := by
  by_cases hn : ReviseNamed a 1 = false ∧ ReviseNamed a 2 = false
  · obtain ⟨hr, hm⟩ := revised_powers hk hn.1 hn.2
    have hr : (revisedEntry a e).requested = e.requested := hr
    have hm : (revisedEntry a e).minimum = e.minimum := hm
    exact ⟨hl.counted, by rw [hr, hm]; exact hl.granted, by rw [hr, hm]; exact hl.bounds, hl.off, by rw [hr]; exact hl.full,
      by rw [hr]; exact hl.reduced, hl.grace, hl.holdoff⟩
  · have hg : e.grace = none := h.grace_of_named (by
      rw [Classical.not_and_iff_not_or_not, Bool.not_eq_false, Bool.not_eq_false] at hn
      exact hn)
    have hstate : e.state = .shed ∨ e.state = .lapsed ∨ e.state = .held := by
      have hp := hp.resolve_left hn
      rw [eligible_iff] at hp
      refine Classical.byContradiction fun hs => ?_
      rw [not_or, not_or] at hs
      refine hp ⟨?_, hg, fun hsh => hs.1 hsh.1⟩
      revert hs
      cases e.state <;> simp [EntryState.isMember]
    have h0 : e.granted = 0 := hl.off (.inr hstate)
    refine ⟨hl.counted, .inl h0, h.bounds hl.bounds, fun _ => h0, fun hs => ?_, fun hs => ?_, hl.grace, hl.holdoff⟩
    · have hs : e.state = .granted := hs
      rw [hs] at hstate
      simp at hstate
    · have hs : e.state = .reduced := hs
      rw [hs] at hstate
      simp at hstate

theorem RevisionOk.walkable {i : Slot} (hk : KindLaw i e) (hw : Walkable e) : Walkable (revisedEntry a e) :=
  ⟨h.bounds hw.1, fun hme => h.entryLaw hk (hw.2 hme) (.inr hme)⟩

end

theorem entry_of_lookup {L : LoadRec} {h : Handle} {i : Slot} {e : Entry} (hl : L.lookup h = some (i, e)) : L.entry i = some e := by
  unfold LoadRec.lookup at hl
  split at hl
  · split at hl
    next he =>
      split at hl
      · simp only [Option.some.injEq, Prod.mk.injEq] at hl
        obtain ⟨rfl, rfl⟩ := hl
        exact he
      · cases hl
    · cases hl
  · cases hl

/-- R17: a revision in place of the record, whatever the order becomes. -/
theorem replaces_revise (L : LoadRec) (i : Slot) (a : ReviseArgs) (e : Entry) : Replaces L (L.revise i a e) i (some (revisedEntry a e)) := by
  unfold LoadRec.revise
  dsimp only
  split
  · exact ((replaces_setEntry L i _).leave i).join i _
  · exact replaces_setEntry L i _

theorem LoadRec.revise_ceiling (L : LoadRec) (i : Slot) (a : ReviseArgs) (e : Entry) : (L.revise i a e).ceiling = L.ceiling := by
  unfold LoadRec.revise
  dsimp only
  split <;> rfl

theorem LoadRec.revise_overcommit (L : LoadRec) (i : Slot) (a : ReviseArgs) (e : Entry) :
    (L.revise i a e).overcommit = L.overcommit := by
  unfold LoadRec.revise
  dsimp only
  split <;> rfl

/-- R9, R10, R17: a revision keeps the law of the Grant Order. -/
theorem grantOrderLaw_revise {L : LoadRec} (hL : GrantOrderLaw L) {i : Slot} {a : ReviseArgs} {e : Entry} (he : L.entry i = some e) :
    GrantOrderLaw (L.revise i a e) := by
  unfold LoadRec.revise
  dsimp only
  split
  next hn => exact grantOrderLaw_move hL he rfl (by simp only [Bool.and_eq_true] at hn; exact hn.2)
  next hn =>
    cases hm : e.state.isMember with
    | false => exact grantOrderLaw_aside hL he hm rfl hm
    | true =>
      have h0 : ReviseNamed a 0 = false := by simpa [hm] using hn
      refine (samePlaces_setEntry he ?_).grantOrder hL
      exact (Entry.place_eq_iff _ _).mpr ⟨by simp [revisedEntry, h0], rfl, rfl⟩

/-- R11, R17: a revision takes no rail of another's. -/
theorem railFree_revised {L : LoadRec} (hL : RailsApart L) {i : Slot} {a : ReviseArgs} {e : Entry} (he : L.entry i = some e)
    (ht : reviseRailTaken L i a = false) : RailFree L i (revisedEntry a e) := by
  cases hn : ReviseNamed a 6 with
  | false => exact hL.railFree he (by simp [revisedEntry, hn])
  | true =>
    intro hs j ej hj hej heq
    have hrail : (revisedEntry a e).rail = readRail a.rail := by simp [revisedEntry, hn]
    rw [hrail] at hs heq
    rw [reviseRailTaken, hn, Bool.true_and, List.any_eq_false] at ht
    refine ht j (LoadRec.mem_slotsWhere.mpr ⟨ej, hej, by simp [heq, hs]⟩) ?_
    rwa [bne_iff_ne]

/-- What an accepted REVISE has found, and what it makes of the table. -/
theorem applyRevise_eq_ok {a : ReviseArgs} {s u : State} {w : Bool} (ha : applyRevise a s = .ok (u, w)) :
    ∃ i e, s.load.lookup a.handle = some (i, e) ∧ RevisionOk a e ∧ reviseRailTaken s.load i a = false ∧
      u = { s with load := s.load.revise i a e } ∧ w = reviseWalks a e := by
  unfold applyRevise at ha
  repeat' split at ha
  all_goals cases ha
  next i e hl hok hst ht =>
    simp only [Bool.not_eq_true', Bool.and_eq_true, Bool.not_eq_false, Bool.not_eq_true] at hok hst ht
    exact ⟨i, e, hl, ⟨hok.1, hok.2, hst⟩, ht, rfl, rfl⟩

theorem walkableLaw_applyRevise {a : ReviseArgs} {s u : State} {w : Bool} (ha : applyRevise a s = .ok (u, w)) (hL : WalkableLaw s.load) :
    WalkableLaw u.load := by
  obtain ⟨i, e, hl, hok, ht, rfl, -⟩ := applyRevise_eq_ok ha
  have he := entry_of_lookup hl
  obtain ⟨hw, hk⟩ := hL.entries i e he
  exact hL.of_replaces (replaces_revise _ i a e) (grantOrderLaw_revise hL.order he)
    (fun x hx => by injection hx with hx; exact hx ▸ ⟨hok.walkable hk hw, hok.kindLaw hk⟩)
    (fun x hx => by injection hx with hx; exact hx ▸ railFree_revised hL.rails he ht)

/-- R17, R27: a revision that names nothing the walk reads of a member keeps the law of the table. -/
theorem tableLaw_applyRevise {a : ReviseArgs} {s u : State} (ha : applyRevise a s = .ok (u, false)) (hL : TableLaw s.load) :
    TableLaw u.load := by
  have hw := walkableLaw_applyRevise ha hL.walkable
  obtain ⟨i, e, hl, hok, ht, rfl, hwalks⟩ := applyRevise_eq_ok ha
  have he := entry_of_lookup hl
  obtain ⟨hlaw, hk⟩ := hL.entries i e he
  have hr := replaces_revise s.load i a e
  refine hL.of_walkable hw (hr.entryLaw hL fun x hx => ?_) (hr.countedAt he rfl) ?_ ?_
  · injection hx with hx
    subst hx
    refine hok.entryLaw hk hlaw ?_
    have hwalks : (ReviseNamed a 0 || ReviseNamed a 1 || ReviseNamed a 2) = false ∨ e.state.isMember = false := by
      rw [reviseWalks, eq_comm, Bool.and_eq_false_iff] at hwalks
      exact hwalks
    rcases hwalks with hn | hm
    · simp only [Bool.or_eq_false_iff] at hn
      exact .inl ⟨hn.1.2, hn.2⟩
    · exact .inr fun hme => by rw [hm] at hme; cases hme.1
  · exact LoadRec.revise_ceiling _ i a e
  · exact LoadRec.revise_overcommit _ i a e

end Sys2Proof.Machine
end

section
/-!
PROOFS. Every change of the model and the law of the load table: what each event, request and claim of the Load Manager leaves before its walk and
behind it. The statement assembled from them: O8.
-/
namespace Sys2Proof.Machine

/-! ### The walk and the hand-overs -/

theorem tableLaw_runWalk {s : State} (h : WalkableLaw s.load) : TableLaw (runWalk s).load := by
  rw [load_runWalk]
  exact tableLaw_walked _ h

theorem tableLaw_walkWhenAny {is : List Slot} {s : State} (h : WalkableLaw s.load) (h0 : is = [] → TableLaw s.load) :
    TableLaw (walkWhenAny is s).load := by
  unfold walkWhenAny
  split
  next he => exact h0 (List.isEmpty_iff.mp he)
  · exact tableLaw_runWalk h

/-- R37: a hand-over changes nothing of the table but the grant last handed over. -/
theorem load_handLoadResults (before : LoadRec) (answer : Bool) (s : State) :
    (handLoadResults before answer s).load = s.load ∨
    (handLoadResults before answer s).load = { s.load with grantHanded := s.load.slot0Grant } := by
  unfold handLoadResults
  dsimp only
  split <;> split
  · exact .inr rfl
  · exact .inl rfl
  · exact .inr rfl
  · exact .inl rfl

theorem tableLaw_handLoadResults {before : LoadRec} {answer : Bool} {s : State} (h : TableLaw s.load) :
    TableLaw (handLoadResults before answer s).load := by
  rcases load_handLoadResults before answer s with hl | hl
  · rw [hl]
    exact h
  · rw [hl]
    exact h.of_sameEntries rfl rfl (fun _ => rfl) h.draft rfl rfl

theorem tableLaw_loadChange {f : State → State} {s : State} (h : TableLaw (f s).load) : TableLaw (loadChange f s).load :=
  tableLaw_handLoadResults h

theorem tableLaw_walkedEvent {m u : State} (h : WalkableLaw u.load) : TableLaw (walkedEvent m u).load :=
  tableLaw_handLoadResults (tableLaw_runWalk h)

/-! ### The expiries -/

theorem entryLaw_endGrace {e : Entry} (h : EntryLaw e) : EntryLaw (endGrace e) :=
  ⟨rfl, h.granted, h.bounds, h.off, h.full, h.reduced, fun hg => (by cases hg), h.holdoff⟩

theorem kindLaw_endGrace {i : Slot} {e : Entry} (h : KindLaw i e) : KindLaw i (endGrace e) :=
  ⟨h.backlight, h.rail, h.switched, h.cut, h.slot0⟩

/-- R44, R45: a grace has ended. -/
theorem walkableLaw_endGrace {L : LoadRec} (hL : TableLaw L) {i : Slot} {e : Entry} (he : L.entry i = some e) :
    WalkableLaw (L.setEntry i (some (endGrace e))) :=
  hL.walkable.setEntry he rfl (entryLaw_endGrace (hL.entries i e he).1).walkable (kindLaw_endGrace (hL.entries i e he).2)

theorem tableLaw_expireGrace (i : Slot) {s : State} (h : TableLaw s.load) : TableLaw (expireGrace i s).load := by
  unfold expireGrace
  split
  next e he =>
    split
    · split
      · exact tableLaw_loadChange (tableLaw_runWalk (walkableLaw_endGrace h he))
      · exact h
    · exact h
  · exact h

theorem tableLaw_expireHoldoff (i : Slot) {s : State} (h : TableLaw s.load) : TableLaw (expireHoldoff i s).load := by
  unfold expireHoldoff
  split
  next e he =>
    obtain ⟨hl, hk⟩ := h.entries i e he
    split
    · refine tableLaw_loadChange (tableLaw_runWalk ?_)
      exact h.walkable.setEntry (d := { e with holdoff := none }) he rfl
        (EntryLaw.walkable ⟨hl.counted, hl.granted, hl.bounds, hl.off, hl.full, hl.reduced, hl.grace, fun hh => by cases hh⟩)
        ⟨hk.backlight, hk.rail, hk.switched, hk.cut, hk.slot0⟩
    · exact h
  · exact h

theorem entryLaw_lapsedEntry {l : Lease} {e : Entry} (h : EntryLaw e) : EntryLaw (lapsedEntry l e) :=
  ⟨rfl, .inl rfl, h.bounds, fun _ => rfl, fun hs => (by cases hs), fun hs => (by cases hs), fun hg => (by cases hg),
    fun hh => by cases hh⟩

theorem kindLaw_lapsedEntry {l : Lease} {i : Slot} {e : Entry} (h : KindLaw i e) : KindLaw i (lapsedEntry l e) :=
  ⟨h.backlight, h.rail, h.switched, h.cut, fun hk => ⟨(h.slot0 hk).1, (h.slot0 hk).2.1, fun hs => by cases hs⟩⟩

theorem tableLaw_lapseEntry (i : Slot) {s : State} (h : TableLaw s.load) : TableLaw (lapseEntry i s).load := by
  unfold lapseEntry
  split
  next e he =>
    split
    next l _ =>
      split
      · exact h
      · obtain ⟨hl, hk⟩ := h.entries i e he
        refine tableLaw_loadChange (tableLaw_runWalk ?_)
        exact h.walkable.leave he rfl rfl rfl (entryLaw_lapsedEntry hl) (kindLaw_lapsedEntry hk)
    · exact h
  · exact h

/-! ### The ceiling and the claim of slot 0 -/

theorem tableLaw_takeCeiling (ceiling : Nat) {s : State} (h : TableLaw s.load) : TableLaw (takeCeiling ceiling s).load := by
  unfold takeCeiling
  split
  · exact h
  · refine tableLaw_loadChange (tableLaw_runWalk ?_)
    exact h.walkable.of_sameEntries rfl rfl (fun _ => rfl) h.draft

theorem kind_slot0 {L : LoadRec} (hL : TableLaw L) {e : Entry} (he : L.entry 0 = some e) : e.kind = .backlight :=
  (hL.entries 0 e he).2.backlight.mpr rfl

/-- R42: slot 0 is never in grace. -/
theorem grace_slot0 {L : LoadRec} (hL : TableLaw L) {e : Entry} (he : L.entry 0 = some e) : e.grace = none := by
  refine Classical.byContradiction fun hg => ?_
  have hk := ((hL.entries 0 e he).1.grace (Option.isSome_iff_ne_none.mpr hg)).1
  rw [kind_slot0 hL he] at hk
  cases hk

/-- R7, R25, R38: slot 0 with another pair of powers, and PENDING without holdoff when it asks for nothing. -/
structure Slot0Asks (e d : Entry) : Prop where
  rank : d.rank = e.rank
  sequence : d.sequence = e.sequence
  rail : d.rail = e.rail
  kind : d.kind = e.kind
  fallAction : d.fallAction = e.fallAction
  mark : d.mark = e.mark
  granted : d.granted = e.granted
  counted : d.counted = e.counted
  grace : d.grace = e.grace
  bounds : d.minimum ≤ d.requested
  asks : (d.state = e.state ∧ d.holdoff = e.holdoff) ∨ (d.holdoff = none ∧ e.state.isMember = true ∧ d.state = .pending) ∨
    (d.holdoff = none ∧ e.state.isMember = false ∧ d.state = e.state)

theorem Slot0Asks.member {e d : Entry} (h : Slot0Asks e d) : d.state.isMember = e.state.isMember := by
  rcases h.asks with ⟨hs, -⟩ | ⟨-, hm, hs⟩ | ⟨-, -, hs⟩ <;> rw [hs]
  exact hm.symm

theorem Slot0Asks.kindLaw {e d : Entry} (h : Slot0Asks e d) (hk : KindLaw 0 e) : KindLaw 0 d := by
  have hb : e.kind = .backlight := hk.backlight.mpr rfl
  have hd : d.kind = .backlight := h.kind.trans hb
  refine ⟨⟨fun _ => rfl, fun _ => hd⟩, by rw [h.rail, h.kind]; exact hk.rail, fun hs => ?_, fun hc => ?_, fun _ => ?_⟩
  · rw [hd] at hs
    cases hs
  · rw [h.kind]
    exact hk.cut (h.fallAction ▸ hc)
  · obtain ⟨hf, hm, hs⟩ := hk.slot0 hb
    refine ⟨h.fallAction.trans hf, h.mark.trans hm, fun hh => ?_⟩
    rcases h.asks with ⟨hst, -⟩ | ⟨-, -, hst⟩ | ⟨-, -, hst⟩
    · exact hs (hst.symm.trans hh)
    · rw [hh] at hst
      cases hst
    · exact hs (hst.symm.trans hh)

/-- R2, R8: nothing granted, nothing to judge by the powers. -/
theorem Slot0Asks.entryLaw_of_off {e d : Entry} (h : Slot0Asks e d) (hl : EntryLaw e) (hg : e.grace = none)
    (hoff : e.state = .shed ∨ e.state = .lapsed ∨ e.state = .held) (hst : d.state = e.state) : EntryLaw d := by
  have h0 : d.granted = 0 := h.granted.trans (hl.off (.inr hoff))
  have hc := hl.counted
  rw [hg] at hc
  refine ⟨?_, .inl h0, h.bounds, fun _ => h0, fun hs => ?_, fun hs => ?_, fun hs => ?_, fun hs => ?_⟩
  · rw [h.grace, hg, h.counted, h.granted]
    exact hc
  · rw [hst] at hs
    simp [hs] at hoff
  · rw [hst] at hs
    simp [hs] at hoff
  · rw [h.grace, hg] at hs
    cases hs
  · rcases h.asks with ⟨-, hh⟩ | ⟨hh, -⟩ | ⟨hh, -⟩
    · rw [hst]
      exact hl.holdoff (hh ▸ hs)
    · rw [hh] at hs
      cases hs
    · rw [hh] at hs
      cases hs

theorem Slot0Asks.walkable {e d : Entry} (h : Slot0Asks e d) (hl : EntryLaw e) (hg : e.grace = none) : Walkable d := by
  refine ⟨h.bounds, fun hme => ?_⟩
  rw [h.member, eligible_iff, h.grace] at hme
  have hgd : ∀ p : Prop, (e.state.isMember = true → ¬(d.state = .shed ∧ d.holdoff ≠ none) → p) → p ∨ (e.state.isMember = true → False) ∨
      (d.state = .shed ∧ d.holdoff ≠ none) := fun p hp => by
    by_cases hm : e.state.isMember = true
    · by_cases hs : d.state = .shed ∧ d.holdoff ≠ none
      · exact .inr (.inr hs)
      · exact .inl (hp hm hs)
    · exact .inr (.inl hm)
  rcases hgd False fun hm hs => hme ⟨hm, hg, hs⟩ with hf | hm | ⟨hs, hh⟩
  · exact hf.elim
  · have hst : d.state = e.state := by
      rcases h.asks with ⟨hst, -⟩ | ⟨-, hm', -⟩ | ⟨-, -, hst⟩
      · exact hst
      · exact (hm hm').elim
      · exact hst
    refine h.entryLaw_of_off hl hg (.inr ?_) hst
    revert hm
    cases e.state <;> simp [EntryState.isMember]
  · rcases h.asks with ⟨hst, -⟩ | ⟨hn, -⟩ | ⟨hn, -⟩
    · exact h.entryLaw_of_off hl hg (.inl (hst.symm.trans hs)) hst
    · exact absurd hn hh
    · exact absurd hn hh

theorem Slot0Asks.key {e d : Entry} (h : Slot0Asks e d) : d.key = e.key :=
  (Entry.key_eq_iff _ _).mpr ⟨h.rank, h.sequence, h.member, h.rail⟩

theorem Slot0Asks.walkableLaw {L : LoadRec} (hL : WalkableLaw L) {e d : Entry} (h : Slot0Asks e d) (he : L.entry 0 = some e)
    (hl : EntryLaw e) : WalkableLaw (L.setEntry 0 (some d)) := by
  obtain ⟨hw, hk⟩ := hL.entries 0 e he
  have hg := hw.grace_of_kind (by rw [hk.backlight.mpr rfl]; decide)
  exact hL.setEntry he h.key (h.walkable hl hg) (h.kindLaw hk)

theorem slot0Asks_claimedEntry (requested minimum : Nat) (e : Entry) : Slot0Asks e (claimedEntry requested minimum e) where
  rank := rfl
  sequence := rfl
  rail := rfl
  kind := rfl
  fallAction := rfl
  mark := rfl
  granted := rfl
  counted := rfl
  grace := rfl
  bounds := Nat.min_le_right _ _
  asks := by
    by_cases hr : claimedRequested requested = 0
    · cases hm : e.state.isMember <;> simp [claimedEntry, hr, hm]
    · simp [claimedEntry, hr]

theorem tableLaw_claimSlot0 (requested minimum : Nat) {s : State} (h : TableLaw s.load) :
    TableLaw (claimSlot0 requested minimum s).load := by
  unfold claimSlot0
  split
  next e he =>
    split
    · exact h
    · have ha := slot0Asks_claimedEntry requested minimum e
      obtain ⟨hl, hk⟩ := h.entries 0 e he
      dsimp only
      split
      next hs =>
        have hst : (claimedEntry requested minimum e).state = e.state := by simp [claimedEntry, hs, EntryState.isMember]
        exact h.setEntry he ha.key (ha.entryLaw_of_off hl (grace_slot0 h he) (.inr (.inl hs)) hst) (ha.kindLaw hk) rfl
      · exact tableLaw_runWalk (ha.walkableLaw h.walkable he hl)
  · exact h

/-! ### The claims of the Protection Sequencer -/

/-- R159, R164, R169: a change of the mark of an entry that is none of the backlight's. -/
theorem markChange_laws {i : Slot} {e : Entry} (m : Mark) (hl : EntryLaw e) (hk : KindLaw i e) (hf : e.fallAction ≠ none) :
    EntryLaw { e with mark := m } ∧ KindLaw i { e with mark := m } :=
  ⟨⟨hl.counted, hl.granted, hl.bounds, hl.off, hl.full, hl.reduced, hl.grace, hl.holdoff⟩,
    ⟨hk.backlight, hk.rail, hk.switched, hk.cut, fun hb => absurd (hk.slot0 hb).1 hf⟩⟩

/-- A function of an entry that changes at most its mark, and that only where a fall action is set. -/
def Marks (f : Entry → Entry) : Prop := ∀ e, f e = e ∨ (e.fallAction ≠ none ∧ ∃ m, f e = { e with mark := m })

theorem Marks.tableLaw {f : Entry → Entry} (hf : Marks f) {L : LoadRec} (hL : TableLaw L) : TableLaw (L.mapEntries fun _ => f) := by
  refine hL.mapEntries (fun i e _ => ?_) fun i e he => ?_
  · rcases hf e with h | ⟨-, m, h⟩ <;> rw [h]
    rfl
  · obtain ⟨hl, hk⟩ := hL.entries i e he
    rcases hf e with h | ⟨hn, m, h⟩ <;> rw [h]
    · exact ⟨hl, hk, rfl⟩
    · exact ⟨(markChange_laws m hl hk hn).1, (markChange_laws m hl hk hn).2, rfl⟩

theorem Marks.entry {f : Entry → Entry} (hf : Marks f) (e : Entry) : (f e).kind = e.kind ∧ (f e).state = e.state := by
  rcases hf e with h | ⟨-, m, h⟩ <;> rw [h] <;> exact ⟨rfl, rfl⟩

theorem marks_markParking : Marks markParking := by
  intro e
  unfold markParking
  split
  next n hf =>
    split
    · exact .inr ⟨by rw [hf]; simp, _, rfl⟩
    · exact .inl rfl
  · exact .inl rfl

theorem fallAction_of_onLine {n : Line} {e : Entry} (h : onLine n e = true) : e.fallAction ≠ none := by
  simp only [onLine, Bool.and_eq_true, beq_iff_eq] at h
  rw [h.1]
  simp

theorem marks_onLine (n : Line) (m : Mark) : Marks fun e => if onLine n e then { e with mark := m } else e := by
  intro e
  dsimp only
  split
  next h => exact .inr ⟨fallAction_of_onLine h, m, rfl⟩
  · exact .inl rfl

theorem marks_markedOn (n : Line) : Marks fun e => if markedOn n e then { e with mark := .clear } else e := by
  intro e
  dsimp only
  split
  next h =>
    simp only [markedOn, Bool.and_eq_true, beq_iff_eq] at h
    exact .inr ⟨by rw [h.1]; simp, _, rfl⟩
  · exact .inl rfl

theorem tableLaw_protect {s : State} (h : TableLaw s.load) : TableLaw (protect s).load := by
  have hf : TableLaw { s.load with freeze := true } := h.of_sameEntries rfl rfl (fun _ => rfl) h.draft rfl rfl
  have hm := marks_markParking.tableLaw hf
  unfold protect
  dsimp only
  refine tableLaw_walkWhenAny (walkableLaw_cutSlots (s.load.nodup_slotsWhere _) hm.walkable fun i hi => ?_) fun h0 => ?_
  · obtain ⟨e, he, hc⟩ := LoadRec.mem_slotsWhere.mp hi
    refine ⟨markParking e, ?_, ?_⟩
    · rw [LoadRec.entry_mapEntries, show ({ s.load with freeze := true } : LoadRec).entry i = s.load.entry i from rfl, he]
      rfl
    · rw [(marks_markParking.entry e).1]
      simp only [isCut, Bool.and_eq_true, beq_iff_eq] at hc
      exact (h.entries i e he).2.cut hc.2
  · rw [h0]
    exact hm

theorem tableLaw_lineFailed (n : Line) {s : State} (h : TableLaw s.load) : TableLaw (lineFailed n s).load := by
  have hm := (marks_onLine n .parkFailed).tableLaw h
  unfold lineFailed
  dsimp only
  refine tableLaw_walkWhenAny (walkableLaw_cutSlots (s.load.nodup_slotsWhere _) ?_ fun i hi => ?_) fun h0 => ?_
  · rw [State.raiseAll_load]
    exact hm.walkable
  · obtain ⟨e, he, hc⟩ := LoadRec.mem_slotsWhere.mp hi
    refine ⟨_, by rw [State.raiseAll_load, LoadRec.entry_mapEntries, he, Option.map_some], ?_⟩
    rw [((marks_onLine n .parkFailed).entry e).1]
    simp only [failCuts, Bool.and_eq_true, beq_iff_eq] at hc
    exact hc.1.2
  · rw [h0]
    show TableLaw (State.raiseAll _ _).load
    rw [State.raiseAll_load]
    exact hm

theorem tableLaw_cutReturn {s : State} (h : TableLaw s.load) : TableLaw (cutReturn s).load := by
  unfold cutReturn
  dsimp only
  refine tableLaw_walkWhenAny (walkableLaw_returnSlots (s.load.nodup_slotsWhere _) h.walkable fun i hi => ?_) fun h0 => ?_
  · obtain ⟨e, he, hc⟩ := LoadRec.mem_slotsWhere.mp hi
    simp only [cutReturns, Bool.and_eq_true, beq_iff_eq] at hc
    exact ⟨e, he, hc.1⟩
  · rw [h0]
    exact h

theorem tableLaw_lineReturn (n : Line) {s : State} (h : TableLaw s.load) : TableLaw (lineReturn n s).load := by
  have hm := (marks_markedOn n).tableLaw h
  unfold lineReturn
  dsimp only
  refine tableLaw_walkWhenAny (walkableLaw_returnSlots (s.load.nodup_slotsWhere _) hm.walkable fun i hi => ?_) fun h0 => ?_
  · obtain ⟨e, he, hc⟩ := LoadRec.mem_slotsWhere.mp hi
    simp only [Bool.and_eq_true, beq_iff_eq] at hc
    refine ⟨_, by rw [LoadRec.entry_mapEntries, he, Option.map_some], ?_⟩
    rw [((marks_markedOn n).entry e).2]
    exact hc.2
  · rw [h0]
    exact hm

theorem tableLaw_lift {s : State} (h : TableLaw s.load) : TableLaw (lift s).load := by
  unfold lift
  split
  · exact tableLaw_runWalk (h.walkable.of_sameEntries rfl rfl (fun _ => rfl) h.draft)
  · exact h

/-! ### The resets -/

theorem slot0Asks_clearSlot0 (e : Entry) : Slot0Asks e (clearSlot0 e) where
  rank := rfl
  sequence := rfl
  rail := rfl
  kind := rfl
  fallAction := rfl
  mark := rfl
  granted := rfl
  counted := rfl
  grace := rfl
  bounds := Nat.le_refl _
  asks := by cases hm : e.state.isMember <;> simp [clearSlot0, hm]

theorem entry_releaseSlots_of_not_mem {is : List Slot} {i : Slot} (hi : i ∉ is) (s : State) :
    (is.foldl (fun s i => releaseSlot i s) s).load.entry i = s.load.entry i := by
  induction is generalizing s with
  | nil => rfl
  | cons j is ih =>
    rw [List.mem_cons, not_or] at hi
    rw [List.foldl_cons, ih hi.2, entry_releaseSlot, if_neg hi.1]

/-- R24, R25: a release of the host slots leaves slot 0. -/
theorem entry_releaseHostSlots_slot0 (s : State) : (releaseHostSlots s).load.entry 0 = s.load.entry 0 :=
  entry_releaseSlots_of_not_mem (by simp) s

theorem tableLaw_loadPartReset {s : State} (h : TableLaw s.load) : TableLaw (loadPartReset s).load := by
  refine tableLaw_loadChange ?_
  dsimp only
  exact tableLaw_runWalk ((walkableLaw_releaseHostSlots h.walkable).of_sameEntries rfl rfl (fun _ => rfl) (Nat.zero_le _))

theorem tableLaw_loadSystemOffClear {s : State} (h : TableLaw s.load) : TableLaw (loadSystemOffClear s).load := by
  refine tableLaw_loadChange ?_
  dsimp only
  have hr : WalkableLaw { (releaseHostSlots s).load with draft := [] } :=
    (walkableLaw_releaseHostSlots h.walkable).of_sameEntries rfl rfl (fun _ => rfl) (Nat.zero_le _)
  obtain ⟨e, he, -⟩ := h.order.backlight
  have he' : ({ (releaseHostSlots s).load with draft := [] } : LoadRec).entry 0 = some e := (entry_releaseHostSlots_slot0 s).trans he
  have hw : WalkableLaw (({ (releaseHostSlots s).load with draft := [] } : LoadRec).modifyEntry 0 clearSlot0) := by
    rw [LoadRec.modifyEntry_of_live he']
    exact (slot0Asks_clearSlot0 e).walkableLaw hr he' (h.entries 0 e he).1
  have ht : TableLaw (runWalk { releaseHostSlots s with
      load := ({ (releaseHostSlots s).load with draft := [] } : LoadRec).modifyEntry 0 clearSlot0 }).load := by
    rw [load_runWalk]
    exact tableLaw_walked _ hw
  exact ht

theorem tableLaw_loadTakes (c : Instr) {s : State} (h : TableLaw s.load) : TableLaw (loadTakes c s).load := by
  unfold loadTakes
  split
  · exact tableLaw_takeCeiling _ h
  · exact tableLaw_handLoadResults (tableLaw_claimSlot0 _ _ h)
  · rw [State.hand_load]
    exact tableLaw_loadChange (tableLaw_protect h)
  · exact (marks_onLine _ .parked).tableLaw h
  · exact tableLaw_loadChange (tableLaw_lineFailed _ h)
  · unfold late
    rw [State.raiseAll_load]
    exact h
  · exact tableLaw_loadChange (tableLaw_cutReturn h)
  · exact tableLaw_loadChange (tableLaw_lineReturn _ h)
  · exact tableLaw_loadChange (tableLaw_lift h)
  · unfold loadResetTakes
    split
    · exact tableLaw_loadPartReset h
    · exact tableLaw_loadSystemOffClear h
    · exact h

/-! ### The requests -/

theorem walkableLaw_applyRelease {h : Handle} {s u : State} (ha : applyRelease h s = .ok u) (hL : WalkableLaw s.load) : WalkableLaw u.load := by
  unfold applyRelease at ha
  repeat' split at ha
  all_goals cases ha
  next hi => exact walkableLaw_releaseSlot hL hi

theorem walkableLaw_applyChange {c : Change} {s u : State} {hs : List Handle} (ha : applyChange c s = .ok (u, hs))
    (hL : WalkableLaw s.load) : WalkableLaw u.load := by
  cases c <;> simp only [applyChange] at ha <;> split at ha <;> cases ha
  next h => exact walkableLaw_applyAdmit h hL
  next h => exact walkableLaw_applyRevise h hL
  next h => exact walkableLaw_applyRelease h hL

theorem walkableLaw_commitChanges (cs : List Change) {s : State} (hL : WalkableLaw s.load) :
    WalkableLaw (commitChanges cs s).state.load := by
  induction cs generalizing s with
  | nil => exact hL
  | cons c cs ih =>
    simp only [commitChanges]
    split
    · exact hL
    next h => exact ih (walkableLaw_applyChange h hL)

/-- R52, R53: the changes not applied are the last of the list, and a commit that applied none has left the table. -/
theorem length_commitChanges_rest (cs : List Change) (s : State) : (commitChanges cs s).rest.length ≤ cs.length := by
  induction cs generalizing s with
  | nil => simp [commitChanges]
  | cons c cs ih =>
    simp only [commitChanges]
    split
    · exact Nat.le_refl _
    next h =>
      have := ih (by assumption)
      simp only [List.length_cons]
      exact Nat.le_succ_of_le (ih _)

theorem commitChanges_of_none_applied {cs : List Change} {s : State} (h : (commitChanges cs s).applied = 0) :
    (commitChanges cs s).state = s := by
  cases cs with
  | nil => rfl
  | cons c cs =>
    simp only [commitChanges] at h ⊢
    split
    · rfl
    next ha =>
      rw [ha] at h
      cases h

theorem tableLaw_committed {s : State} (hL : TableLaw s.load) : TableLaw (committed (commitChanges s.load.draft s)).load := by
  have hrest := Nat.le_trans (length_commitChanges_rest s.load.draft s) hL.draft
  unfold committed
  dsimp only
  split
  next h0 =>
    rw [commitChanges_of_none_applied h0]
    exact hL.of_sameEntries rfl rfl (fun _ => rfl) hrest rfl rfl
  · exact tableLaw_runWalk ((walkableLaw_commitChanges _ hL.walkable).of_sameEntries rfl rfl (fun _ => rfl) hrest)

/-- A request keeps the law when its condition is met and when it is not. -/
theorem tableLaw_require {ok : Bool} {st : Status} {s : State} {k : State × Reply} (hL : TableLaw s.load) (h : ok = true → TableLaw k.1.load) :
    TableLaw (require ok st s k).1.load := by
  cases ok
  · exact hL
  · exact h rfl

theorem tableLaw_stage (ok : Bool) (c : Change) {s : State} (hL : TableLaw s.load) : TableLaw (stage ok c s).1.load := by
  refine tableLaw_require hL fun _ => tableLaw_require hL fun _ => tableLaw_require hL fun hlen => ?_
  refine hL.of_sameEntries rfl rfl (fun _ => rfl) ?_ rfl rfl
  rw [decide_eq_true_eq] at hlen
  show (s.load.draft ++ [c]).length ≤ draftLimit
  rw [List.length_append]
  exact hlen

theorem tableLaw_admitRequest (a : AdmitArgs) {s : State} (hL : TableLaw s.load) : TableLaw (admitRequest a s).1.load := by
  refine tableLaw_require hL fun _ => ?_
  split
  · exact hL
  next s1 _ h =>
    dsimp only
    exact tableLaw_walkedEvent (walkableLaw_applyAdmit h hL.walkable)

theorem tableLaw_reviseRequest (a : ReviseArgs) {s : State} (hL : TableLaw s.load) : TableLaw (reviseRequest a s).1.load := by
  refine tableLaw_require hL fun _ => ?_
  split
  · exact hL
  next s1 walks h =>
    dsimp only
    refine tableLaw_handLoadResults ?_
    cases walks with
    | true => exact tableLaw_runWalk (walkableLaw_applyRevise h hL.walkable)
    | false => exact tableLaw_applyRevise h hL

theorem tableLaw_releaseRequest (h : Handle) {s : State} (hL : TableLaw s.load) : TableLaw (releaseRequest h s).1.load := by
  refine tableLaw_require hL fun _ => ?_
  split
  · exact hL
  next s1 hr =>
    dsimp only
    exact tableLaw_walkedEvent (walkableLaw_applyRelease hr hL.walkable)

theorem tableLaw_confirmRequest (h : Handle) {s : State} (hL : TableLaw s.load) : TableLaw (confirmRequest h s).1.load := by
  unfold confirmRequest
  split
  · exact hL
  next i e hl =>
    split
    · exact hL
    · dsimp only
      exact tableLaw_loadChange (tableLaw_runWalk (walkableLaw_endGrace hL (entry_of_lookup hl)))

theorem laws_of_restart {i : Slot} {e : Entry} (l : Option Lease) (hl : EntryLaw e) (hk : KindLaw i e) :
    EntryLaw { e with lease := l } ∧ KindLaw i { e with lease := l } :=
  ⟨⟨hl.counted, hl.granted, hl.bounds, hl.off, hl.full, hl.reduced, hl.grace, hl.holdoff⟩,
    ⟨hk.backlight, hk.rail, hk.switched, hk.cut, hk.slot0⟩⟩

/-- R60: a LAPSED entry comes back with nothing granted. -/
theorem laws_renewedEntry {i : Slot} {e : Entry} (l : Lease) (hs : e.state = .lapsed) (hl : EntryLaw e) (hk : KindLaw i e) :
    EntryLaw (renewedEntry l e) ∧ KindLaw i (renewedEntry l e) := by
  have hg : e.grace = none := by
    refine Classical.byContradiction fun hg => ?_
    have := (hl.grace (Option.isSome_iff_ne_none.mpr hg)).2
    rw [hs] at this
    cases this
  have hh : e.holdoff = none := by
    refine Classical.byContradiction fun hh => ?_
    have := hl.holdoff (Option.isSome_iff_ne_none.mpr hh)
    rw [hs] at this
    cases this
  refine ⟨⟨by simp [renewedEntry, hg], .inl rfl, hl.bounds, fun _ => rfl, fun h => (by cases h), fun h => (by cases h),
    fun h => (by simp [renewedEntry, hg] at h), fun h => by simp [renewedEntry, hh] at h⟩,
    ⟨hk.backlight, hk.rail, hk.switched, hk.cut, fun hb => ⟨(hk.slot0 hb).1, (hk.slot0 hb).2.1, fun h => by cases h⟩⟩⟩

theorem tableLaw_renewRequest (h : Handle) {s : State} (hL : TableLaw s.load) : TableLaw (renewRequest h s).1.load := by
  refine tableLaw_require hL fun _ => ?_
  split
  · exact hL
  next i e hlook =>
    have he := entry_of_lookup hlook
    obtain ⟨hl, hk⟩ := hL.entries i e he
    split
    · exact hL
    next l _ =>
      split
      next hs =>
        dsimp only
        obtain ⟨hnl, hnk⟩ := laws_renewedEntry l hs hl hk
        refine tableLaw_loadChange (tableLaw_runWalk ?_)
        exact hL.walkable.join he (by rw [hs]; rfl) rfl rfl rfl hnl.walkable hnk
      · obtain ⟨hnl, hnk⟩ := laws_of_restart (some l.restart) hl hk
        exact hL.setEntry he rfl hnl hnk rfl

theorem tableLaw_commitRequest {s : State} (hL : TableLaw s.load) : TableLaw (commitRequest s).1.load := by
  refine tableLaw_require hL fun _ => tableLaw_require hL fun _ => ?_
  dsimp only
  split
  · exact tableLaw_committed hL
  · exact tableLaw_handLoadResults (tableLaw_committed hL)

/-- Every load request keeps the law of the table. -/
theorem tableLaw_loadRequest {c : Instr} (hc : isLoadRequest c = true) {s : State} (hL : TableLaw s.load) :
    TableLaw (requestChange c s).1.load := by
  cases c <;> (try cases hc)
  case admitEntry a => exact tableLaw_admitRequest a hL
  case stagedAdmit a => exact tableLaw_stage _ _ hL
  case revise a => exact tableLaw_reviseRequest a hL
  case stagedRevise a => exact tableLaw_stage _ _ hL
  case release hd => exact tableLaw_releaseRequest hd hL
  case stagedRelease hd => exact tableLaw_stage _ _ hL
  case query hd => unfold requestChange queryRequest; dsimp only; split <;> exact hL
  case findTag tag => exact hL
  case findRail rail => unfold requestChange findRailRequest; dsimp only; split <;> (try split) <;> exact hL
  case order => exact hL
  case confirm hd => exact tableLaw_confirmRequest hd hL
  case renew hd => exact tableLaw_renewRequest hd hL
  case commit => exact tableLaw_commitRequest hL
  case discard => exact hL.of_sameEntries rfl rfl (fun _ => rfl) (Nat.zero_le _) rfl rfl
  case draftRead => exact hL

/-! ### Every step -/

theorem load_not_mem_workFields {c : Instr} (h : isLoadRequest c = false) (he : isLoadEvent c = false) : Field.load ∉ workFields c := by
  cases c <;> first
    | (cases h; done)
    | (cases he; done)
    | simp [workFields, isLoadRequest, isLoadEvent, isSupplyCommand, isLightCommand, isMotionCommand, isEpisodeCommand, isSystemCommand,
        isStoreCommand]

theorem eventChange_of_not_own {c : Instr} (h : isOwnEvent c = false) (s : State) : eventChange c s = s := by
  cases c <;> first | rfl | cases h

theorem requestChange_of_no_request {c : Instr} (h : isPlainRequest c = false) (hl : isLoadRequest c = false) (s : State) :
    requestChange c s = refuse .unknownRequest s := by
  cases c <;> first | rfl | (cases h; done) | cases hl

theorem load_eventChange {c : Instr} (h : isLoadEvent c = false) (s : State) : (eventChange c s).load = s.load := by
  cases ho : isOwnEvent c with
  | false => rw [eventChange_of_not_own ho]
  | true => exact changes_ownEvent ho s .load (load_not_mem_workFields (by cases c <;> first | rfl | cases ho) h)

theorem load_requestChange {c : Instr} (h : isLoadRequest c = false) (s : State) : (requestChange c s).1.load = s.load := by
  cases ho : isPlainRequest c with
  | false => rw [requestChange_of_no_request ho h]; rfl
  | true => exact changes_plainRequest ho s .load (load_not_mem_workFields h (by cases c <;> first | rfl | cases ho))

theorem load_claimChange {c : Instr} (h : isLoadEvent c = false) (s : State) : (claimChange c s).load = s.load := by
  cases hr : route c with
  | none => simp [claimChange, hr]
  | some r =>
    refine changes_claimChange hr s .load (workFields_of_route hr ▸ load_not_mem_workFields ?_ h)
    cases c <;> first | rfl | cases hr

theorem tableLaw_loadEvent {c : Instr} (h : isLoadEvent c = true) {s : State} (hL : TableLaw s.load) : TableLaw (eventChange c s).load := by
  cases c <;> (try cases h)
  case graceExpiry i => exact tableLaw_expireGrace i hL
  case holdoffExpiry i => exact tableLaw_expireHoldoff i hL
  case lapse i => exact tableLaw_lapseEntry i hL
  all_goals exact hL

theorem tableLaw_eventChange (c : Instr) {s : State} (hL : TableLaw s.load) : TableLaw (eventChange c s).load := by
  cases h : isLoadEvent c with
  | false => rw [load_eventChange h]; exact hL
  | true => exact tableLaw_loadEvent h hL

theorem tableLaw_requestChange (c : Instr) {s : State} (hL : TableLaw s.load) : TableLaw (requestChange c s).1.load := by
  cases h : isLoadRequest c with
  | false => rw [load_requestChange h]; exact hL
  | true => exact tableLaw_loadRequest h hL

theorem tableLaw_claimChange (c : Instr) {s : State} (hL : TableLaw s.load) : TableLaw (claimChange c s).load := by
  have ht : TableLaw (s.take c).load := hL
  cases h : isLoadEvent c with
  | false => rw [load_claimChange h]; exact hL
  | true =>
    cases hr : route c with
    | none => simpa [claimChange, hr] using hL
    | some r =>
      have hp : r.receiver = .loadManager := by
        cases c <;> simp only [isLoadEvent, Bool.false_eq_true, route, Option.some.injEq, reduceCtorEq] at h hr <;> subst hr <;> rfl
      rw [claimChange_of_route hr, hp]
      exact tableLaw_loadTakes c ht

theorem tableLaw_tick {L : LoadRec} (hL : TableLaw L) : TableLaw (L.mapEntries fun _ e => tickEntry e) := by
  refine hL.mapEntries (fun _ _ _ => rfl) fun i e he => ?_
  obtain ⟨hl, hk⟩ := hL.entries i e he
  refine ⟨⟨?_, hl.granted, hl.bounds, hl.off, hl.full, hl.reduced, fun hg => hl.grace ?_, fun hh => hl.holdoff ?_⟩,
    ⟨hk.backlight, hk.rail, hk.switched, hk.cut, hk.slot0⟩, rfl⟩
  · have hc := hl.counted
    cases hg : e.grace <;> simpa [tickEntry, hg] using hc
  · simpa [tickEntry] using hg
  · simpa [tickEntry, tickTimer] using hh

theorem entry_loadAtReset (i : Slot) : loadAtReset.entry i = if i = 0 then some slot0AtReset else none := by
  revert i
  decide

theorem entry_loadAtReset_eq_some {i : Slot} {e : Entry} (h : loadAtReset.entry i = some e) : i = 0 ∧ e = slot0AtReset := by
  rw [entry_loadAtReset] at h
  split at h
  next hi => exact ⟨hi, (Option.some.inj h).symm⟩
  · cases h

theorem tableLaw_loadAtReset : TableLaw loadAtReset := by
  refine ⟨⟨fun i => ?_, ?_, fun i j ei ej hi hj _ => ?_, fun i e he => ?_, ⟨slot0AtReset, rfl, rfl⟩, by decide⟩, fun i e he => ?_,
    fun i j ei ej hi hj hs _ => ?_, Nat.zero_le _, .inl (by decide)⟩
  · rw [entry_loadAtReset]
    by_cases hi : i = 0 <;> simp [loadAtReset, hi, slot0AtReset, EntryState.isMember]
  · exact List.pairwise_singleton _ _
  · rw [(entry_loadAtReset_eq_some hi).1, (entry_loadAtReset_eq_some hj).1]
  · rw [(entry_loadAtReset_eq_some he).2]
    decide
  · obtain ⟨rfl, rfl⟩ := entry_loadAtReset_eq_some he
    exact ⟨⟨by decide, by decide, by decide, by decide, by decide, by decide, by decide, by decide⟩,
      ⟨by decide, by decide, by decide, by decide, by decide⟩⟩
  · rw [(entry_loadAtReset_eq_some hi).2] at hs
    cases hs

/-- The law of the load table is an invariant. -/
theorem invariant_tableLaw : Invariant fun s => TableLaw s.load where
  kept := {
    refl := fun _ h => h
    trans := fun _ _ _ h k hs => k (h hs)
    finish := fun _ h => h
    port := fun _ _ h => h
    event := fun c _ => tableLaw_eventChange c
    request := fun c _ => tableLaw_requestChange c
    claim := fun c _ => tableLaw_claimChange c }
  pending := fun _ _ h => h
  tick := fun s h => by
    rw [tick_load]
    exact tableLaw_tick h
  powerOn := fun _ _ _ => tableLaw_loadAtReset

/-- Settles O8: every change of the model keeps the law of the table, before its walk in what a walk reads and behind it in full. -/
theorem loadTableKept : Obligations.LoadTableKept := fun _ _ hs h => invariant_tableLaw.step hs h

end Sys2Proof.Machine
end

section
/-!
PROOFS. What a list of reasons leaves at a source (R181), and the statement about the walk that is assembled from its records and its reasons: O32.
-/
namespace Sys2Proof.Machine

/-! ### Reasons raised -/

theorem Byte.or_zero (b : Byte) : b ||| 0 = b := BitVec.or_zero
theorem Byte.zero_or (b : Byte) : 0 ||| b = b := BitVec.zero_or

theorem AttentionRec.sets_raise (a : Attention) (r : AttentionRec) (n : Fin 30) :
    (r.raise a).sets[n] = if n = a.source then r.sets[n] ||| a.bit else r.sets[n] := by
  by_cases h : n = a.source
  · subst h
    simp [AttentionRec.raise]
  · have hv : a.source.val ≠ n.val := fun hv => h (Fin.ext hv.symm)
    simp [AttentionRec.raise, h, Vector.getElem_set_ne, hv]

theorem AttentionRec.masks_raise (a : Attention) (r : AttentionRec) : (r.raise a).masks = r.masks := rfl

/-- The reasons of a list at a source. -/
def raisedAt (n : Fin 30) : List Attention → Byte
  | [] => 0
  | a :: as => (if n = a.source then a.bit else 0) ||| raisedAt n as

theorem raisedAt_append (n : Fin 30) (as bs : List Attention) : raisedAt n (as ++ bs) = raisedAt n as ||| raisedAt n bs := by
  induction as with
  | nil => simp [raisedAt]
  | cons a as ih => rw [List.cons_append, raisedAt, raisedAt, ih, BitVec.or_assoc]

theorem raisedAt_eq_zero {n : Fin 30} {as : List Attention} (h : ∀ a ∈ as, n ≠ a.source) : raisedAt n as = 0 := by
  induction as with
  | nil => rfl
  | cons a as ih => simp [raisedAt, h a (by simp), ih fun b hb => h b (by simp [hb])]

/-- R181: a list of reasons joins the sets, each at its source. -/
theorem AttentionRec.sets_raiseAll (as : List Attention) (r : AttentionRec) (n : Fin 30) :
    (as.foldl (fun x a => x.raise a) r).sets[n] = r.sets[n] ||| raisedAt n as := by
  induction as generalizing r with
  | nil => simp [raisedAt]
  | cons a as ih =>
    rw [List.foldl_cons, ih, AttentionRec.sets_raise, raisedAt]
    split
    · rw [BitVec.or_assoc]
    · rw [Byte.zero_or]

theorem State.sets_raiseAll (as : List Attention) (s : State) (n : Fin 30) :
    (s.raiseAll as).attention.sets[n] = s.attention.sets[n] ||| raisedAt n as := by
  rw [State.raiseAll_attention, AttentionRec.sets_raiseAll]

/-- R181: what is raised joins what is pending, and clears nothing. -/
theorem pending_raise_of_pending {a : Attention} (b : Attention) {s : State} (h : Pending a s) : Pending a (s.raise b) := by
  unfold Pending at h ⊢
  rw [State.raise_attention, AttentionRec.sets_raise]
  split
  · intro hz
    apply h
    have hab : (s.attention.sets[a.source] ||| b.bit) &&& a.bit &&& s.attention.sets[a.source] = s.attention.sets[a.source] &&& a.bit := by
      ext i hi
      simp only [BitVec.getElem_and, BitVec.getElem_or]
      cases s.attention.sets[a.source][i] <;> simp
    rw [← hab, hz]
    exact BitVec.zero_and
  · exact h

theorem pending_raiseAll_of_pending {a : Attention} (bs : List Attention) {s : State} (h : Pending a s) : Pending a (s.raiseAll bs) := by
  induction bs generalizing s with
  | nil => exact h
  | cons b bs ih => exact ih (pending_raise_of_pending b h)

/-- R181: a reason of a list just raised is pending. -/
theorem pending_raiseAll {a : Attention} {as : List Attention} (ha : a ∈ as) (s : State) : Pending a (s.raiseAll as) := by
  induction as generalizing s with
  | nil => cases ha
  | cons b bs ih =>
    rcases List.mem_cons.mp ha with rfl | ha
    · exact pending_raiseAll_of_pending bs (pending_raise_self a s)
    · exact ih ha (s.raise b)

/-! ### The reasons of a walk -/

/-- R35, R37: the reason that a grant of a walk raises. -/
def grantReason (L : LoadRec) (r : GrantResult) : Option Attention :=
  (L.entry r.slot).bind fun e => (reasonForGrant e r.grant).map (Attention.entry r.slot)

/-- R47: the reason that the end of a walk raises. -/
def overcommitReason (p : Profile) (L : LoadRec) : List Attention :=
  if !L.overcommit && (L.walked p).overcommit then [.supply .overcommit] else []

theorem walkReasons_eq (p : Profile) (L : LoadRec) :
    L.walkReasons p = (walkResults L).filterMap (grantReason L) ++ overcommitReason p L := by
  have h : grantReason L = fun r => match L.entry r.slot with
      | some e => (reasonForGrant e r.grant).map (Attention.entry r.slot)
      | none => none := by
    funext r
    unfold grantReason
    cases L.entry r.slot <;> rfl
  rw [h]
  rfl

theorem attention_runWalk (s : State) (n : Fin 30) :
    (runWalk s).attention.sets[n] = s.attention.sets[n] ||| raisedAt n (s.load.walkReasons s.profile) := by
  unfold runWalk
  rw [State.sets_raiseAll]

theorem entrySource_inj {i j : Slot} (h : entrySource i = entrySource j) : i = j := Fin.ext (by simpa [entrySource] using h)

theorem entrySource_ne_supplySource (i : Slot) : entrySource i ≠ supplySource := fun h => by
  have hv := congrArg Fin.val h
  have hi := i.isLt
  simp only [entrySource, supplySource] at hv
  omega

theorem source_of_grantReason {L : LoadRec} {r : GrantResult} {a : Attention} (h : grantReason L r = some a) : a.source = entrySource r.slot := by
  unfold grantReason at h
  obtain ⟨e, -, h⟩ := Option.bind_eq_some_iff.mp h
  obtain ⟨x, -, rfl⟩ := Option.map_eq_some_iff.mp h
  rfl

theorem raisedAt_overcommitReason (n : Fin 30) (p : Profile) (L : LoadRec) :
    raisedAt n (overcommitReason p L) = if n = supplySource ∧ L.overcommit = false ∧ (L.walked p).overcommit = true then 0x04 else 0 := by
  unfold overcommitReason
  cases L.overcommit <;> cases (L.walked p).overcommit <;> by_cases hn : n = supplySource <;>
    simp [raisedAt, hn, Attention.source, Attention.bit, SupplyReason.bit]

theorem raisedAt_overcommitReason_entry (i : Slot) (p : Profile) (L : LoadRec) : raisedAt (entrySource i) (overcommitReason p L) = 0 := by
  rw [raisedAt_overcommitReason, if_neg fun hc => entrySource_ne_supplySource i hc.1]

/-- R35: the reasons of the grants at a source that is no slot's, and at the slot of no grant. -/
theorem raisedAt_grants_of_not_mem {L : LoadRec} {rs : List GrantResult} {n : Fin 30} (h : ∀ r ∈ rs, n ≠ entrySource r.slot) :
    raisedAt n (rs.filterMap (grantReason L)) = 0 := by
  refine raisedAt_eq_zero fun a ha => ?_
  obtain ⟨r, hr, hra⟩ := List.mem_filterMap.mp ha
  rw [source_of_grantReason hra]
  exact h r hr

theorem raisedAt_cons_grant (L : LoadRec) (n : Fin 30) (q : GrantResult) (rs : List GrantResult) :
    raisedAt n ((q :: rs).filterMap (grantReason L)) = raisedAt n (grantReason L q).toList ||| raisedAt n (rs.filterMap (grantReason L)) := by
  cases hq : grantReason L q <;> simp [hq, raisedAt]

/-- R35: the reasons of the grants at the slot of one of them. -/
theorem raisedAt_grants {L : LoadRec} {rs : List GrantResult} (hnd : (rs.map GrantResult.slot).Nodup) {r : GrantResult} (hr : r ∈ rs) :
    raisedAt (entrySource r.slot) (rs.filterMap (grantReason L)) = raisedAt (entrySource r.slot) (grantReason L r).toList := by
  induction rs with
  | nil => cases hr
  | cons q rs ih =>
    obtain ⟨hq, hnd⟩ := List.nodup_cons.mp hnd
    rw [raisedAt_cons_grant]
    rcases List.mem_cons.mp hr with rfl | hr
    · rw [raisedAt_grants_of_not_mem fun x hx hs => hq (List.mem_map.mpr ⟨x, hx, (entrySource_inj hs).symm⟩), Byte.or_zero]
    · have hne : entrySource r.slot ≠ entrySource q.slot := fun hs => hq (List.mem_map.mpr ⟨r, hr, entrySource_inj hs⟩)
      have hz : raisedAt (entrySource r.slot) (grantReason L q).toList = 0 :=
        raisedAt_eq_zero fun a ha => by rw [source_of_grantReason (Option.mem_toList.mp ha)]; exact hne
      rw [hz, ih hnd hr, Byte.zero_or]

/-- R35, R37: the byte of the reason that a grant raises. -/
theorem raisedAt_grantReason {L : LoadRec} {r : GrantResult} {e : Entry} (he : L.entry r.slot = some e) :
    raisedAt (entrySource r.slot) (grantReason L r).toList =
      if e.granted < r.grant then 0x01 else if e.kind = .backlight ∧ e.requested = 0 then 0
      else if r.grant < e.granted then (if r.grant = 0 then 0x04 else 0x02) else 0 := by
  unfold grantReason reasonForGrant
  rw [he, Option.bind_some]
  simp only [← isIdleBacklight_iff]
  repeat' split
  all_goals first
    | rfl
    | simp [raisedAt, Attention.source, Attention.bit, EntryReason.bit]

/-! ### What a walk may change of a record -/

/-- R34: a record with another grant and what follows from it. -/
def Regranted (e d : Entry) : Prop :=
  d = { e with granted := d.granted, counted := d.counted, state := d.state, holdoff := d.holdoff, grace := d.grace }

theorem Regranted.refl (e : Entry) : Regranted e e := rfl

theorem Regranted.trans {e d c : Entry} (h : Regranted e d) (k : Regranted d c) : Regranted e c := by
  unfold Regranted at h k ⊢
  rw [h] at k
  exact k

theorem regranted_applyGrant (p : Profile) (r : GrantResult) (e : Entry) : Regranted e (applyGrant p r e) := rfl

/-- R34: what the grants of a result make of a record, whether or not two name one slot. -/
theorem LoadRec.entry_applyResults (p : Profile) (rs : List GrantResult) {L : LoadRec} {i : Slot} {e : Entry} (he : L.entry i = some e) :
    ∃ d, (rs.foldl (LoadRec.applyResult p) L).entry i = some d ∧ Regranted e d ∧ (d = e ∨ ∃ r ∈ rs, r.slot = i ∧ d.granted = r.grant) := by
  induction rs generalizing L e with
  | nil => exact ⟨e, he, .refl e, .inl rfl⟩
  | cons r rs ih =>
    rw [List.foldl_cons]
    by_cases hr : i = r.slot
    · have h1 : (L.applyResult p r).entry i = some (applyGrant p r e) := by rw [LoadRec.entry_applyResult, if_pos hr, he, Option.map_some]
      obtain ⟨d, hd, hre, hd'⟩ := ih h1
      refine ⟨d, hd, (regranted_applyGrant p r e).trans hre, .inr ?_⟩
      rcases hd' with rfl | ⟨q, hq, hqs, hqg⟩
      · exact ⟨r, by simp, hr.symm, rfl⟩
      · exact ⟨q, by simp [hq], hqs, hqg⟩
    · have h1 : (L.applyResult p r).entry i = some e := by rw [LoadRec.entry_applyResult, if_neg hr, he]
      obtain ⟨d, hd, hre, hd'⟩ := ih h1
      refine ⟨d, hd, hre, hd'.imp_right ?_⟩
      rintro ⟨q, hq, hqs, hqg⟩
      exact ⟨q, by simp [hq], hqs, hqg⟩

theorem LoadRec.entry_applyResults_none (p : Profile) (rs : List GrantResult) {L : LoadRec} {i : Slot} (he : L.entry i = none) :
    (rs.foldl (LoadRec.applyResult p) L).entry i = none := by
  induction rs generalizing L with
  | nil => exact he
  | cons r rs ih =>
    refine ih ?_
    rw [LoadRec.entry_applyResult, he]
    split <;> rfl

theorem LoadRec.isSome_entry_walked (p : Profile) (L : LoadRec) (i : Slot) : ((L.walked p).entry i).isSome = (L.entry i).isSome := by
  rw [LoadRec.entry_walked]
  cases he : L.entry i with
  | none => rw [LoadRec.entry_applyResults_none p _ he]
  | some e =>
    obtain ⟨d, hd, -⟩ := LoadRec.entry_applyResults p (walkResults L) he
    rw [hd]
    rfl

/-- R32: under the freeze no walk raises a grant. -/
theorem GrantFits.le_granted {e : Entry} {g : Nat} (h : GrantFits true e g) : g ≤ e.granted := by
  rcases h with h | ⟨-, h | ⟨h, -⟩⟩
  · omega
  · exact Nat.le_trans h (Nat.min_le_right _ _)
  · cases h

/-- R28, R32, R34: what a walk makes of a record. -/
theorem entry_of_walked {p : Profile} {L : LoadRec} {i : Slot} {e d : Entry} (he : L.entry i = some e) (hd : (L.walked p).entry i = some d) :
    Regranted e d ∧ (L.freeze = true → d.granted ≤ e.granted) ∧ (e.grace.isSome = true → d = e) ∧ (i ∉ L.order → d = e) := by
  obtain ⟨xs, h⟩ := exists_walkGives L
  obtain ⟨d', hd', hre, hcases⟩ := LoadRec.entry_applyResults p (walkResults L) he
  have hdd : d' = d := Option.some.inj (hd'.symm.trans ((L.entry_walked p i).symm.trans hd))
  subst hdd
  have hcase : d' = e ∨ ∃ x ∈ xs, x.slot = i ∧ x.entry = e ∧ d'.granted = x.grant := hcases.imp_right fun ⟨r, hr, hri, hrg⟩ => by
    obtain ⟨x, hx, rfl⟩ := h.exists_of_result hr
    have hxe := h.entry hx
    rw [show x.slot = i from hri, he, Option.some.injEq] at hxe
    exact ⟨x, hx, hri, hxe.symm, hrg⟩
  have hkeep : (∀ x ∈ xs, x.slot ≠ i) → d' = e := fun hx =>
    Option.some.inj (hd.symm.trans ((h.entry_walked_of_not_mem p hx).trans he))
  refine ⟨hre, fun hf => ?_, fun hg => hkeep fun x hx hxi => ?_, fun hi => hkeep fun x hx hxi => hi (hxi ▸ h.mem_order hx)⟩
  · rcases hcase with rfl | ⟨x, hx, -, rfl, hg⟩
    · exact Nat.le_refl _
    · rw [hg]
      exact GrantFits.le_granted (hf ▸ (h.fits x hx).grant)
  · have hxe := h.entry hx
    rw [hxi, he, Option.some.injEq] at hxe
    rw [hxe, ((eligible_iff _).mp (h.eligible hx)).1] at hg
    cases hg

/-! ### The statement -/

theorem overcommitShare_eq (e : Entry) : e.overcommitShare = (e.grace.map Grace.value).getD (if e.rank = 0 then e.minimum else 0) := by
  unfold Entry.overcommitShare Entry.graceValue
  cases e.grace <;> simp

theorem stateForGrant_eq (e : Entry) (g : Nat) :
    stateForGrant e g = if e.kind = .backlight ∧ e.requested = 0 then .pending
      else if g = 0 then (if e.state = .pending then .pending else .shed) else if g = e.requested then .granted else .reduced := by
  unfold stateForGrant
  exact ite_of_iff (isIdleBacklight_iff e)

/-- R39: an entry that is lawful and takes part in the passes has no holdoff. -/
theorem EntryLaw.holdoff_of_eligible {e : Entry} (h : EntryLaw e) (hel : e.eligible = true) : e.holdoff = none := by
  refine Classical.byContradiction fun hh => ?_
  exact ((eligible_iff e).mp hel).2 ⟨h.holdoff (Option.isSome_iff_ne_none.mpr hh), hh⟩

theorem holdoffForGrant_eq (p : Profile) {e : Entry} (hh : e.holdoff = none) (g : Nat) :
    holdoffForGrant p e g = if stateForGrant e g = .shed ∧ 0 < e.granted ∧ 0 < p.holdoff then some (sec p.holdoff) else none := by
  unfold holdoffForGrant
  rw [hh]
  by_cases h1 : stateForGrant e g = .shed <;> by_cases h2 : 0 < e.granted <;> by_cases h3 : 0 < p.holdoff <;> simp [h1, h2, h3]

/-- Settles O32: what a walk may change of a record comes from its fold over the grants, the record and the reasons of each grant from the slots being
distinct where the Grant Order keeps its law. -/
theorem walkKeepsToItsFields : Obligations.WalkKeepsToItsFields := by
  intro s
  have hkeeps := LoadRec.walked_keeps s.profile s.load
  refine ⟨by rw [load_runWalk]; exact hkeeps.1, by rw [load_runWalk]; exact hkeeps.2.1,
    fun i => by rw [load_runWalk]; exact LoadRec.isSome_entry_walked _ _ _, fun i e e' he he' => ?_, ?overcommit, fun h0 h1 => ?_,
    fun hT => ⟨fun r hr => ?grant, fun i hi => ?other⟩, fun n hn => ?source⟩
  · rw [load_runWalk] at he'
    exact entry_of_walked he he'
  case overcommit =>
    rw [load_runWalk, LoadRec.overcommit_walked, decide_eq_true_eq, LoadRec.overcommitSum_eq]
    simp only [overcommitShare_eq]
  · rw [load_runWalk] at h1
    unfold runWalk
    refine pending_raiseAll ?_ _
    rw [walkReasons_eq, overcommitReason, h0, h1]
    simp
  case grant =>
    obtain ⟨xs, h⟩ := exists_walkGives s.load
    obtain ⟨x, hx, rfl⟩ := h.exists_of_result hr
    have hxe := h.entry hx
    have hel := h.eligible hx
    refine ⟨x.entry, hxe, ?_⟩
    dsimp only
    constructor
    · rw [load_runWalk]
      refine (h.entry_walked hT.order _ hx).trans (congrArg some ?_)
      rw [← stateForGrant_eq]
      have hhold := holdoffForGrant_eq s.profile ((hT.entries _ _ hxe).1.holdoff_of_eligible hel) x.grant
      have hgrace := ((eligible_iff _).mp hel).1
      unfold applyGrant
      rw [show x.result.grant = x.grant from rfl, hhold, hgrace]
      rfl
    · rw [attention_runWalk, walkReasons_eq, raisedAt_append, raisedAt_grants (h.results_nodup hT.order) hr, raisedAt_grantReason hxe,
        raisedAt_overcommitReason_entry, Byte.or_zero]
  case other =>
    obtain ⟨xs, h⟩ := exists_walkGives s.load
    constructor
    · rw [load_runWalk]
      exact h.entry_walked_of_not_mem _ fun x hx hxi => hi (List.mem_map.mpr ⟨_, h.result_mem hx, hxi⟩)
    · rw [attention_runWalk, walkReasons_eq, raisedAt_append, raisedAt_overcommitReason_entry, Byte.or_zero,
        raisedAt_grants_of_not_mem fun r hr hs => hi (List.mem_map.mpr ⟨r, hr, (entrySource_inj hs).symm⟩), Byte.or_zero]
  case source =>
    rw [attention_runWalk, walkReasons_eq, raisedAt_append, raisedAt_grants_of_not_mem fun r _ => hn r.slot, raisedAt_overcommitReason,
      load_runWalk, Byte.zero_or]

end Sys2Proof.Machine
end

section
/-!
PROOFS. The withdrawal slot, the bays and the bridge cell: the laws cut into the part of one bay, the part of the slot and the part of the bridge,
so that a change of one bay touches its own part alone; what each operation of the Supply Controller keeps of them.
-/
namespace Sys2Proof.Machine

/-! ### The laws in their parts -/

/-- R64, R68, R97: what the laws say of one bay: its record, its hold of the slot and its waiting. -/
structure BayPart (b : Bay) (s : State) : Prop where
  bay : BayLaw (s.bay b)
  holder : (s.bay b).leaving = true ↔ s.supply.slot = some b
  opened : s.supply.slot = some b → (s.supply.phase = some .opened ↔ (s.bay b).state = .released)
  waiting : s.supply.waiting = some b → s.supply.slot = some (otherBay b) ∧ (s.bay b).state = .online

/-- R97, R98: the phase goes with the slot and the reason with the waiting bay. -/
structure SlotShape (r : SupplyRec) : Prop where
  phase : r.phase.isSome = r.slot.isSome
  reason : r.waitReason.isSome = r.waiting.isSome

/-- R107: the reserve and the drain timer, whatever supplies. -/
structure CellShape (r : SupplyRec) : Prop where
  reserve : r.reserve ≤ 60
  drain : r.drainTimer.isSome = r.carrying

/-- R106: the bridge carries only while nothing supplies. -/
def CarriesAlone (s : State) : Prop := s.supply.carrying = true → someSource s = false

/-- The laws of the withdrawals and of the bridge, but for the refill timer, which the end of an event works out again (R110). -/
structure Sound (s : State) : Prop where
  part : ∀ b, BayPart b s
  slots : SlotShape s.supply
  cell : CellShape s.supply
  alone : CarriesAlone s

/-- What holds while the record of one bay is between two states: the other bay's part, the bay's own law and the shapes. -/
structure Beside (b : Bay) (s : State) : Prop where
  bay : BayLaw (s.bay b)
  other : BayPart (otherBay b) s
  slots : SlotShape s.supply
  cell : CellShape s.supply

/-- Both laws. -/
def SupplyLaw (s : State) : Prop := WithdrawalLaw s ∧ BridgeLaw s

theorem bay_cases (b c : Bay) : c = b ∨ c = otherBay b := by cases b <;> cases c <;> decide

theorem otherBay_ne (b : Bay) : otherBay b ≠ b := by cases b <;> decide

theorem forall_bay (b : Bay) {p : Bay → Prop} (h : p b) (k : p (otherBay b)) : ∀ c, p c := fun c => by
  rcases bay_cases b c with rfl | rfl
  · exact h
  · exact k

theorem bay_eq_of_bays {s t : State} (hA : t.bayA = s.bayA) (hB : t.bayB = s.bayB) (b : Bay) : t.bay b = s.bay b := by
  cases b <;> simp [State.bay, hA, hB]

theorem someSource_eq (b : Bay) (s : State) :
    someSource s = ((s.bay b).supplies || (s.bay (otherBay b)).supplies || s.supply.inletPresent) := by
  cases b <;> simp [someSource, State.bay, otherBay, Bool.or_comm]

theorem supplies_iff (r : BayRec) : r.supplies = true ↔ r.state = .online ∨ r.state = .withdrawing := by
  simp [BayRec.supplies, BayRec.pathClosed]

theorem leaving_iff (r : BayRec) : r.leaving = true ↔ r.state = .withdrawing ∨ r.state = .released := by simp [BayRec.leaving]

theorem someSource_iff (s : State) : someSource s = true ↔
    s.supply.inletPresent = true ∨ s.bayA.state = .online ∨ s.bayA.state = .withdrawing ∨ s.bayB.state = .online ∨
      s.bayB.state = .withdrawing := by
  simp only [someSource, Bool.or_eq_true, supplies_iff]
  exact or_comm.trans (or_congr_right or_assoc)

theorem Sound.of_laws {s : State} (h : SupplyLaw s) : Sound s := by
  obtain ⟨hw, hb⟩ := h
  refine ⟨fun b => ⟨?_, hw.slot b, hw.opened b, hw.waiting b⟩, ⟨hw.phase, hw.reason⟩, ⟨hb.reserve, hb.drain⟩, hb.source⟩
  cases b
  · exact hw.bayA
  · exact hw.bayB

theorem Sound.withdrawalLaw {s : State} (h : Sound s) : WithdrawalLaw s :=
  ⟨(h.part .bayA).bay, (h.part .bayB).bay, fun b => (h.part b).holder, h.slots.phase, fun b => (h.part b).opened,
    fun b => (h.part b).waiting, h.slots.reason⟩

theorem Sound.beside {s : State} (h : Sound s) (b : Bay) : Beside b s := ⟨(h.part b).bay, h.part (otherBay b), h.slots, h.cell⟩

theorem Beside.sound {b : Bay} {s : State} (h : Beside b s) (hb : BayPart b s) (ha : CarriesAlone s) : Sound s :=
  ⟨forall_bay b hb h.other, h.slots, h.cell, ha⟩

/-- What the parts read of the supply record. -/
structure SameSlots (r r' : SupplyRec) : Prop where
  slot : r'.slot = r.slot := by rfl
  phase : r'.phase = r.phase := by rfl
  waiting : r'.waiting = r.waiting := by rfl
  reason : r'.waitReason = r.waitReason := by rfl

theorem BayPart.congr {b : Bay} {s t : State} (h : BayPart b s) (hb : t.bay b = s.bay b) (hs : SameSlots s.supply t.supply) : BayPart b t := by
  constructor
  · rw [hb]; exact h.bay
  · rw [hb, hs.slot]; exact h.holder
  · rw [hb, hs.slot, hs.phase]; exact h.opened
  · rw [hb, hs.slot, hs.waiting]; exact h.waiting

theorem SlotShape.congr {r r' : SupplyRec} (h : SlotShape r) (hs : SameSlots r r') : SlotShape r' :=
  ⟨by rw [hs.phase, hs.slot]; exact h.phase, by rw [hs.reason, hs.waiting]; exact h.reason⟩

/-- What the bridge reads of the supply record. -/
structure SameCell (r r' : SupplyRec) : Prop where
  reserve : r'.reserve = r.reserve := by rfl
  carrying : r'.carrying = r.carrying := by rfl
  drain : r'.drainTimer = r.drainTimer := by rfl

theorem CellShape.congr {r r' : SupplyRec} (h : CellShape r) (hs : SameCell r r') : CellShape r' :=
  ⟨by rw [hs.reserve]; exact h.reserve, by rw [hs.drain, hs.carrying]; exact h.drain⟩

theorem CarriesAlone.mono {s t : State} (h : CarriesAlone s) (hc : t.supply.carrying = true → s.supply.carrying = true)
    (hs : someSource t = true → someSource s = true) : CarriesAlone t := fun ht => by
  have := h (hc ht)
  cases hx : someSource t with
  | false => rfl
  | true => rw [hs hx] at this; cases this

theorem someSource_congr {s t : State} (hb : ∀ b, t.bay b = s.bay b) (hi : t.supply.inletPresent = s.supply.inletPresent) :
    someSource t = someSource s := by
  rw [someSource_eq .bayA t, someSource_eq .bayA s, hb, hb, hi]

theorem Sound.congr {s t : State} (h : Sound s) (hb : ∀ b, t.bay b = s.bay b) (hs : SameSlots s.supply t.supply)
    (hc : SameCell s.supply t.supply) (hi : t.supply.inletPresent = s.supply.inletPresent) : Sound t :=
  ⟨fun b => (h.part b).congr (hb b) hs, h.slots.congr hs, h.cell.congr hc,
    h.alone.mono (fun ht => hc.carrying ▸ ht) fun ht => someSource_congr hb hi ▸ ht⟩

/-- A change of the records outside the supply side. -/
theorem Sound.of_same {s t : State} (h : Sound s) (hb : ∀ b, t.bay b = s.bay b) (hs : t.supply = s.supply) : Sound t :=
  h.congr hb ⟨by rw [hs], by rw [hs], by rw [hs], by rw [hs]⟩ ⟨by rw [hs], by rw [hs], by rw [hs]⟩ (by rw [hs])

theorem Sound.raise {s : State} (h : Sound s) (a : Attention) : Sound (s.raise a) := h.of_same (fun b => State.raise_bay a s b) rfl

theorem Beside.congr {b : Bay} {s t : State} (h : Beside b s) (hb : ∀ c, t.bay c = s.bay c) (hs : SameSlots s.supply t.supply)
    (hc : CellShape t.supply) : Beside b t :=
  ⟨by rw [hb]; exact h.bay, h.other.congr (hb _) hs, h.slots.congr hs, hc⟩

/-- A change of the bay between two states. -/
theorem Beside.modifyBay {b : Bay} {s : State} (h : Beside b s) {f : BayRec → BayRec} (hf : BayLaw (f (s.bay b))) :
    Beside b (s.modifyBay b f) :=
  ⟨by rw [State.modifyBay_bay]; exact hf, h.other.congr (by simp) ⟨by simp, by simp, by simp, by simp⟩, by simpa using h.slots, by simpa using h.cell⟩

theorem Beside.raise {b : Bay} {s : State} (h : Beside b s) (a : Attention) : Beside b (s.raise a) :=
  h.congr (fun c => State.raise_bay a s c) {} h.cell

/-! ### The refill timer -/

theorem bridgeLaw_refreshRefill {s : State} (hc : CellShape s.supply) (ha : CarriesAlone s) : BridgeLaw (refreshRefill s) := by
  refine ⟨hc.reserve, ha, hc.drain, ?_⟩
  have hs := someSource_iff s
  by_cases hr : refillCondition s = true ∧ s.supply.reserve < 60
  · have := hr
    simp only [refillCondition, Bool.and_eq_true, Bool.not_eq_true', hs] at this
    simpa [refreshRefill, hr] using And.intro this.1.1 this.1.2
  · have := hr
    simp only [refillCondition, Bool.and_eq_true, Bool.not_eq_true', hs] at this
    simp only [refreshRefill, hr, if_false, Option.isSome_none, Bool.false_eq_true, false_iff]
    grind

theorem laws_refreshRefill {s : State} (h : Sound s) : SupplyLaw (refreshRefill s) :=
  ⟨(h.congr (t := refreshRefill s) (fun b => by cases b <;> rfl) {} {} rfl).withdrawalLaw, bridgeLaw_refreshRefill h.cell h.alone⟩

theorem SupplyLaw.of_same {s t : State} (h : SupplyLaw s) (hb : ∀ b, t.bay b = s.bay b) (hs : t.supply = s.supply) : SupplyLaw t := by
  have ht := (Sound.of_laws h).of_same hb hs
  refine ⟨ht.withdrawalLaw, ht.cell.reserve, ht.alone, ht.cell.drain, ?_⟩
  have := h.2.refill
  rw [hs, show t.bayA = s.bayA from hb .bayA, show t.bayB = s.bayB from hb .bayB]
  exact this

theorem SupplyLaw.raise {s : State} (h : SupplyLaw s) (a : Attention) : SupplyLaw (s.raise a) := h.of_same (fun b => State.raise_bay a s b) rfl

/-! ### A change of one bay that the supply does not see -/

/-- R68: outside the supply, and not RELEASED. -/
def BayState.outside : BayState → Bool
  | .empty | .probing | .qualified | .faulted => true
  | .online | .withdrawing | .released => false

/-- The bay keeps its state, or moves among the states outside the supply. -/
def SamePlace (r r' : BayRec) : Prop := r'.state = r.state ∨ (r.state.outside = true ∧ r'.state.outside = true)

theorem BayState.ne_of_outside {x : BayState} (h : x.outside = true) :
    x ≠ .online ∧ x ≠ .withdrawing ∧ x ≠ .released := by revert h; cases x <;> decide

theorem BayRec.of_outside {r : BayRec} (h : r.state.outside = true) :
    r.leaving = false ∧ r.supplies = false ∧ r.state ≠ .released ∧ r.state ≠ .online := by
  obtain ⟨ho, hw, hr⟩ := BayState.ne_of_outside h
  exact ⟨by simp [BayRec.leaving, hw, hr], by simp [BayRec.supplies, BayRec.pathClosed, ho, hw], hr, ho⟩

theorem SamePlace.eqs {r r' : BayRec} (h : SamePlace r r') :
    r'.leaving = r.leaving ∧ r'.supplies = r.supplies ∧ (r'.state = .released ↔ r.state = .released) ∧
      (r'.state = .online ↔ r.state = .online) := by
  obtain h | ⟨h, h'⟩ := h
  · simp [BayRec.leaving, BayRec.supplies, BayRec.pathClosed, h]
  · obtain ⟨hl, hs, hr, ho⟩ := BayRec.of_outside h
    obtain ⟨hl', hs', hr', ho'⟩ := BayRec.of_outside h'
    exact ⟨hl'.trans hl.symm, hs'.trans hs.symm, iff_of_false hr' hr, iff_of_false ho' ho⟩

theorem BayPart.setBay {b : Bay} {s t : State} (h : BayPart b s) (hs : SameSlots s.supply t.supply) (hp : SamePlace (s.bay b) (t.bay b))
    (hl : BayLaw (t.bay b)) : BayPart b t := by
  obtain ⟨hleave, -, hrel, hon⟩ := hp.eqs
  constructor
  · exact hl
  · rw [hleave, hs.slot]; exact h.holder
  · rw [hrel, hs.slot, hs.phase]; exact h.opened
  · rw [hon, hs.slot, hs.waiting]; exact h.waiting

theorem Sound.modifyBay {s : State} (h : Sound s) (b : Bay) {f : BayRec → BayRec} (hp : SamePlace (s.bay b) (f (s.bay b)))
    (hl : BayLaw (f (s.bay b))) : Sound (s.modifyBay b f) := by
  refine ((h.beside b).modifyBay hl).sound ?_ ?_
  · exact (h.part b).setBay ⟨by simp, by simp, by simp, by simp⟩ (by simpa using hp) (by simpa using hl)
  · refine h.alone.mono (by simp) fun ht => ?_
    rw [someSource_eq b] at ht ⊢
    simpa [hp.eqs.2.1] using ht

theorem SupplyLaw.modifyBay {s : State} (h : SupplyLaw s) (b : Bay) {f : BayRec → BayRec} (hp : SamePlace (s.bay b) (f (s.bay b)))
    (hl : BayLaw (f (s.bay b))) : SupplyLaw (s.modifyBay b f) := by
  have ht := (Sound.of_laws h).modifyBay b hp hl
  refine ⟨ht.withdrawalLaw, ht.cell.reserve, ht.alone, ht.cell.drain, ?_⟩
  have hs : someSource (s.modifyBay b f) = someSource s := by
    rw [someSource_eq b, someSource_eq b]
    simp [hp.eqs.2.1]
  rw [← someSource_iff, hs, State.modifyBay_supply, someSource_iff]
  exact h.2.refill

/-! ### The phase -/

theorem enterPhase_bay (x : Bool) (s : State) (b : Bay) : (enterPhase x s).bay b = s.bay b := by
  unfold enterPhase
  cases x <;> cases b <;> rfl

theorem enterPhase_supply (x : Bool) (s : State) :
    (enterPhase x s).supply = { s.supply with phase := some (if x then .blocked else .clearing) } := by cases x <;> rfl

theorem phase_entered (x : Bool) : some (if x then Phase.blocked else .clearing) ≠ some .opened := by cases x <;> decide

/-- R99, R100: BLOCKED and CLEARING are one to the laws. -/
theorem sound_enterPhase {s : State} (h : Sound s) (x : Bool) (hs : s.supply.slot.isSome = true) (hp : s.supply.phase ≠ some .opened) :
    Sound (enterPhase x s) := by
  have hb := enterPhase_bay x s
  have hr := enterPhase_supply x s
  refine ⟨fun b => ?_, ⟨?_, ?_⟩, ⟨?_, ?_⟩, ?_⟩
  · have hpart := h.part b
    refine ⟨?_, ?_, ?_, ?_⟩
    · rw [hb]; exact hpart.bay
    · rw [hb, hr]; exact hpart.holder
    · intro hslot
      rw [hr] at hslot
      have := hpart.opened hslot
      rw [hb, hr, ← this]
      exact iff_of_false (phase_entered x) hp
    · rw [hb, hr]; exact hpart.waiting
  · rw [hr]; exact hs.symm
  · rw [hr]; exact h.slots.reason
  · rw [hr]; exact h.cell.reserve
  · rw [hr]; exact h.cell.drain
  · refine h.alone.mono (by rw [hr]; exact id) fun ht => ?_
    rwa [someSource_congr hb (by rw [hr])] at ht

theorem sound_unblock {s : State} (h : Sound s) : Sound (unblock s) := by
  unfold unblock
  split
  next b hs hp =>
    split
    · exact h
    · exact sound_enterPhase h _ (by simp [hs]) (by simp [hp])
  · exact h

theorem sound_reblock {s : State} (h : Sound s) : Sound (reblock s) := by
  unfold reblock
  split
  next b hs hp =>
    split
    · exact sound_enterPhase h _ (by simp [hs]) (by simp [hp])
    · exact h
  · exact h

theorem sound_retest {s : State} (h : Sound s) : Sound (retest s) := sound_reblock (sound_unblock h)

theorem sound_recompute {s : State} (h : Sound s) : Sound (recompute s) := by
  unfold recompute
  dsimp only
  split <;> exact h.congr (fun b => by cases b <;> rfl) {} {} rfl

/-! ### The slot -/

/-- R97: nobody holds the slot, whatever the record still says: no bay is on its way out, and the waiting bay is ONLINE. -/
structure Vacant (s : State) : Prop where
  bay : ∀ b, BayLaw (s.bay b)
  nobody : ∀ b, (s.bay b).leaving = false
  online : ∀ b, s.supply.waiting = some b → (s.bay b).state = .online
  reason : s.supply.waitReason.isSome = s.supply.waiting.isSome
  cell : CellShape s.supply
  alone : CarriesAlone s

theorem stopWaiting_bay (b : Bay) (s : State) (c : Bay) : (stopWaiting b s).bay c = s.bay c := by
  unfold stopWaiting
  split
  · cases c <;> rfl
  · rfl

theorem stopWaiting_waiting (b : Bay) (s : State) :
    (stopWaiting b s).supply.waiting = if s.supply.waiting = some b then none else s.supply.waiting := by
  unfold stopWaiting
  split <;> rfl

theorem stopWaiting_slot (b : Bay) (s : State) : (stopWaiting b s).supply.slot = s.supply.slot := by
  unfold stopWaiting
  split <;> rfl

theorem stopWaiting_phase (b : Bay) (s : State) : (stopWaiting b s).supply.phase = s.supply.phase := by
  unfold stopWaiting
  split <;> rfl

theorem stopWaiting_inlet (b : Bay) (s : State) : (stopWaiting b s).supply.inletPresent = s.supply.inletPresent := by
  unfold stopWaiting
  split <;> rfl

theorem sameCell_stopWaiting (b : Bay) (s : State) : SameCell s.supply (stopWaiting b s).supply := by
  unfold stopWaiting
  split <;> exact {}

theorem reason_stopWaiting (b : Bay) {s : State} (h : s.supply.waitReason.isSome = s.supply.waiting.isSome) :
    (stopWaiting b s).supply.waitReason.isSome = (stopWaiting b s).supply.waiting.isSome := by
  unfold stopWaiting
  split
  · rfl
  · exact h

theorem waiting_of_stopWaiting {b c : Bay} {s : State} (h : (stopWaiting b s).supply.waiting = some c) : s.supply.waiting = some c ∧ c ≠ b := by
  rw [stopWaiting_waiting] at h
  split at h
  · cases h
  next hw => exact ⟨h, fun hc => hw (hc ▸ h)⟩

theorem BayPart.stopWaiting {b : Bay} {s : State} (h : BayPart b s) (c : Bay) : BayPart b (stopWaiting c s) where
  bay := by rw [stopWaiting_bay]; exact h.bay
  holder := by rw [stopWaiting_bay, stopWaiting_slot]; exact h.holder
  opened := by rw [stopWaiting_bay, stopWaiting_slot, stopWaiting_phase]; exact h.opened
  waiting := fun hw => by rw [stopWaiting_bay, stopWaiting_slot]; exact h.waiting (waiting_of_stopWaiting hw).1

theorem SlotShape.stopWaiting {s : State} (h : SlotShape s.supply) (c : Bay) : SlotShape (stopWaiting c s).supply :=
  ⟨by rw [stopWaiting_slot, stopWaiting_phase]; exact h.phase, reason_stopWaiting c h.reason⟩

theorem CarriesAlone.stopWaiting {s : State} (h : CarriesAlone s) (c : Bay) : CarriesAlone (stopWaiting c s) :=
  h.mono (fun ht => (sameCell_stopWaiting c s).carrying ▸ ht) fun ht => by
    rwa [someSource_congr (stopWaiting_bay c s) (stopWaiting_inlet c s)] at ht

theorem sound_stopWaiting {s : State} (h : Sound s) (c : Bay) : Sound (stopWaiting c s) :=
  ⟨fun b => (h.part b).stopWaiting c, h.slots.stopWaiting c, h.cell.congr (sameCell_stopWaiting c s), h.alone.stopWaiting c⟩

theorem Beside.stopWaiting {b : Bay} {s : State} (h : Beside b s) (c : Bay) : Beside b (stopWaiting c s) :=
  ⟨by rw [stopWaiting_bay]; exact h.bay, h.other.stopWaiting c, h.slots.stopWaiting c, h.cell.congr (sameCell_stopWaiting c s)⟩

/-- R98: the record of a bay that takes the slot. -/
def withdrawingBay (cause : Cause) (r : BayRec) : BayRec :=
  { r with state := .withdrawing, cause := some cause, ejectWindow := if cause = .eject then some (sec 30) else none }

theorem bayLaw_withdrawing {r : BayRec} (h : BayLaw r) (hr : r.state = .online) (cause : Cause) : BayLaw (withdrawingBay cause r) where
  contact := by
    have := h.contact
    rw [hr] at this
    exact this.trans (by simp [withdrawingBay])
  link := h.link
  polling := h.polling
  runs := h.runs
  probe := h.probe.trans (by rw [hr]; rfl)
  step := h.step
  cause := rfl
  window := fun hw => by
    by_cases hc : cause = .eject
    · simp [withdrawingBay, hc]
    · simp [withdrawingBay, hc] at hw
  requalify := fun _ => .inr rfl

/-- The state in which the phase of a withdrawal that starts is decided. -/
def slotTaken (b : Bay) (cause : Cause) (s : State) : State :=
  let s1 := (stopWaiting b s).modifyBay b (withdrawingBay cause)
  { s1 with supply := { s1.supply with slot := some b } }

theorem startWithdrawal_eq (b : Bay) (cause : Cause) (s : State) :
    startWithdrawal b cause s = enterPhase (blocks b (slotTaken b cause s)) (slotTaken b cause s) := rfl

theorem slotTaken_bay (b : Bay) (cause : Cause) (s : State) : (slotTaken b cause s).bay b = withdrawingBay cause (s.bay b) := by
  have : (slotTaken b cause s).bay b = ((stopWaiting b s).modifyBay b (withdrawingBay cause)).bay b := by cases b <;> rfl
  rw [this, State.modifyBay_bay, stopWaiting_bay]

theorem slotTaken_other (b : Bay) (cause : Cause) (s : State) : (slotTaken b cause s).bay (otherBay b) = s.bay (otherBay b) := by
  have : (slotTaken b cause s).bay (otherBay b) = ((stopWaiting b s).modifyBay b (withdrawingBay cause)).bay (otherBay b) := by cases b <;> rfl
  rw [this, State.modifyBay_otherBay, stopWaiting_bay]

theorem slotTaken_supply (b : Bay) (cause : Cause) (s : State) :
    (slotTaken b cause s).supply = { (stopWaiting b s).supply with slot := some b } := by cases b <;> rfl

theorem startWithdrawal_bay (b : Bay) (cause : Cause) (s : State) : (startWithdrawal b cause s).bay b = withdrawingBay cause (s.bay b) := by
  rw [startWithdrawal_eq, enterPhase_bay, slotTaken_bay]

theorem startWithdrawal_other (b : Bay) (cause : Cause) (s : State) : (startWithdrawal b cause s).bay (otherBay b) = s.bay (otherBay b) := by
  rw [startWithdrawal_eq, enterPhase_bay, slotTaken_other]

/-- R98: an ONLINE bay takes a slot that nobody holds and nobody else waits for. -/
theorem sound_startWithdrawal {s : State} (h : Vacant s) {b : Bay} (hb : (s.bay b).state = .online)
    (hw : ∀ c, s.supply.waiting = some c → c = b) (cause : Cause) : Sound (startWithdrawal b cause s) := by
  have hbay := startWithdrawal_bay b cause s
  have hother := startWithdrawal_other b cause s
  have hnone : (stopWaiting b s).supply.waiting = none := by
    refine Classical.byContradiction fun hne => ?_
    obtain ⟨c, hc⟩ := Option.ne_none_iff_exists'.mp hne
    obtain ⟨hc, hcb⟩ := waiting_of_stopWaiting hc
    exact hcb (hw c hc)
  obtain ⟨x, hr⟩ : ∃ x : Bool, (startWithdrawal b cause s).supply =
      { (stopWaiting b s).supply with slot := some b, phase := some (if x then .blocked else .clearing) } :=
    ⟨_, by rw [startWithdrawal_eq, enterPhase_supply, slotTaken_supply]⟩
  have hwait : (startWithdrawal b cause s).supply.waiting = none := by rw [hr]; exact hnone
  have hcell : SameCell s.supply (startWithdrawal b cause s).supply := by
    have := sameCell_stopWaiting b s
    rw [hr]
    exact ⟨this.reserve, this.carrying, this.drain⟩
  refine ⟨forall_bay b ⟨?_, ?_, ?_, ?_⟩ ⟨?_, ?_, ?_, ?_⟩, ⟨by rw [hr]; rfl, ?_⟩, h.cell.congr hcell, ?_⟩
  · rw [hbay]; exact bayLaw_withdrawing (h.bay b) hb cause
  · rw [hbay, hr]; exact iff_of_true rfl rfl
  · intro _
    rw [hbay, hr]
    exact iff_of_false (phase_entered x) (by simp [withdrawingBay])
  · simp [hwait]
  · rw [hother]; exact h.bay _
  · rw [hother, hr, h.nobody]
    simpa using (otherBay_ne b).symm
  · rw [hr]
    intro hs
    exact absurd (Option.some.inj hs).symm (otherBay_ne b)
  · simp [hwait]
  · rw [hr]
    exact reason_stopWaiting b h.reason
  · refine h.alone.mono (fun ht => hcell.carrying ▸ ht) fun ht => ?_
    rw [someSource_eq b] at ht ⊢
    have hi : (startWithdrawal b cause s).supply.inletPresent = s.supply.inletPresent := by rw [hr]; exact stopWaiting_inlet b s
    rw [hbay, hother, hi] at ht
    rw [(supplies_iff (s.bay b)).mpr (.inl hb)]
    rfl

/-- R103: the waiting bay withdraws in its turn, or waits no longer. -/
theorem sound_handleWaiting {s : State} (h : Vacant s) (hs : s.supply.slot = none) (hp : s.supply.phase = none) : Sound (handleWaiting s) := by
  have hpart : ∀ t : State, (∀ b, t.bay b = s.bay b) → t.supply.slot = none → t.supply.waiting = none → ∀ b, BayPart b t :=
    fun t hb hslot hwait b =>
      ⟨by rw [hb]; exact h.bay b, by rw [hb, h.nobody, hslot]; simp, by simp [hslot], by simp [hwait]⟩
  unfold handleWaiting
  split
  next hw => exact ⟨hpart s (fun _ => rfl) hs hw, ⟨by rw [hs, hp]; rfl, h.reason⟩, h.cell, h.alone⟩
  next b hw =>
    have hstart : ∀ cause, Sound (startWithdrawal b cause s) :=
      sound_startWithdrawal h (h.online b hw) fun c hc => (Option.some.inj (hw.symm.trans hc)).symm
    dsimp only
    split
    · exact hstart _
    · split
      · exact hstart _
      · refine ⟨hpart _ (stopWaiting_bay b s) (by rw [stopWaiting_slot, hs]) (by rw [stopWaiting_waiting, if_pos hw]),
          ⟨by rw [stopWaiting_slot, stopWaiting_phase, hs, hp]; rfl, reason_stopWaiting b h.reason⟩,
          h.cell.congr (sameCell_stopWaiting b s), h.alone.stopWaiting b⟩

theorem sound_freeSlot {s : State} (h : Vacant s) : Sound (freeSlot s) := by
  refine sound_handleWaiting ⟨fun b => ?_, fun b => ?_, fun b hw => ?_, h.reason, h.cell.congr {}, ?_⟩ rfl rfl
  · have := h.bay b; cases b <;> exact this
  · have := h.nobody b; cases b <;> exact this
  · have := h.online b hw; cases b <;> exact this
  · exact h.alone.mono id fun ht => ht

/-- R97: the slot frees when the bay that has left the way out held it. -/
theorem sound_freeSlotOf {b : Bay} {s : State} (h : Beside b s) (hb : (s.bay b).leaving = false) (hw : s.supply.waiting ≠ some b)
    (ha : CarriesAlone s) : Sound (freeSlotOf b s) := by
  unfold freeSlotOf
  split
  next hs =>
    have hother : (s.bay (otherBay b)).leaving = false := by
      cases hl : (s.bay (otherBay b)).leaving with
      | false => rfl
      | true => exact absurd (Option.some.inj (hs.symm.trans (h.other.holder.mp hl))).symm (otherBay_ne b)
    exact sound_freeSlot ⟨forall_bay b h.bay h.other.bay, forall_bay b hb hother,
      forall_bay b (fun hx => absurd hx hw) (fun hx => (h.other.waiting hx).2), h.slots.reason, h.cell, ha⟩
  next hs => exact h.sound ⟨h.bay, by simp [hb, hs], fun hx => absurd hx hs, fun hx => absurd hx hw⟩ ha

end Sys2Proof.Machine
end

section
/-!
PROOFS. What every event of the supply side keeps of the withdrawal slot, the bays and the bridge cell, and the statement about it: O7.
-/
namespace Sys2Proof.Machine

/-! ### The records of a bay -/

theorem BayLaw.ne_empty_of {r : BayRec} (h : BayLaw r) (hr : r.state ≠ .empty) : r.contact = .made := by
  cases hc : r.contact with
  | made => rfl
  | lost => exact absurd (h.contact.mp hc) hr

theorem BayLaw.cause_eq_none {r : BayRec} (h : BayLaw r) (hr : r.leaving = false) : r.cause = none := by
  have := h.cause
  rw [hr] at this
  exact Option.isSome_eq_false_iff.mp this |> Option.isNone_iff_eq_none.mp

theorem BayLaw.window_eq_none {r : BayRec} (h : BayLaw r) (hr : r.leaving = false) : r.ejectWindow = none := by
  refine Classical.byContradiction fun hne => ?_
  have := h.window (Option.isSome_iff_ne_none.mpr hne)
  rw [h.cause_eq_none hr] at this
  cases this

/-- A change that the law of a bay does not read. -/
structure SameBay (r r' : BayRec) : Prop where
  state : r'.state = r.state := by rfl
  contact : r'.contact = r.contact := by rfl
  link : r'.link = r.link := by rfl
  goodRun : r'.goodRun = r.goodRun := by rfl
  missRun : r'.missRun = r.missRun := by rfl
  queryTimer : r'.queryTimer.isSome = r.queryTimer.isSome := by rfl
  probeTimer : r'.probeTimer.isSome = r.probeTimer.isSome := by rfl
  stepTimer : r'.stepTimer.isSome = r.stepTimer.isSome := by rfl
  cause : r'.cause = r.cause := by rfl
  ejectWindow : r'.ejectWindow.isSome = r.ejectWindow.isSome := by rfl
  requalify : r'.requalify.isSome = true → r.requalify.isSome = true := by exact id

theorem BayLaw.congr {r r' : BayRec} (h : BayLaw r) (hs : SameBay r r') : BayLaw r' where
  contact := by rw [hs.contact, hs.state]; exact h.contact
  link := by rw [hs.contact, hs.link]; exact h.link
  polling := by rw [hs.contact, hs.queryTimer]; exact h.polling
  runs := by rw [hs.goodRun, hs.missRun]; exact h.runs
  probe := by rw [hs.probeTimer, hs.state]; exact h.probe
  step := by rw [hs.stepTimer, hs.link]; exact h.step
  cause := by rw [hs.cause, BayRec.leaving, hs.state]; exact h.cause
  window := by rw [hs.cause, hs.ejectWindow]; exact h.window
  requalify := fun hq => by rw [hs.state]; exact h.requalify (hs.requalify hq)

/-- R68: a bay with contact whose timers, cause and requalify go with its new state, outside its withdrawal. -/
theorem BayLaw.enter {r r' : BayRec} (h : BayLaw r) (hr : r.state ≠ .empty) (hr' : r'.state ≠ .empty) (hl : r'.leaving = false)
    (hp : r'.probeTimer.isSome = (r'.state == .probing)) (hcontact : r'.contact = r.contact := by rfl) (hlink : r'.link = r.link := by rfl)
    (hgood : r'.goodRun = r.goodRun := by rfl) (hmiss : r'.missRun = r.missRun := by rfl)
    (hquery : r'.queryTimer = r.queryTimer := by rfl) (hstep : r'.stepTimer = r.stepTimer := by rfl)
    (hcause : r'.cause = none := by rfl) (hwindow : r'.ejectWindow = none := by rfl) (hrequalify : r'.requalify = none := by rfl) :
    BayLaw r' where
  contact := by
    rw [hcontact, h.ne_empty_of hr]
    exact iff_of_false (by simp) hr'
  link := by rw [hcontact, hlink]; exact h.link
  polling := by rw [hcontact, hquery]; exact h.polling
  runs := by rw [hgood, hmiss]; exact h.runs
  probe := hp
  step := by rw [hstep, hlink]; exact h.step
  cause := by rw [hcause, hl]; rfl
  window := by simp [hwindow]
  requalify := by simp [hrequalify]

/-! ### A bay changes its state -/

/-- R68, 4.6: the record of a bay that has become FAULTED. -/
def faultedBay (r : BayRec) : BayRec :=
  ({ r with state := .faulted, cause := none, ejectWindow := none, probeTimer := none, requalify := none }).recount

/-- R78, R82, R84: the record of a bay that has become ONLINE. -/
def onlineBay (r : BayRec) : BayRec :=
  ({ r with state := .online, cause := none, ejectWindow := none, probeTimer := none, requalify := none }).recount

theorem becomeFaulted_eq (b : Bay) (s : State) : becomeFaulted b s = (s.modifyBay b faultedBay).raise (.bay b .fault) := rfl

theorem becomeOnline_eq (b : Bay) (s : State) : becomeOnline b s = s.modifyBay b onlineBay := rfl

theorem bayLaw_faulted {r : BayRec} (h : BayLaw r) (hr : r.state ≠ .empty) : BayLaw (faultedBay r) :=
  h.enter hr (by simp [faultedBay, BayRec.recount]) rfl rfl

theorem bayLaw_online {r : BayRec} (h : BayLaw r) (hr : r.state ≠ .empty) : BayLaw (onlineBay r) :=
  h.enter hr (by simp [onlineBay, BayRec.recount]) rfl rfl

@[simp] theorem becomeFaulted_bay (b : Bay) (s : State) : (becomeFaulted b s).bay b = faultedBay (s.bay b) := by
  rw [becomeFaulted_eq, State.raise_bay, State.modifyBay_bay]

@[simp] theorem becomeFaulted_other (b : Bay) (s : State) : (becomeFaulted b s).bay (otherBay b) = s.bay (otherBay b) := by
  rw [becomeFaulted_eq, State.raise_bay, State.modifyBay_otherBay]

@[simp] theorem becomeFaulted_supply (b : Bay) (s : State) : (becomeFaulted b s).supply = s.supply := by
  rw [becomeFaulted_eq, State.raise_supply, State.modifyBay_supply]

theorem Beside.becomeFaulted {b : Bay} {s : State} (h : Beside b s) (hb : (s.bay b).state ≠ .empty) : Beside b (becomeFaulted b s) :=
  (h.modifyBay (bayLaw_faulted h.bay hb)).raise _

theorem Beside.becomeOnline {b : Bay} {s : State} (h : Beside b s) (hb : (s.bay b).state ≠ .empty) : Beside b (becomeOnline b s) :=
  h.modifyBay (bayLaw_online h.bay hb)

theorem carriesAlone_setBay {b : Bay} {s t : State} (h : CarriesAlone s) (hb : (t.bay b).supplies = false)
    (ho : t.bay (otherBay b) = s.bay (otherBay b)) (hs : t.supply = s.supply) : CarriesAlone t := by
  refine h.mono (by rw [hs]; exact id) fun ht => ?_
  rw [someSource_eq b, hb, ho, hs] at ht
  rw [someSource_eq b, Bool.or_assoc, Bool.or_eq_true]
  exact .inr ht

theorem carriesAlone_becomeFaulted {b : Bay} {s : State} (h : CarriesAlone s) : CarriesAlone (becomeFaulted b s) :=
  carriesAlone_setBay h (by rw [becomeFaulted_bay]; rfl) (becomeFaulted_other b s) (becomeFaulted_supply b s)

/-- A bay that was not ONLINE does not wait. -/
theorem BayPart.not_waiting {b : Bay} {s : State} (h : BayPart b s) (hb : (s.bay b).state ≠ .online) : s.supply.waiting ≠ some b :=
  fun hw => hb (h.waiting hw).2

theorem laws_becomeFaulted {s : State} (h : SupplyLaw s) {b : Bay} (hb : (s.bay b).state.outside = true) (he : (s.bay b).state ≠ .empty) :
    SupplyLaw (becomeFaulted b s) :=
  (h.modifyBay b (.inr ⟨hb, rfl⟩) (bayLaw_faulted ((Sound.of_laws h).part b).bay he)).raise _

/-! ### The opening of a path -/

theorem startCarrying_bay (s : State) (b : Bay) : (startCarrying s).bay b = s.bay b := by
  unfold startCarrying
  split
  · rfl
  · dsimp only
    split <;> cases b <;> rfl

theorem sameSlots_startCarrying (s : State) : SameSlots s.supply (startCarrying s).supply := by
  unfold startCarrying
  split
  · exact {}
  · dsimp only
    split <;> exact {}

theorem startCarrying_inlet (s : State) : (startCarrying s).supply.inletPresent = s.supply.inletPresent := by
  unfold startCarrying
  split
  · rfl
  · dsimp only
    split <;> rfl

theorem cellShape_startCarrying {s : State} (h : CellShape s.supply) : CellShape (startCarrying s).supply := by
  unfold startCarrying
  split
  · exact h
  · dsimp only
    split <;> exact ⟨h.reserve, rfl⟩

/-- R106: the bridge may start to carry once nothing supplies. -/
theorem sound_startCarrying {s : State} (h : Sound s) (hn : someSource s = false) : Sound (startCarrying s) :=
  ⟨fun b => (h.part b).congr (startCarrying_bay s b) (sameSlots_startCarrying s), h.slots.congr (sameSlots_startCarrying s),
    cellShape_startCarrying h.cell, fun _ => (someSource_congr (startCarrying_bay s) (startCarrying_inlet s)).trans hn⟩

/-- R102 step 1: the bridge is set to carry before the last path opens. -/
def bridgedOver (b : Bay) (s : State) : State := if lastSource b s && systemOn s then startCarrying s else s

/-- R102: the record of a bay whose path has opened for its removal. -/
def releasedBay (r : BayRec) : BayRec := ({ r with state := .released, requalify := none }).recount

/-- R102: a bay whose path has opened for its removal. -/
def releaseBay (b : Bay) (s : State) : State :=
  let s2 := s.modifyBay b releasedBay
  ({ s2 with supply := { s2.supply with phase := some .opened } }).raise (.bay b .readyToRemove)

theorem openPath_eq (b : Bay) (s : State) :
    openPath b s = if ((bridgedOver b s).bay b).cause = some .disconnect then freeSlot (becomeFaulted b (bridgedOver b s))
      else releaseBay b (bridgedOver b s) := rfl

theorem bridgedOver_bay (b : Bay) (s : State) (c : Bay) : (bridgedOver b s).bay c = s.bay c := by
  unfold bridgedOver
  split
  · exact startCarrying_bay s c
  · rfl

theorem sameSlots_bridgedOver (b : Bay) (s : State) : SameSlots s.supply (bridgedOver b s).supply := by
  unfold bridgedOver
  split
  · exact sameSlots_startCarrying s
  · exact {}

theorem cellShape_bridgedOver (b : Bay) {s : State} (h : CellShape s.supply) : CellShape (bridgedOver b s).supply := by
  unfold bridgedOver
  split
  · exact cellShape_startCarrying h
  · exact h

theorem Beside.bridgedOver {b : Bay} {s : State} (h : Beside b s) : Beside b (bridgedOver b s) :=
  h.congr (bridgedOver_bay b s) (sameSlots_bridgedOver b s) (cellShape_bridgedOver b h.cell)

/-- R102, R106: behind the opening of the path of the bay that held the slot nothing supplies a bridge that carries. -/
theorem idle_bridgedOver {s : State} (h : Sound s) {b : Bay} (hs : s.supply.slot = some b) (hb : (s.bay b).state = .withdrawing)
    (hc : (bridgedOver b s).supply.carrying = true) :
    (s.bay (otherBay b)).supplies = false ∧ (bridgedOver b s).supply.inletPresent = false := by
  unfold bridgedOver at hc ⊢
  split at hc
  next hl =>
    rw [if_pos hl, startCarrying_inlet]
    simp only [lastSource, Bool.and_eq_true, bne_iff_ne, Bool.not_eq_true'] at hl
    refine ⟨?_, hl.1.2⟩
    have hno : (s.bay (otherBay b)).state ≠ .withdrawing := fun hw => by
      have := (h.part (otherBay b)).holder.mp ((leaving_iff _).mpr (.inl hw))
      exact otherBay_ne b (Option.some.inj (this.symm.trans hs))
    rw [← Bool.not_eq_true, supplies_iff]
    exact not_or.mpr ⟨hl.1.1, hno⟩
  next hl =>
    have := h.alone hc
    rw [someSource_eq b, (supplies_iff (s.bay b)).mpr (.inr hb)] at this
    cases this

theorem carriesAlone_opened {s t : State} (h : Sound s) {b : Bay} (hs : s.supply.slot = some b) (hb : (s.bay b).state = .withdrawing)
    (ht : (t.bay b).supplies = false) (ho : t.bay (otherBay b) = s.bay (otherBay b))
    (hc : t.supply.carrying = (bridgedOver b s).supply.carrying) (hi : t.supply.inletPresent = (bridgedOver b s).supply.inletPresent) :
    CarriesAlone t := fun hcarry => by
  obtain ⟨hother, hinlet⟩ := idle_bridgedOver h hs hb (hc ▸ hcarry)
  rw [someSource_eq b, ht, ho, hother, hi, hinlet]
  rfl

theorem bayLaw_released {r : BayRec} (h : BayLaw r) (hr : r.state = .withdrawing) : BayLaw (releasedBay r) where
  contact := by
    have := h.contact
    rw [hr] at this
    exact this.trans (by simp [releasedBay, BayRec.recount])
  link := h.link
  polling := h.polling
  runs := h.runs
  probe := h.probe.trans (by rw [hr]; rfl)
  step := h.step
  cause := h.cause.trans (by rw [BayRec.leaving, hr]; rfl)
  window := h.window
  requalify := fun hq => by cases hq

theorem releaseBay_bay (b : Bay) (s : State) : (releaseBay b s).bay b = releasedBay (s.bay b) := by cases b <;> rfl

theorem releaseBay_other (b : Bay) (s : State) : (releaseBay b s).bay (otherBay b) = s.bay (otherBay b) := by cases b <;> rfl

theorem releaseBay_supply (b : Bay) (s : State) : (releaseBay b s).supply = { s.supply with phase := some .opened } := by cases b <;> rfl

theorem sound_openPath {s : State} (h : Sound s) {b : Bay} (hs : s.supply.slot = some b) (hp : s.supply.phase = some .clearing) :
    Sound (openPath b s) := by
  have hb : (s.bay b).state = .withdrawing := by
    rcases (leaving_iff _).mp ((h.part b).holder.mpr hs) with hw | hr
    · exact hw
    · exact absurd (((h.part b).opened hs).mpr hr) (by simp [hp])
  have hbeside := (h.beside b).bridgedOver
  have hslots := sameSlots_bridgedOver b s
  have hnot : s.supply.waiting ≠ some b := (h.part b).not_waiting (by simp [hb])
  rw [openPath_eq]
  split
  · have hf := hbeside.becomeFaulted (by rw [bridgedOver_bay, hb]; simp)
    have hfree : freeSlot (becomeFaulted b (bridgedOver b s)) = freeSlotOf b (becomeFaulted b (bridgedOver b s)) := by
      rw [freeSlotOf, becomeFaulted_supply, hslots.slot, if_pos hs]
    rw [hfree]
    refine sound_freeSlotOf hf (by rw [becomeFaulted_bay]; rfl) (by rw [becomeFaulted_supply, hslots.waiting]; exact hnot) ?_
    exact carriesAlone_opened h hs hb (by rw [becomeFaulted_bay]; rfl) (by rw [becomeFaulted_other, bridgedOver_bay])
      (by rw [becomeFaulted_supply]) (by rw [becomeFaulted_supply])
  · have hbay := releaseBay_bay b (bridgedOver b s)
    have hother := releaseBay_other b (bridgedOver b s)
    have hr := releaseBay_supply b (bridgedOver b s)
    rw [bridgedOver_bay] at hbay hother
    have hpart := (h.part (otherBay b)).congr (bridgedOver_bay b s _) hslots
    have hslot : (bridgedOver b s).supply.slot = some b := hslots.slot.trans hs
    refine ⟨forall_bay b ⟨?_, ?_, ?_, ?_⟩ ⟨?_, ?_, ?_, ?_⟩, ⟨?_, ?_⟩, ⟨?_, ?_⟩, ?_⟩
    · rw [hbay]; exact bayLaw_released (h.part b).bay hb
    · rw [hbay, hr]; exact iff_of_true rfl hslot
    · intro _
      rw [hbay, hr]
      exact iff_of_true rfl rfl
    · rw [hr]
      exact fun hw => absurd (hslots.waiting ▸ hw) hnot
    · rw [hother]; exact (h.part _).bay
    · rw [hother, hr, ← bridgedOver_bay b s]; exact hpart.holder
    · rw [hr]
      exact fun hx => absurd (Option.some.inj (hx.symm.trans hslot)) (otherBay_ne b)
    · rw [hother, hr, ← bridgedOver_bay b s]; exact hpart.waiting
    · rw [hr]
      show true = (bridgedOver b s).supply.slot.isSome
      rw [hslot]; rfl
    · rw [hr]; exact hbeside.slots.reason
    · rw [hr]; exact hbeside.cell.reserve
    · rw [hr]; exact hbeside.cell.drain
    · exact carriesAlone_opened h hs hb (by rw [hbay]; rfl) (by rw [hother]) (by rw [hr]) (by rw [hr])

theorem sound_pathTest {s : State} (h : Sound s) : Sound (pathTest s) := by
  unfold pathTest
  split
  next b hs hp =>
    split
    · exact sound_recompute (sound_openPath h hs hp)
    · exact h
  · exact h

/-- The end of an event leaves both laws behind it. -/
theorem laws_settle {s : State} (h : Sound s) : SupplyLaw (settle s) :=
  laws_refreshRefill (sound_pathTest (sound_pathTest (sound_recompute h)))

/-! ### Losses and returns -/

theorem sound_hand {s : State} (h : Sound s) (c : Instr) : Sound (s.hand c) := h.of_same (fun b => State.hand_bay c s b) rfl

theorem sound_answerNoSource {s : State} (h : Sound s) : Sound (answerNoSource s) := by
  unfold answerNoSource
  split
  · exact h
  next hn =>
    have hn : someSource s = false := by simpa using hn
    repeat' split
    all_goals first
      | exact sound_startCarrying h hn
      | exact sound_hand h _
      | exact h

theorem laws_answerLoss {s : State} (h : Sound s) : SupplyLaw (answerLoss s) := laws_settle (sound_retest (sound_answerNoSource h))

theorem laws_loseBay {b : Bay} {s : State} (h : Beside b s) (hb : (s.bay b).leaving = false) (ha : CarriesAlone s) : SupplyLaw (loseBay b s) := by
  refine laws_answerLoss (sound_freeSlotOf (h.stopWaiting b) (by rw [stopWaiting_bay]; exact hb) (fun hw => ?_) (ha.stopWaiting b))
  exact (waiting_of_stopWaiting hw).2 rfl

theorem endBridging_bay (s : State) (b : Bay) : (endBridging s).bay b = s.bay b := by
  unfold endBridging
  split
  · cases b <;> rfl
  · rfl

theorem sameSlots_endBridging (s : State) : SameSlots s.supply (endBridging s).supply := by
  unfold endBridging
  split <;> exact {}

theorem endBridging_carrying (s : State) : (endBridging s).supply.carrying = false := by
  unfold endBridging
  split
  · rfl
  next h => simpa using h

theorem cellShape_endBridging {s : State} (h : CellShape s.supply) : CellShape (endBridging s).supply := by
  unfold endBridging
  split
  · exact ⟨h.reserve, rfl⟩
  · exact h

theorem Beside.endBridging {b : Bay} {s : State} (h : Beside b s) : Beside b (endBridging s) :=
  h.congr (endBridging_bay s) (sameSlots_endBridging s) (cellShape_endBridging h.cell)

theorem carriesAlone_endBridging (s : State) : CarriesAlone (endBridging s) := fun h => by rw [endBridging_carrying] at h; cases h

theorem BayPart.endBridging {b : Bay} {s : State} (h : BayPart b s) : BayPart b (endBridging s) :=
  h.congr (endBridging_bay s b) (sameSlots_endBridging s)

/-- R108: whatever supplies now, the bridge has stopped. -/
theorem sound_endBridging {s : State} (hp : ∀ b, BayPart b s) (hs : SlotShape s.supply) (hc : CellShape s.supply) : Sound (endBridging s) :=
  ⟨fun b => (hp b).endBridging, hs.congr (sameSlots_endBridging s), cellShape_endBridging hc, carriesAlone_endBridging s⟩

/-- R78, R79, R82: a bay comes ONLINE from outside the supply. -/
theorem laws_bringOnline {s : State} (h : Sound s) {b : Bay} (hb : (s.bay b).state.outside = true) (he : (s.bay b).state ≠ .empty) :
    SupplyLaw (bringOnline b s) := by
  have hbeside := (h.beside b).becomeOnline he
  obtain ⟨hl, -, -, ho⟩ := BayRec.of_outside hb
  have hslot : s.supply.slot ≠ some b := fun hs => by
    have := (h.part b).holder.mpr hs
    rw [hl] at this
    cases this
  have hon : (becomeOnline b s).bay b = onlineBay (s.bay b) := State.modifyBay_bay b onlineBay s
  have hsup : (becomeOnline b s).supply = s.supply := State.modifyBay_supply b onlineBay s
  refine laws_settle (sound_unblock (sound_endBridging (forall_bay b ⟨hbeside.bay, ?_, ?_, ?_⟩ hbeside.other) hbeside.slots hbeside.cell))
  · rw [hon, hsup]
    exact iff_of_false (by simp [onlineBay, BayRec.recount, BayRec.leaving]) hslot
  · rw [hsup]; exact fun hs => absurd hs hslot
  · rw [hsup]; exact fun hw => absurd hw ((h.part b).not_waiting ho)

/-- R81, R82: a withdrawal is cancelled. -/
theorem laws_cancelWithdrawal {s : State} (h : Sound s) {b : Bay} (hb : (s.bay b).leaving = true) : SupplyLaw (cancelWithdrawal b s) := by
  have he : (s.bay b).state ≠ .empty ∧ (s.bay b).state ≠ .online := by
    rcases (leaving_iff _).mp hb with hx | hx <;> rw [hx] <;> decide
  have hon : (becomeOnline b s).bay b = onlineBay (s.bay b) := State.modifyBay_bay b onlineBay s
  have hsup : (becomeOnline b s).supply = s.supply := State.modifyBay_supply b onlineBay s
  refine laws_settle (sound_unblock (sound_freeSlotOf ((h.beside b).becomeOnline he.1).endBridging ?_ ?_ (carriesAlone_endBridging _)))
  · rw [endBridging_bay, hon]; rfl
  · rw [(sameSlots_endBridging _).waiting, hsup]
    exact (h.part b).not_waiting he.2

theorem laws_relock {s : State} (h : Sound s) {b : Bay} (hb : (s.bay b).state = .released) : SupplyLaw (relock b s) := by
  unfold relock
  split
  · exact laws_cancelWithdrawal h ((leaving_iff _).mpr (.inr hb))
  · refine laws_settle (sound_freeSlotOf ((h.beside b).becomeFaulted (by simp [hb])) (by rw [becomeFaulted_bay]; rfl) ?_
      (carriesAlone_becomeFaulted h.alone))
    rw [becomeFaulted_supply]
    exact (h.part b).not_waiting (by simp [hb])

/-- 4.6: a bay that is neither EMPTY nor RELEASED becomes FAULTED. -/
theorem laws_faultBay {s : State} (h : SupplyLaw s) {b : Bay} (he : (s.bay b).state ≠ .empty) (hr : (s.bay b).state ≠ .released) :
    SupplyLaw (faultBay b s) := by
  have hs := Sound.of_laws h
  unfold faultBay
  split
  · exact laws_loseBay ((hs.beside b).becomeFaulted he) (by rw [becomeFaulted_bay]; rfl) (carriesAlone_becomeFaulted hs.alone)
  next hn =>
    refine laws_becomeFaulted h ?_ he
    rw [supplies_iff] at hn
    cases hx : (s.bay b).state <;> simp_all [BayState.outside]

/-- R97, R98: while the slot is free, no bay is on its way out and none waits. -/
theorem Sound.vacant {s : State} (h : Sound s) (hslot : s.supply.slot = none) : Vacant s ∧ ∀ c, s.supply.waiting ≠ some c := by
  have hwait : ∀ c, s.supply.waiting ≠ some c := fun c hc => by
    have := ((h.part c).waiting hc).1
    rw [hslot] at this
    cases this
  have hnobody : ∀ c, (s.bay c).leaving = false := fun c => by
    rw [← Bool.not_eq_true, (h.part c).holder, hslot]
    simp
  exact ⟨⟨fun c => (h.part c).bay, hnobody, fun c hc => absurd hc (hwait c), h.slots.reason, h.cell, h.alone⟩, hwait⟩

/-- R98: a lever opened or a DISCONNECT accepted at an ONLINE bay. -/
theorem sound_requestWithdrawal {s : State} (h : Sound s) {b : Bay} (hb : (s.bay b).state = .online) (reason : WaitReason) :
    Sound (requestWithdrawal b reason s) := by
  have hl : (s.bay b).leaving = false := by rw [BayRec.leaving, hb]; rfl
  unfold requestWithdrawal
  split
  next hsome =>
    have hslot : s.supply.slot = some (otherBay b) := by
      obtain ⟨c, hc⟩ := Option.isSome_iff_exists.mp hsome
      rcases bay_cases b c with rfl | rfl
      · exact absurd ((h.part c).holder.mpr hc) (by simp [hl])
      · exact hc
    have hown := h.part b
    have hpart := h.part (otherBay b)
    refine ⟨forall_bay b ⟨?_, ?_, ?_, fun _ => ⟨hslot, ?_⟩⟩ ⟨?_, ?_, ?_, fun hw => ?_⟩, ⟨h.slots.phase, rfl⟩, h.cell.congr {}, h.alone⟩
    · cases b <;> exact hown.bay
    · cases b <;> exact hown.holder
    · cases b <;> exact hown.opened
    · cases b <;> exact hb
    · cases b <;> exact hpart.bay
    · cases b <;> exact hpart.holder
    · cases b <;> exact hpart.opened
    · exact absurd (Option.some.inj hw).symm (otherBay_ne b)
  next hnone =>
    obtain ⟨hvac, hwait⟩ := h.vacant (by simpa using hnone)
    exact sound_startWithdrawal hvac hb (fun c hc => absurd hc (hwait c)) _

end Sys2Proof.Machine
end

section
/-!
PROOFS. What every event of the supply side keeps of the withdrawal slot, the bays and the bridge cell, and the statement about it: O7.
-/
namespace Sys2Proof.Machine

/-! ### Changes that no law reads -/

theorem someSource_modifyBay {b : Bay} {f : BayRec → BayRec} {s : State} (hp : SamePlace (s.bay b) (f (s.bay b))) :
    someSource (s.modifyBay b f) = someSource s := by
  rw [someSource_eq b, someSource_eq b]
  simp [hp.eqs.2.1]

/-- The refill timer stands as it did while its condition does (R110). -/
theorem SupplyLaw.of_sound {s t : State} (h : SupplyLaw s) (ht : Sound t) (hs : someSource t = someSource s)
    (hc : t.supply.carrying = s.supply.carrying := by rfl) (hr : t.supply.reserve = s.supply.reserve := by rfl)
    (hf : t.supply.refillTimer = s.supply.refillTimer := by rfl) : SupplyLaw t := by
  refine ⟨ht.withdrawalLaw, ht.cell.reserve, ht.alone, ht.cell.drain, ?_⟩
  rw [← someSource_iff, hs, hc, hr, hf, someSource_iff]
  exact h.2.refill

theorem SupplyLaw.sameBay {s : State} (h : SupplyLaw s) (b : Bay) {f : BayRec → BayRec} (hf : SameBay (s.bay b) (f (s.bay b))) :
    SupplyLaw (s.modifyBay b f) :=
  h.modifyBay b (.inl hf.state) (((Sound.of_laws h).part b).bay.congr hf)

theorem SupplyLaw.stopWaiting {s : State} (h : SupplyLaw s) (b : Bay) : SupplyLaw (stopWaiting b s) := by
  refine h.of_sound (sound_stopWaiting (Sound.of_laws h) b) (someSource_congr (stopWaiting_bay b s) (stopWaiting_inlet b s))
    (sameCell_stopWaiting b s).carrying (sameCell_stopWaiting b s).reserve ?_
  unfold Sys2Proof.Machine.stopWaiting
  split <;> rfl

/-- R98, R103: the waiting bay waits on for another reason. -/
theorem SupplyLaw.waitReason {s : State} (h : SupplyLaw s) {b : Bay} (hw : s.supply.waiting = some b) (x : WaitReason) :
    SupplyLaw { s with supply := { s.supply with waitReason := some x } } := by
  have hs := Sound.of_laws h
  refine h.of_sound ⟨fun c => ?_, ⟨hs.slots.phase, by rw [hw]; rfl⟩, hs.cell.congr {}, hs.alone⟩ rfl
  have hc := hs.part c
  cases c <;> exact ⟨hc.bay, hc.holder, hc.opened, hc.waiting⟩

/-- A guarded change. -/
theorem ite_cases {α : Type} {p : α → Prop} {q : Prop} [Decidable q] {x y : α} (h : q → p x) (k : p y) : p (if q then x else y) := by
  split
  next hq => exact h hq
  · exact k

/-! ### Levers -/

theorem laws_ejectToLever {s : State} (h : SupplyLaw s) (b : Bay) : SupplyLaw (ejectToLever b s) := by
  have hb := ((Sound.of_laws h).part b).bay
  unfold ejectToLever
  refine h.modifyBay b ?_ ?_
  · split <;> exact .inl rfl
  · split
    next hc => exact ⟨hb.contact, hb.link, hb.polling, hb.runs, hb.probe, hb.step, (congrArg Option.isSome hc).symm.trans hb.cause,
        fun hw => (by cases hw), hb.requalify⟩
    · exact hb

theorem laws_qualifiedOnline {s : State} (h : SupplyLaw s) {b : Bay} (hb : (s.bay b).state = .qualified) : SupplyLaw (qualifiedOnline b s) :=
  laws_bringOnline ((Sound.of_laws h).raise _) (by rw [State.raise_bay, hb]; rfl) (by rw [State.raise_bay, hb]; decide)

theorem laws_lockWaiting {s : State} (h : SupplyLaw s) (b : Bay) : SupplyLaw (lockWaiting b s) := by
  unfold lockWaiting
  split
  next hw =>
    split
    · exact h.waitReason hw _
    · exact h.stopWaiting b
  · exact h

theorem laws_leverOpened {s : State} (h : SupplyLaw s) (b : Bay) : SupplyLaw (leverOpened b s) := by
  unfold leverOpened
  split
  next hb => exact laws_settle (sound_requestWithdrawal (Sound.of_laws h) hb _)
  · exact laws_ejectToLever h b
  · exact laws_ejectToLever h b
  all_goals exact h

theorem laws_leverLocked {s : State} (h : SupplyLaw s) (b : Bay) : SupplyLaw (leverLocked b s) := by
  have hs := Sound.of_laws h
  unfold leverLocked
  split
  next hb =>
    split
    · exact laws_qualifiedOnline h hb
    · exact h
  · exact laws_lockWaiting h b
  next hb =>
    split
    · exact laws_cancelWithdrawal hs ((leaving_iff _).mpr (.inl hb))
    · exact h
  next hb =>
    split
    · exact laws_relock hs hb
    · exact h
  all_goals exact h

theorem laws_takeLever {s : State} (h : SupplyLaw s) (b : Bay) (level : Lever) : SupplyLaw (takeLever b level s) := by
  have h1 : SupplyLaw (s.modifyBay b fun r => { r with leverTaken := level }) := h.sameBay b {}
  unfold takeLever
  cases level with
  | opened => exact laws_leverOpened h1 b
  | locked => exact laws_leverLocked h1 b

theorem laws_changeLever {s : State} (h : SupplyLaw s) (b : Bay) (level : Lever) : SupplyLaw (changeLever b level s) := by
  have h1 : SupplyLaw (s.modifyBay b fun r => { r with leverInput := level }) := h.sameBay b {}
  unfold changeLever
  dsimp only
  split
  · exact h
  · split
    · exact h1.sameBay b {}
    · exact laws_takeLever h1 b level

/-! ### Contact -/

theorem bayLaw_inserted {r : BayRec} (h : BayLaw r) (hc : r.contact = .lost) : BayLaw (insertedBay r) := by
  have he := h.contact.mp hc
  have hleave : r.leaving = false := by rw [BayRec.leaving, he]; rfl
  have hlink : r.link = none := by
    have := h.link
    rw [hc] at this
    exact Option.not_isSome_iff_eq_none.mp (by rw [this]; decide)
  refine ⟨by simp [insertedBay], rfl, rfl, by simp [insertedBay], rfl, ?_, ?_, h.window, fun hq => ?_⟩
  · have := h.step
    rw [hlink] at this
    exact this
  · have := h.cause
    rw [hleave] at this
    exact this
  · rcases h.requalify hq with hx | hx <;> rw [he] at hx <;> cases hx

theorem laws_makeContact {s : State} (h : SupplyLaw s) (b : Bay) : SupplyLaw (makeContact b s) := by
  unfold makeContact
  split
  · exact h
  next hc =>
    have hb := ((Sound.of_laws h).part b).bay
    have hlost : (s.bay b).contact = .lost := by cases hx : (s.bay b).contact <;> simp_all
    exact (h.modifyBay b (.inr ⟨by rw [hb.contact.mp hlost]; rfl, rfl⟩) (bayLaw_inserted hb hlost)).raise _

theorem bayLaw_emptied (r : BayRec) : BayLaw (emptiedBay r) := by
  constructor <;> simp [emptiedBay, BayRec.leaving]

theorem laws_endStart {s : State} (h : SupplyLaw s) : SupplyLaw (endStart s) := by
  unfold endStart
  split
  · exact h.of_same (fun b => by cases b <;> rfl) rfl
  · exact h

theorem laws_loseContact {s : State} (h : SupplyLaw s) (b : Bay) : SupplyLaw (loseContact b s) := by
  have hs := Sound.of_laws h
  have hbeside : ∀ a, Beside b ((s.modifyBay b emptiedBay).raise a) := fun a => ((hs.beside b).modifyBay (bayLaw_emptied _)).raise a
  have hbay : ∀ a, ((s.modifyBay b emptiedBay).raise a).bay b = emptiedBay (s.bay b) := fun a => by
    rw [State.raise_bay, State.modifyBay_bay]
  have halone : ∀ a, CarriesAlone ((s.modifyBay b emptiedBay).raise a) := fun a =>
    carriesAlone_setBay hs.alone (by rw [hbay]; rfl) (by simp) (by simp)
  unfold loseContact
  dsimp only
  split
  · exact h
  · refine laws_endStart ?_
    split
    · exact laws_loseBay (hbeside _) (by rw [hbay]; rfl) (halone _)
    next hn =>
      refine laws_settle (sound_freeSlotOf (hbeside _) (by rw [hbay]; rfl) ?_ (halone _))
      rw [State.raise_supply, State.modifyBay_supply]
      exact (hs.part b).not_waiting fun ho => hn ((supplies_iff _).mpr (.inl ho))

/-! ### The pack link -/

theorem bayLaw_missStep {r : BayRec} (h : BayLaw r) : BayLaw (missStep r) := by
  have hruns := h.runs
  unfold missStep
  split
  · split
    · exact ⟨h.contact, by rw [← h.link]; simp [*], h.polling, by simp, h.probe, rfl, h.cause, h.window, h.requalify⟩
    · exact ⟨h.contact, h.link, h.polling, by simp; omega, h.probe, h.step, h.cause, h.window, h.requalify⟩
  · split
    · exact ⟨h.contact, by rw [← h.link]; simp [*], h.polling, by simp, h.probe, rfl, h.cause, h.window, h.requalify⟩
    · exact ⟨h.contact, h.link, h.polling, by simp; omega, h.probe, h.step, h.cause, h.window, h.requalify⟩
  · exact ⟨h.contact, h.link, h.polling, by simpa using hruns.2, h.probe, h.step, h.cause, h.window, h.requalify⟩
  · exact ⟨h.contact, h.link, h.polling, by simpa using hruns.2, h.probe, h.step, h.cause, h.window, h.requalify⟩
  · exact h

theorem missStep_state (r : BayRec) : (missStep r).state = r.state := by
  unfold missStep
  repeat' split
  all_goals rfl

theorem laws_failAnswer {s : State} (h : SupplyLaw s) (b : Bay) : SupplyLaw (failAnswer b s) := by
  have hb := ((Sound.of_laws h).part b).bay
  have h1 : SupplyLaw (s.modifyBay b fun r => missStep { r with candidate := none, answerWindow := none }) :=
    h.modifyBay b (.inl (missStep_state _)) (bayLaw_missStep (hb.congr {}))
  unfold failAnswer
  dsimp only
  split
  · exact SupplyLaw.raise h1 _
  · exact h1

theorem bayLaw_goodStep {r : BayRec} (h : BayLaw r) : BayLaw (goodStep r) := by
  have hruns := h.runs
  have hstep := h.step
  have hlink := h.link
  unfold goodStep
  split
  next hl =>
    rw [hl] at hstep hlink
    refine ⟨h.contact, ?_, h.polling, ⟨Nat.min_le_left _ _, Nat.zero_le _⟩, h.probe, ?_, h.cause, h.window, h.requalify⟩
    · rw [← hlink]; dsimp only; split <;> rfl
    · rw [hstep]; dsimp only; split <;> rfl
  next => exact ⟨h.contact, h.link, h.polling, ⟨Nat.min_le_left _ _, Nat.zero_le _⟩, h.probe, h.step, h.cause, h.window, h.requalify⟩
  next hl =>
    rw [hl] at hlink
    split
    · exact ⟨h.contact, hlink, h.polling, ⟨Nat.le_refl _, Nat.zero_le _⟩, h.probe, rfl, h.cause, h.window, h.requalify⟩
    · exact ⟨h.contact, h.link, h.polling, ⟨by dsimp only; omega, hruns.2⟩, h.probe, h.step, h.cause, h.window, h.requalify⟩
  next => exact ⟨h.contact, h.link, h.polling, ⟨Nat.min_le_left _ _, hruns.2⟩, h.probe, h.step, h.cause, h.window, h.requalify⟩
  next => exact h

theorem goodStep_state (r : BayRec) : (goodStep r).state = r.state := by
  unfold goodStep
  repeat' split
  all_goals rfl

theorem laws_heard {s : State} (h : SupplyLaw s) (b : Bay) (p : Profile) (a : Answer) : SupplyLaw (s.modifyBay b (heardBay p a)) :=
  h.modifyBay b (.inl (goodStep_state _)) ((bayLaw_goodStep ((Sound.of_laws h).part b).bay).congr {})

/-! ### Acceptance -/

theorem laws_acceptProbing {s : State} (h : SupplyLaw s) {b : Bay} (hb : (s.bay b).state = .probing) (c : Condition) :
    SupplyLaw (acceptProbing b c s) := by
  have hout : (s.bay b).state.outside = true := by rw [hb]; rfl
  have hne : (s.bay b).state ≠ .empty := by rw [hb]; decide
  have hbay := ((Sound.of_laws h).part b).bay
  unfold acceptProbing
  dsimp only
  split
  · exact laws_becomeFaulted h hout hne
  · split
    · refine SupplyLaw.modifyBay (h.raise _) b (.inr ⟨by rw [State.raise_bay]; exact hout, rfl⟩) ?_
      rw [State.raise_bay]
      have hl : (s.bay b).leaving = false := (BayRec.of_outside hout).1
      refine hbay.enter hne (by simp) rfl rfl (hcause := hbay.cause_eq_none hl) (hwindow := hbay.window_eq_none hl) (hrequalify := ?_)
      refine Classical.byContradiction fun hq => ?_
      rcases hbay.requalify (Option.isSome_iff_ne_none.mpr hq) with hx | hx <;> rw [hb] at hx <;> cases hx
    · exact laws_bringOnline (Sound.of_laws (h.raise _)) (by rw [State.raise_bay]; exact hout) (by rw [State.raise_bay]; exact hne)

theorem laws_acceptOnline {s : State} (h : SupplyLaw s) {b : Bay} (hb : (s.bay b).state = .online) (c : Condition) (failed : Bool) :
    SupplyLaw (acceptOnline b c failed s) := by
  have hs := Sound.of_laws h
  unfold acceptOnline
  split
  · exact laws_faultBay h (by simp [hb]) (by simp [hb])
  · split
    · exact laws_settle (sound_requestWithdrawal hs hb _)
    · exact laws_settle hs

theorem laws_turnToDisconnect {s : State} (h : SupplyLaw s) {b : Bay} (hb : (s.bay b).state = .withdrawing) :
    SupplyLaw (turnToDisconnect b s) := by
  have hbay := ((Sound.of_laws h).part b).bay
  refine h.modifyBay b (.inl rfl) ⟨hbay.contact, hbay.link, hbay.polling, hbay.runs, hbay.probe, hbay.step, ?_, fun hw => (by cases hw),
    hbay.requalify⟩
  simp [BayRec.leaving, hb]

theorem laws_acceptWithdrawing {s : State} (h : SupplyLaw s) {b : Bay} (hb : (s.bay b).state = .withdrawing) (c : Condition) (failed : Bool) :
    SupplyLaw (acceptWithdrawing b c failed s) := by
  unfold acceptWithdrawing
  split
  · exact laws_faultBay h (by simp [hb]) (by simp [hb])
  · split
    · exact laws_settle (Sound.of_laws (laws_turnToDisconnect h hb))
    · exact laws_settle (Sound.of_laws h)

theorem laws_reactAccepted {s : State} (h : SupplyLaw s) (b : Bay) (c : Condition) (failed : Bool) :
    SupplyLaw (reactAccepted b c failed s) := by
  unfold reactAccepted
  split
  next hb => exact laws_acceptProbing h hb c
  next hb =>
    split
    · exact laws_becomeFaulted h (by rw [hb]; rfl) (by simp [hb])
    · exact h
  next hb => exact laws_acceptOnline h hb c failed
  next hb => exact laws_acceptWithdrawing h hb c failed
  all_goals exact h

theorem laws_acceptCondition {s : State} (h : SupplyLaw s) (b : Bay) (c : Condition) : SupplyLaw (acceptCondition b c s) := by
  have h1 : SupplyLaw (s.modifyBay b fun r => ({ r with accepted := some c, requalify := none }).recount) :=
    h.sameBay b { requalify := fun hq => by cases hq }
  unfold acceptCondition
  dsimp only
  split
  · exact laws_reactAccepted (h1.raise _) b c _
  · exact laws_reactAccepted h1 b c _

theorem laws_linkReturned {s : State} (b : Bay) (before : BayRec) {otherwise : State → State} (h : SupplyLaw s)
    (ho : SupplyLaw (otherwise s)) : SupplyLaw (linkReturned b before otherwise s) := by
  unfold linkReturned
  split
  next hc =>
    simp only [BayRec.comesBack, Bool.and_eq_true, beq_iff_eq] at hc
    obtain ⟨⟨⟨hb, -⟩, -⟩, -⟩ := hc
    exact laws_qualifiedOnline h hb
  · exact ho

theorem laws_hearAnswer {s : State} (h : SupplyLaw s) (b : Bay) (a : Answer) : SupplyLaw (hearAnswer b a s) := by
  have h1 := laws_heard h b s.profile a
  unfold hearAnswer
  dsimp only
  split
  · have h2 := laws_acceptCondition h1 b a.condition
    exact laws_linkReturned b _ h2 h2
  · exact laws_linkReturned b _ h1 (laws_settle (Sound.of_laws h1))

theorem laws_takeAnswer {s : State} (h : SupplyLaw s) (b : Bay) (bytes : List Byte) : SupplyLaw (takeAnswer b bytes s) := by
  unfold takeAnswer
  split
  · exact h
  · split
    · exact laws_hearAnswer h b _
    · exact laws_failAnswer h b

/-! ### The bay's timers, requalify and policy -/

theorem laws_loseLink {s : State} (h : SupplyLaw s) {b : Bay} (hl : (s.bay b).link = some .outOfStep) : SupplyLaw (loseLink b s) := by
  have hbay := ((Sound.of_laws h).part b).bay
  have hlink := hbay.link
  rw [hl] at hlink
  have h1 : SupplyLaw (s.modifyBay b fun r => { r with link := some .lost, stepTimer := none }) :=
    h.modifyBay b (.inl rfl) ⟨hbay.contact, hlink, hbay.polling, hbay.runs, hbay.probe, rfl, hbay.cause, hbay.window, hbay.requalify⟩
  have hstate : ((s.modifyBay b fun r => { r with link := some .lost, stepTimer := none }).bay b).state = (s.bay b).state := by
    rw [State.modifyBay_bay]
  unfold loseLink
  dsimp only
  split
  all_goals first
    | exact h1
    | next hb => exact laws_faultBay h1 (by rw [hstate, hb]; decide) (by rw [hstate, hb]; decide)

theorem laws_expireEject {s : State} (h : SupplyLaw s) (b : Bay) : SupplyLaw (expireEject b s) := by
  unfold expireEject
  split
  next hb => exact laws_cancelWithdrawal (Sound.of_laws h) ((leaving_iff _).mpr (.inl hb))
  next hb => exact laws_relock (Sound.of_laws h) hb
  all_goals exact h

theorem laws_expireRequalify {s : State} (h : SupplyLaw s) {b : Bay} (hq : (s.bay b).requalify.isSome = true) :
    SupplyLaw (faultBay b s) := by
  rcases ((Sound.of_laws h).part b).bay.requalify hq with hb | hb <;> exact laws_faultBay h (by simp [hb]) (by simp [hb])

theorem laws_askRequalify {s : State} (h : SupplyLaw s) (b : Bay) : SupplyLaw (askRequalify b s) := by
  have hbay := ((Sound.of_laws h).part b).bay
  unfold askRequalify
  split
  next hb =>
    refine laws_settle ((Sound.of_laws h).modifyBay b (.inl rfl) ?_)
    exact ⟨hbay.contact, hbay.link, hbay.polling, ⟨Nat.zero_le _, hbay.runs.2⟩, hbay.probe, hbay.step, hbay.cause, hbay.window,
      fun _ => .inl hb⟩
  · exact h

theorem laws_referWaiting {s : State} (h : SupplyLaw s) (b : Bay) : SupplyLaw (referWaiting b s) := by
  unfold referWaiting
  split
  next hw =>
    split
    · exact h.waitReason hw _
    · exact h.stopWaiting b
  · exact h

theorem sound_actDisconnect {s : State} (h : Sound s) (b : Bay) : Sound (actDisconnect b s) := by
  unfold actDisconnect
  split
  next hb => exact sound_requestWithdrawal h hb.1 _
  · exact h

theorem laws_changePolicy {s : State} (h : SupplyLaw s) (b : Bay) (p : Policy) : SupplyLaw (changePolicy b p s) := by
  have h1 : SupplyLaw (s.modifyBay b fun r => ({ r with policy := p }).recount) := h.sameBay b {}
  unfold changePolicy
  dsimp only
  split
  · exact h
  · refine laws_settle ?_
    cases p with
    | act => exact sound_actDisconnect (Sound.of_laws h1) b
    | refer => exact Sound.of_laws (laws_referWaiting h1 b)

/-! ### The Supply Controller's own events -/

theorem laws_takeTotal {s : State} (h : SupplyLaw s) (total : Nat) : SupplyLaw (takeTotal total s) :=
  laws_refreshRefill (sound_pathTest (sound_pathTest ((Sound.of_laws h).congr (fun b => by cases b <;> rfl) {} {} rfl)))

theorem laws_inletArrives {s : State} (h : SupplyLaw s) : SupplyLaw (inletArrives s) := by
  have hs := Sound.of_laws h
  refine laws_settle (sound_unblock (sound_endBridging (fun b => (hs.part b).congr ?_ {}) (hs.slots.congr {}) (hs.cell.congr {})))
  cases b <;> rfl

theorem laws_inletLeaves {s : State} (h : SupplyLaw s) : SupplyLaw (inletLeaves s) := by
  have hs := Sound.of_laws h
  refine laws_answerLoss ⟨fun b => (hs.part b).congr (by cases b <;> rfl) {}, hs.slots.congr {}, hs.cell.congr {}, hs.alone.mono id ?_⟩
  intro ht
  simp only [someSource, Bool.or_false] at ht
  simp only [someSource, ht, Bool.true_or]

theorem laws_changeInlet {s : State} (h : SupplyLaw s) (present : Bool) : SupplyLaw (changeInlet present s) := by
  unfold changeInlet
  split
  · exact h
  · split
    · exact laws_inletArrives h
    · exact laws_inletLeaves h

theorem sound_stopCarrying {s : State} (h : Sound s) : Sound (stopCarrying s) :=
  ⟨fun b => (h.part b).congr (by cases b <;> rfl) {}, h.slots.congr {}, ⟨h.cell.reserve, rfl⟩, fun hc => by cases hc⟩

theorem sound_exhaustBridge {s : State} (h : Sound s) : Sound (exhaustBridge s) := sound_hand (sound_stopCarrying h) _

/-- R107: a second less of the reserve, the bridge carrying. -/
theorem sound_drained {s : State} (h : Sound s) (hc : s.supply.carrying = true) :
    Sound { s with supply := { s.supply with reserve := s.supply.reserve - 1, drainTimer := some (sec 1) } } :=
  ⟨fun b => (h.part b).congr (by cases b <;> rfl) {}, h.slots.congr {}, ⟨Nat.le_trans (Nat.sub_le _ _) h.cell.reserve, hc.symm⟩, h.alone⟩

theorem laws_drain {s : State} (h : SupplyLaw s) (hc : s.supply.carrying = true) : SupplyLaw (drain s) := by
  have h1 := sound_drained (Sound.of_laws h) hc
  unfold drain
  dsimp only
  refine laws_settle (sound_unblock ?_)
  repeat' split
  all_goals first
    | exact sound_exhaustBridge (h1.raise _)
    | exact sound_exhaustBridge h1
    | exact h1.raise _
    | exact h1

theorem laws_refill {s : State} (h : SupplyLaw s) : SupplyLaw (refill s) := by
  have hs := Sound.of_laws h
  exact laws_settle (sound_unblock ⟨fun b => (hs.part b).congr (by cases b <;> rfl) {}, hs.slots.congr {},
    ⟨Nat.min_le_left _ _, hs.cell.drain⟩, hs.alone⟩)

theorem laws_takeDeferred {s : State} (h : SupplyLaw s) (b : Bay) : SupplyLaw (takeDeferred b s) := by
  unfold takeDeferred
  split
  · exact h
  next level _ =>
    have h1 : SupplyLaw (s.modifyBay b fun r => { r with deferred := none }) := h.sameBay b {}
    dsimp only
    split
    · exact h1
    · exact laws_takeLever h1 b level

/-- A change of the supply record that no law reads. -/
theorem SupplyLaw.deferral {s : State} (h : SupplyLaw s) (x : Bool) : SupplyLaw { s with supply := { s.supply with deferral := x } } :=
  h.of_sound ((Sound.of_laws h).congr (fun b => by cases b <;> rfl) {} {} rfl) rfl

theorem laws_releaseDeferral {s : State} (h : SupplyLaw s) : SupplyLaw (releaseDeferral s) := by
  have h1 := h.deferral false
  have h2 : ∀ n, SupplyLaw { s with supply := { s.supply with deferral := false }, freeCount := n } := fun n =>
    h1.of_same (fun b => by cases b <;> rfl) rfl
  unfold releaseDeferral
  dsimp only
  split
  · split
    · exact laws_takeDeferred (laws_takeDeferred (h2 _) _) _
    · exact laws_takeDeferred (laws_takeDeferred (h2 _) _) _
  · exact laws_takeDeferred (laws_takeDeferred h1 _) _

theorem laws_supplyNotice {s : State} (h : SupplyLaw s) (st : SystemState) : SupplyLaw (supplyNotice st s) := by
  have hs := Sound.of_laws h
  cases st
  case starting =>
    refine laws_settle (sound_retest ?_)
    split
    next hc =>
      simp only [Bool.and_eq_true, Bool.not_eq_true'] at hc
      exact sound_startCarrying hs hc.2
    · exact hs
  case run => exact laws_settle (sound_unblock hs)
  case stopping =>
    refine laws_settle (sound_retest ?_)
    split
    · exact sound_exhaustBridge hs
    · exact hs
  case dark => exact laws_settle (sound_unblock (sound_endBridging hs.part hs.slots hs.cell))

theorem laws_changeSupplySettings {s : State} (h : SupplyLaw s) : SupplyLaw (changeSupplySettings s) := by
  have h1 : Sound { s with bridgeTests := s.bridgeTests.tail } := (Sound.of_laws h).of_same (fun b => by cases b <;> rfl) rfl
  unfold changeSupplySettings
  dsimp only
  refine laws_settle ?_
  split
  · exact sound_retest h1
  · exact h1

/-! ### The host's requests -/

theorem laws_require {g : Bool} {st : Status} {s : State} {x : State × Reply} (h : SupplyLaw s) (hx : g = true → SupplyLaw x.1) :
    SupplyLaw (require g st s x).1 := by
  unfold require
  split
  next hg => exact hx (by simpa using hg)
  · exact h

theorem bayLaw_reprobed {r : BayRec} (h : BayLaw r) (hr : r.state = .faulted) (hc : r.contact = .made) : BayLaw (reprobedBay r) := by
  have hl : r.leaving = false := by rw [BayRec.leaving, hr]; rfl
  refine ⟨?_, ?_, ?_, ⟨Nat.zero_le _, Nat.zero_le _⟩, rfl, rfl, ?_, h.window, fun hq => ?_⟩
  · simp [reprobedBay, BayRec.recount, hc]
  · simp [reprobedBay, BayRec.recount, hc]
  · simp [reprobedBay, BayRec.recount, hc]
  · exact h.cause.trans hl
  · rcases h.requalify hq with hx | hx <;> rw [hr] at hx <;> cases hx

theorem laws_reprobeRequest {s : State} (h : SupplyLaw s) (bay : Nat) : SupplyLaw (reprobeRequest bay s).1 := by
  unfold reprobeRequest
  split
  · exact h
  next b _ =>
    refine laws_require h fun hg => ?_
    simp only [Bool.and_eq_true, beq_iff_eq] at hg
    exact h.modifyBay b (.inr ⟨by rw [hg.1]; rfl, rfl⟩) (bayLaw_reprobed ((Sound.of_laws h).part b).bay hg.1 hg.2)

theorem laws_ejectRequest {s : State} (h : SupplyLaw s) (bay : Nat) : SupplyLaw (ejectRequest bay s).1 := by
  have hs := Sound.of_laws h
  unfold ejectRequest
  split
  · exact h
  next b _ =>
    refine laws_require h fun hb => laws_require h fun hslot => laws_settle ?_
    have hslot : s.supply.slot = none := by simpa using hslot
    have hvac := hs.vacant hslot
    exact sound_startWithdrawal hvac.1 (by simpa using hb) (fun c hc => absurd hc (hvac.2 c)) _

theorem laws_setInletRequest {s : State} (h : SupplyLaw s) (capability : Nat) : SupplyLaw (setInletRequest capability s).1 :=
  laws_require h fun _ => laws_require h fun _ =>
    laws_settle ((Sound.of_laws h).congr (fun b => by cases b <;> rfl) {} {} rfl)

/-! ### Every step -/

theorem supply_not_mem_workFields {c : Instr} (h : isSupplyCommand c = false) :
    Field.supply ∉ workFields c ∧ Field.bays ∉ workFields c := by
  cases c <;> first
    | (cases h; done)
    | simp [workFields, isLoadRequest, isLoadEvent, isSupplyCommand, isLightCommand, isMotionCommand, isEpisodeCommand, isSystemCommand,
        isStoreCommand]

theorem SupplyLaw.of_changes {c : Instr} {s t : State} (h : SupplyLaw s) (hc : isSupplyCommand c = false)
    (hk : Changes (workFields c) s t) : SupplyLaw t := by
  obtain ⟨hs, hb⟩ := supply_not_mem_workFields hc
  obtain ⟨hA, hB⟩ := hk .bays hb
  exact h.of_same (bay_eq_of_bays hA hB) (hk .supply hs)

theorem laws_supplyEvent {c : Instr} (hc : isSupplyCommand c = true) {s : State} (h : SupplyLaw s) : SupplyLaw (eventChange c s) := by
  have hs := Sound.of_laws h
  cases c <;> (try cases hc)
  case drainTimerExpiry =>
    refine ite_cases (fun hx => laws_drain h ?_) h
    exact (Bool.and_eq_true _ _ ▸ hx).1
  case refillTimerExpiry => exact ite_cases (fun _ => laws_refill h) h
  case leverEvent b level => exact laws_changeLever h b level
  case conditionQuery b => exact ite_cases (fun hq => h.sameBay b { queryTimer := hq.symm }) h
  case goodAnswer b bytes => exact laws_takeAnswer h b bytes
  case badAnswer b bytes => exact laws_takeAnswer h b bytes
  case missedAnswer b => exact ite_cases (fun _ => laws_failAnswer h b) h
  case probeTimerExpiry b =>
    exact ite_cases (fun hp => laws_becomeFaulted h (by rw [hp.2]; rfl) (by simp [hp.2])) h
  case linkStepTimerExpiry b => exact ite_cases (fun hl => laws_loseLink h hl.2) h
  case ejectWindowExpiry b => exact ite_cases (fun _ => laws_expireEject h b) h
  case requalifyExpiry b => exact ite_cases (fun hq => laws_expireRequalify h hq) h
  all_goals exact h

theorem laws_eventChange (c : Instr) {s : State} (h : SupplyLaw s) : SupplyLaw (eventChange c s) := by
  cases hc : isSupplyCommand c with
  | true => exact laws_supplyEvent hc h
  | false =>
    cases ho : isOwnEvent c with
    | false => rw [eventChange_of_not_own ho]; exact h
    | true => exact h.of_changes hc (changes_ownEvent ho s)

theorem laws_supplyRequest {c : Instr} (hc : isSupplyCommand c = true) {s : State} (h : SupplyLaw s) : SupplyLaw (requestChange c s).1 := by
  cases c <;> (try cases hc)
  case reprobe bay => exact laws_reprobeRequest h bay
  case eject bay => exact laws_ejectRequest h bay
  case setInlet capability => exact laws_setInletRequest h capability
  all_goals exact h

theorem laws_requestChange (c : Instr) {s : State} (h : SupplyLaw s) : SupplyLaw (requestChange c s).1 := by
  cases hc : isSupplyCommand c with
  | true => exact laws_supplyRequest hc h
  | false =>
    cases hp : isPlainRequest c with
    | true => exact h.of_changes hc (changes_plainRequest hp s)
    | false =>
      cases hl : isLoadRequest c with
      | false => rw [requestChange_of_no_request hp hl]; exact h
      | true => exact h.of_changes hc (workFields_of_loadRequest hl ▸ changes_loadRequestChange hl s)

theorem laws_bayTakes {s : State} (h : SupplyLaw s) (c : Instr) : SupplyLaw (bayTakes c s) := by
  unfold bayTakes
  split
  · exact laws_makeContact h _
  · exact laws_loseContact h _
  · exact laws_changePolicy h _ _
  · exact laws_askRequalify h _
  · exact h

theorem laws_supplyTakes {s : State} (h : SupplyLaw s) (c : Instr) : SupplyLaw (supplyTakes c s) := by
  unfold supplyTakes
  split
  · exact laws_takeTotal h _
  · exact laws_changeInlet h _
  · exact h.deferral true
  · exact laws_releaseDeferral h
  · exact laws_supplyNotice h _
  · exact laws_changeSupplySettings h
  · exact h

theorem laws_claimChange (c : Instr) {s : State} (h : SupplyLaw s) : SupplyLaw (claimChange c s) := by
  have ht : SupplyLaw (s.take c) := h.of_same (fun b => State.take_bay c s b) rfl
  cases hr : route c with
  | none => simpa [claimChange, hr] using h
  | some r =>
    cases hc : isSupplyCommand c with
    | false => exact h.of_changes hc (workFields_of_route hr ▸ changes_claimChange hr s)
    | true =>
      rw [claimChange_of_route hr]
      have hp : r.receiver = .supplyController ∨ ∃ b, r.receiver = .bayUnit b := by
        cases c <;> simp only [isSupplyCommand, Bool.false_eq_true, route, Option.some.injEq, reduceCtorEq] at hc hr <;> subst hr <;> simp
      rcases hp with hp | ⟨b, hp⟩ <;> rw [hp]
      · exact laws_supplyTakes ht c
      · exact laws_bayTakes ht c

theorem tickTimer_isSome (t : Option Nat) : (tickTimer t).isSome = t.isSome := by cases t <;> rfl

theorem laws_tick {s : State} (h : SupplyLaw s) : SupplyLaw (tick s) := by
  have hs := Sound.of_laws h
  have hb : ∀ b, (tick s).bay b = tickBay (s.bay b) := tick_bay s
  have hr := tick_supply s
  have hsource : someSource (tick s) = someSource s := by
    rw [someSource_eq .bayA, someSource_eq .bayA, hb, hb, hr]
    rfl
  have ht : Sound (tick s) := by
    refine ⟨fun b => ?_, ?_, ?_, ?_⟩
    · refine (hs.part b).setBay (by rw [hr]; exact {}) (.inl (by rw [hb]; rfl)) ?_
      rw [hb]
      exact (hs.part b).bay.congr
        { queryTimer := tickTimer_isSome _, probeTimer := tickTimer_isSome _, stepTimer := tickTimer_isSome _
          ejectWindow := tickTimer_isSome _, requalify := fun hq => by simpa [tickBay] using hq }
    · rw [hr]; exact hs.slots.congr {}
    · rw [hr]; exact ⟨hs.cell.reserve, (tickTimer_isSome _).trans hs.cell.drain⟩
    · intro hc
      rw [hsource]
      rw [hr] at hc
      exact hs.alone hc
  refine ⟨ht.withdrawalLaw, ht.cell.reserve, ht.alone, ht.cell.drain, ?_⟩
  rw [← someSource_iff, hsource, someSource_iff, hr, tickSupply, tickTimer_isSome]
  exact h.2.refill

theorem laws_finish {s : State} (h : SupplyLaw s) : SupplyLaw (finish s) := by
  refine h.of_sound ((Sound.of_laws h).congr (finish_bay s) ?_ ?_ ?_) (someSource_congr (finish_bay s) ?_) ?_ ?_ ?_ <;> rw [finish_supply]
  · exact {}
  · exact {}

theorem laws_powerOnState (x : ResetInputs) (s : State) : SupplyLaw (powerOnState x s) := by
  have hbay : ∀ level policy, BayLaw (bayAtReset level policy) := fun _ _ => by constructor <;> simp [bayAtReset, BayRec.leaving]
  refine ⟨⟨hbay _ _, hbay _ _, fun b => ?_, rfl, fun b hs => (by cases hs), fun b hw => (by cases hw), rfl⟩,
    ⟨Nat.zero_le _, fun hc => (by cases hc), rfl, ?_⟩⟩
  · cases b <;> exact iff_of_false (by simp [powerOnState, State.bay, bayAtReset, BayRec.leaving]) (by simp [powerOnState, supplyAtReset])
  · simp [powerOnState, supplyAtReset, bayAtReset]

/-- The law of the withdrawals and the law of the bridge are one invariant. -/
theorem invariant_supplyLaw : Invariant SupplyLaw where
  kept := {
    refl := fun _ h => h
    trans := fun _ _ _ h k hs => k (h hs)
    finish := fun _ => laws_finish
    port := fun _ _ h => h.of_same (fun b => by cases b <;> rfl) rfl
    event := fun c _ => laws_eventChange c
    request := fun c _ => laws_requestChange c
    claim := fun c _ => laws_claimChange c }
  pending := fun _ _ h => h.of_same (fun b => by cases b <;> rfl) rfl
  tick := fun _ => laws_tick
  powerOn := fun x s _ => laws_powerOnState x s

/-- Settles O7: each operation keeps the part of every bay, the shape of the slot and that of the bridge cell, a bay between two states only its
own part aside; the end of the event works the refill timer out again. -/
theorem withdrawalAndBridgeKept : Obligations.WithdrawalAndBridgeKept := fun _ _ hw hb h => invariant_supplyLaw.step ⟨hw, hb⟩ h

end Sys2Proof.Machine
end

section
/-!
PROOFS. The laws of the backlight record, of the motion record and of the episode, each an invariant of the commands that may change its record:
O9.
-/
namespace Sys2Proof.Machine

/-! ### A law of one record -/

theorem changes_queue (cs : List Instr) (s : State) : Changes [.pending] s { s with pending := cs } := by
  intro f hf
  cases f <;> first
    | exact absurd (List.mem_singleton.mpr rfl) hf
    | rfl
    | exact ⟨rfl, rfl⟩

/-- A law of one record holds at every step when the commands that work on the record keep it, and time and a power-on reset do. -/
theorem invariant_ofField {I : State → Prop} (f : Field) (mine : Instr → Bool) (hmem : ∀ c, mine c = false → f ∉ workFields c)
    (hsame : ∀ {s t}, f.same s t → I s → I t) (hout : f ∉ Field.port :: Field.pending :: Field.handed :: eventFields)
    (event : ∀ c, mine c = true → ∀ s, I s → I (eventChange c s))
    (request : ∀ c, mine c = true → ∀ s, I s → I (requestChange c s).1)
    (claim : ∀ c r, mine c = true → route c = some r → ∀ s, I s → I (receives r.receiver c s))
    (tick : ∀ s, I s → I (tick s)) (powerOn : ∀ x s, I (powerOnState x s)) : Invariant I where
  kept := {
    refl := fun _ h => h
    trans := fun _ _ _ h k hs => k (h hs)
    finish := fun s => hsame (changes_finish s f fun h => hout (by simp [h]))
    port := fun p s => hsame (changes_port (p s.port) s f fun h => hout (by simp_all))
    event := fun c s h => by
      cases hc : mine c with
      | true => exact event c hc s h
      | false =>
        cases ho : isOwnEvent c with
        | false => rw [eventChange_of_not_own ho]; exact h
        | true => exact hsame (changes_ownEvent ho s f (hmem c hc)) h
    request := fun c s h => by
      cases hc : mine c with
      | true => exact request c hc s h
      | false =>
        cases hp : isPlainRequest c with
        | true => exact hsame (changes_plainRequest hp s f (hmem c hc)) h
        | false =>
          cases hl : isLoadRequest c with
          | false => rw [requestChange_of_no_request hp hl]; exact h
          | true => exact hsame (changes_loadRequestChange hl s f (workFields_of_loadRequest hl ▸ hmem c hc)) h
    claim := fun c s h => by
      cases hr : route c with
      | none => simpa [claimChange, hr] using h
      | some r =>
        cases hc : mine c with
        | true =>
          rw [claimChange_of_route hr]
          exact claim c r hc hr _ (hsame (changes_take c s f fun hf => hout (by simp_all)) h)
        | false => exact hsame (changes_claimChange hr s f (workFields_of_route hr ▸ hmem c hc)) h }
  pending := fun cs s => hsame (changes_queue cs s f fun h => hout (by simp_all))
  tick := tick
  powerOn := fun x s _ => powerOn x s

/-! ### The backlight record -/

/-- R133: what the law of the backlight reads of its record. -/
structure SameLight (r r' : LightRec) : Prop where
  p0 : r'.settings.p0 = r.settings.p0 := by rfl
  pfull : r'.settings.pfull = r.settings.pfull := by rfl
  grant : r'.grantTaken = r.grantTaken := by rfl
  cap : r'.cap = r.cap := by rfl
  target : r'.target = r.target := by rfl
  destination : r'.destination = r.destination := by rfl
  output : r'.output = r.output := by rfl
  ramp : r'.ramp = r.ramp := by rfl
  timer : r'.stepTimer.isSome = r.stepTimer.isSome := by rfl

theorem LightLaw.congr {r r' : LightRec} (h : LightLaw r) (hs : SameLight r r') : LightLaw r' where
  cap := by rw [hs.cap, capOf, hs.p0, hs.pfull, hs.grant]; exact h.cap
  output := by rw [hs.cap, hs.output]; exact h.output
  destination := by rw [hs.destination, hs.target, hs.cap]; exact h.destination
  ramp := by rw [hs.ramp, hs.output, hs.destination]; exact h.ramp
  timer := by rw [hs.timer, hs.output, hs.destination]; exact h.timer

theorem isSome_followRamp (r : LightRec) : (followRamp r).stepTimer.isSome = (r.output != r.destination) := by
  unfold followRamp
  dsimp only
  split
  next h => simp [h]
  next h => simp [h]

/-- R131 step 4: a destination worked out afresh. -/
theorem lightLaw_aim {r : LightRec} (hc : r.cap = capOf r.settings r.grantTaken) (ho : r.output ≤ r.cap) : LightLaw (aim r) :=
  ⟨hc, ho, rfl, rfl, isSome_followRamp _⟩

/-- R131: a cap worked out afresh needs nothing of what stood before. -/
theorem lightLaw_recap (r : LightRec) : LightLaw (recap r) := lightLaw_aim rfl (Nat.min_le_right _ _)

theorem formPair_light (s : State) : SameLight s.light (formPair s).light := by
  unfold formPair
  dsimp only
  split
  · exact {}
  · split <;> exact {}

theorem capTest_light (s : State) : SameLight s.light (capTest s).light := by
  unfold capTest
  split
  · exact {}
  · split
    · split <;> exact {}
    · exact {}

theorem lightLaw_formPair {s : State} (h : LightLaw s.light) : LightLaw (formPair s).light := h.congr (formPair_light s)

theorem lightLaw_capTest {s : State} (h : LightLaw s.light) : LightLaw (capTest s).light := h.congr (capTest_light s)

theorem lightLaw_remap (s : State) : LightLaw (remap s).light := lightLaw_capTest (lightLaw_formPair (lightLaw_recap _))

theorem lightLaw_refreshTarget {s : State} (h : LightLaw s.light) : LightLaw (refreshTarget s).light :=
  lightLaw_capTest (lightLaw_formPair (lightLaw_aim h.cap h.output))

theorem lightLaw_retarget {s : State} (h : LightLaw s.light) : LightLaw (retarget s).light := by
  unfold retarget
  split
  next ht => exact h.congr { target := ht }
  · exact lightLaw_refreshTarget h

theorem takeReading_light (p : Profile) (front rear : Option Nat) (r : LightRec) : SameLight r (takeReading p front rear r) := by
  unfold takeReading
  split
  · exact {}
  · split <;> exact {}

theorem readLight_light (p : Profile) (front rear : Option Nat) (r : LightRec) : SameLight r (readLight p front rear r) := by
  unfold readLight
  dsimp only
  split
  · exact {}
  · have h := takeReading_light p front rear
      { r with front := readSensor front r.front, rear := readSensor rear r.rear, readTimer := some (ms 100) }
    exact ⟨h.p0, h.pfull, h.grant, h.cap, h.target, h.destination, h.output, h.ramp, h.timer⟩

theorem lightLaw_readSensors {s : State} (front rear : Option Nat) (h : LightLaw s.light) : LightLaw (readSensors front rear s).light := by
  have h1 := h.congr (readLight_light s.profile front rear s.light)
  have h2 : LightLaw (if sensorFails front s.light.front || sensorFails rear s.light.rear then
      ({ s with light := readLight s.profile front rear s.light } : State).raise (.light .sensorFail)
      else { s with light := readLight s.profile front rear s.light }).light := by split <;> exact h1
  unfold readSensors
  dsimp only
  split
  · exact h2
  · exact lightLaw_retarget h2

theorem takeAnswerToClaim_light (s : State) : SameLight s.light (takeAnswerToClaim s).light := by
  unfold takeAnswerToClaim
  dsimp only
  split
  · split <;> exact {}
  · exact {}

theorem lightLaw_takeGrant (grant : Nat) (answer : Bool) (s : State) : LightLaw (takeGrant grant answer s).light := by
  have h1 : LightLaw ({ s with light := recap { s.light with grantTaken := grant } } : State).light := lightLaw_recap _
  have h2 : LightLaw (if answer then takeAnswerToClaim { s with light := recap { s.light with grantTaken := grant } }
      else { s with light := recap { s.light with grantTaken := grant } }).light := by
    split
    · exact h1.congr (takeAnswerToClaim_light _)
    · exact h1
  unfold takeGrant
  dsimp only
  split
  · exact lightLaw_capTest h2
  · exact h2

/-- R133: a step of the ramp ends at or before the destination. -/
theorem lightLaw_stepOutput (p : Profile) {r : LightRec} (h : LightLaw r) : LightLaw (stepOutput p r) := by
  have hd : r.destination ≤ r.cap := h.destination ▸ Nat.min_le_right _ _
  have ho := h.output
  unfold stepOutput
  refine ⟨h.cap, ?_, h.destination, rfl, isSome_followRamp _⟩
  dsimp only [followRamp]
  split <;> omega

theorem lightLaw_clearedLight {r : LightRec} (h : LightLaw r) : LightLaw (clearedLight r) :=
  ⟨h.cap, Nat.zero_le _, (Nat.zero_min _).symm, rfl, rfl⟩

theorem lightLaw_endFreeze {s : State} (h : LightLaw s.light) : LightLaw (endFreeze s).light := by
  have h1 : ∀ estimate, LightLaw { s.light with freeze := false, window := [], estimate := estimate } := fun _ => h.congr {}
  unfold endFreeze
  dsimp only
  split
  · exact lightLaw_retarget (h1 _)
  · exact h1 _

theorem takenSettings_map {setting : Nat} (h : ¬(setting = 11 ∨ setting = 12)) (p : Profile) (held : LightSettings) :
    (takenSettings setting p held).p0 = held.p0 ∧ (takenSettings setting p held).pfull = held.pfull := by
  unfold takenSettings
  rw [if_neg h]
  split
  · exact ⟨rfl, rfl⟩
  · split <;> exact ⟨rfl, rfl⟩

theorem lightLaw_lightSettingChanged (setting : Nat) {s : State} (h : LightLaw s.light) : LightLaw (lightSettingChanged setting s).light := by
  unfold lightSettingChanged followSetting
  split
  · exact lightLaw_remap _
  next hm =>
    obtain ⟨h0, hf⟩ := takenSettings_map hm s.profile s.light.settings
    have h1 : LightLaw { s.light with settings := takenSettings setting s.profile s.light.settings } := h.congr { p0 := h0, pfull := hf }
    split
    · exact lightLaw_capTest (lightLaw_formPair h1)
    · split
      · exact lightLaw_retarget h1
      · exact h1

theorem lightLaw_lightTakes (c : Instr) {s : State} (h : LightLaw s.light) : LightLaw (lightTakes c s).light := by
  unfold lightTakes
  split
  next => exact lightLaw_takeGrant _ _ s
  next => exact h.congr {}
  next => exact ite_cases (p := fun t : State => LightLaw t.light) (fun _ => lightLaw_endFreeze h) h
  next st =>
    cases st
    case starting => exact lightLaw_refreshTarget (h.congr {})
    case dark => exact lightLaw_formPair (lightLaw_clearedLight h)
    all_goals exact h
  next => exact lightLaw_lightSettingChanged _ h
  next => exact lightLaw_remap _
  next => exact h

theorem lightLaw_ownEvent {c : Instr} (hc : isLightCommand c = true) {s : State} (h : LightLaw s.light) :
    LightLaw (eventChange c s).light := by
  cases c <;> (try cases hc)
  case readEvent front rear => exact ite_cases (p := fun t : State => LightLaw t.light) (fun _ => lightLaw_readSensors front rear h) h
  case rampStep => exact ite_cases (p := fun t : State => LightLaw t.light) (fun _ => lightLaw_stepOutput _ h) h
  case pinExpiry => exact ite_cases (p := fun t : State => LightLaw t.light) (fun _ => lightLaw_retarget (h.congr {})) h
  all_goals exact h

/-- A guarded request keeps what its refusal and its change keep. -/
theorem require_cases {p : State → Prop} {g : Bool} {st : Status} {s : State} {x : State × Reply} (h : p s) (hx : g = true → p x.1) :
    p (require g st s x).1 := by
  unfold require
  split
  next hg => exact hx (by simpa using hg)
  · exact h

theorem lightLaw_request {c : Instr} (hc : isLightCommand c = true) {s : State} (h : LightLaw s.light) :
    LightLaw (requestChange c s).1.light := by
  have hset : ∀ {r}, SameLight s.light r → LightLaw (retarget { s with light := r }).light := fun hr => lightLaw_retarget (h.congr hr)
  have req : ∀ {g : Bool} {st : Status} {x : State × Reply}, LightLaw x.1.light → LightLaw (require g st s x).1.light :=
    fun hx => require_cases (p := fun t => LightLaw t.light) h fun _ => hx
  cases c <;> (try cases hc)
  case curveSet points => exact req (req (req (hset {})))
  case curveAdd p => exact req (req (req (hset {})))
  case curveRemove lux => exact req (hset {})
  case panel value => exact req (ite_cases (p := fun t : State => LightLaw t.light) (fun _ => h) (hset {}))
  case pin level duration => exact req (hset {})
  case unpin => exact req (hset {})
  all_goals exact h

theorem light_not_mem_workFields {c : Instr} (h : isLightCommand c = false) : Field.light ∉ workFields c := by
  cases c <;> first
    | (cases h; done)
    | simp [workFields, isLoadRequest, isLoadEvent, isSupplyCommand, isLightCommand, isMotionCommand, isEpisodeCommand, isSystemCommand,
        isStoreCommand]

theorem receiver_of_lightCommand {c : Instr} {r : Route} (h : isLightCommand c = true) (hr : route c = some r) : r.receiver = .backlight := by
  cases c <;> simp only [isLightCommand, Bool.false_eq_true, route, Option.some.injEq, reduceCtorEq] at h hr <;> subst hr <;> rfl

theorem lightLaw_lightAtReset (p : Profile) : LightLaw (lightAtReset p) :=
  ⟨by simp [lightAtReset, capOf], Nat.le_refl 0, rfl, rfl, rfl⟩

theorem invariant_lightLaw : Invariant fun s => LightLaw s.light := by
  refine invariant_ofField .light isLightCommand (fun _ => light_not_mem_workFields) ?_ (by decide) (fun c hc s h => lightLaw_ownEvent hc h)
    (fun c hc s h => lightLaw_request hc h) (fun c r hc hr s h => ?_) (fun s h => ?_) (fun x s => ?_)
  · intro s t hst h
    rw [show t.light = s.light from hst]
    exact h
  · rw [receiver_of_lightCommand hc hr]
    exact lightLaw_lightTakes c h
  · rw [tick_light]
    exact h.congr { timer := tickTimer_isSome _ }
  · exact lightLaw_lightAtReset _

/-! ### The motion record -/

theorem motionLaw_beginSampling {r : MotionRec} (h : r.armed = true) : MotionLaw (beginSampling r) :=
  ⟨rfl, fun hs => (by cases hs), Nat.zero_le _, fun _ => h, fun hs => by cases hs⟩

theorem motionLaw_stopSampling (r : MotionRec) : MotionLaw (stopSampling r) :=
  ⟨rfl, fun _ => ⟨rfl, rfl, rfl, rfl⟩, Nat.zero_le _, fun hs => absurd rfl hs, fun hs => by cases hs⟩

/-- What every sample leaves of an armed Monitor that samples. -/
structure Sampling (r : MotionRec) : Prop where
  timer : r.sampleTimer.isSome = true
  on : r.state ≠ .off
  missed : r.missedCount ≤ 8
  armed : r.armed = true
  impact : r.state = .impact → r.cls ≠ .none

theorem Sampling.law {r : MotionRec} (h : Sampling r) : MotionLaw r :=
  ⟨by rw [h.timer]; simp [h.on], fun hs => absurd hs h.on, h.missed, fun _ => h.armed, h.impact⟩

theorem maxClass_light (c : ImpactClass) : maxClass c .light ≠ .none := by cases c <;> decide

/-- R145 to R148: what a good sample does to a Monitor that samples. -/
theorem sampling_goodMotion (p : Profile) (m : Nat) {r : MotionRec} (h : Sampling r) : Sampling (goodMotion p m r).1 := by
  obtain ⟨ht, hon, -, ha, hi⟩ := h
  have hm : (0 : Nat) ≤ 8 := by decide
  unfold goodMotion
  dsimp only
  split
  next hs => exact absurd hs hon
  next hs =>
    unfold levelSample
    split
    · exact ⟨ht, by simp, hm, ha, fun hx => by cases hx⟩
    · exact ⟨ht, hon, hm, ha, hi⟩
  next hs =>
    unfold suspectSample
    split
    · split
      · exact ⟨ht, by simp, hm, ha, fun hx => by cases hx⟩
      · exact ⟨ht, hon, hm, ha, hi⟩
    · exact ⟨ht, by simp, hm, ha, fun hx => by cases hx⟩
  next hs =>
    unfold fallingSample
    split
    · exact ⟨ht, hon, hm, ha, hi⟩
    · exact ⟨ht, by simp, hm, ha, fun _ => maxClass_light _⟩
    · exact ⟨ht, by simp, hm, ha, fun _ => by simp⟩
    all_goals exact ⟨ht, by simp [enterSettling], hm, ha, fun hx => by cases hx⟩
  next hs =>
    unfold impactSample
    split
    · exact ⟨ht, hon, hm, ha, hi⟩
    · exact ⟨ht, hon, hm, ha, fun _ => by simp⟩
    all_goals exact ⟨ht, by simp [enterSettling], hm, ha, fun hx => by cases hx⟩
  next hs =>
    unfold settlingSample
    split
    · split
      · exact ⟨ht, by simp, hm, ha, fun hx => by cases hx⟩
      · exact ⟨ht, hon, hm, ha, hi⟩
    · refine ⟨ht, ?_, hm, ha, ?_⟩ <;> dsimp only <;> split <;> simp
    all_goals exact ⟨ht, hon, hm, ha, hi⟩
  next hs => exact ⟨ht, by simp [faultSample], hm, ha, fun hx => by cases hx⟩

theorem sampling_missMotion {r : MotionRec} (h : Sampling r) : Sampling (missMotion r).1 := by
  unfold missMotion
  split
  · exact ⟨h.timer, by simp [enterFault], Nat.le_refl 8, h.armed, fun hx => by cases hx⟩
  · exact ⟨h.timer, h.on, Nat.min_le_left _ _, h.armed, h.impact⟩

theorem MotionLaw.sampling {r : MotionRec} (h : MotionLaw r) (hon : r.state ≠ .off) : Sampling { r with sampleTimer := some 5 } :=
  ⟨rfl, hon, h.missed, h.armed hon, h.impact⟩

theorem motionLaw_sampleMotion (p : Profile) (reading : Option Axes) {r : MotionRec} (h : MotionLaw r) (ht : r.sampleTimer.isSome = true) :
    MotionLaw (sampleMotion p reading r).1 := by
  have hon : r.state ≠ .off := by
    have := h.timer
    rw [ht] at this
    simpa using this.symm
  unfold sampleMotion
  dsimp only
  split
  · exact (sampling_goodMotion p _ (h.sampling hon)).law
  · exact (sampling_missMotion (h.sampling hon)).law

theorem motionLaw_ownEvent {c : Instr} (hc : isMotionCommand c = true) {s : State} (h : MotionLaw s.motion) :
    MotionLaw (eventChange c s).motion := by
  cases c <;> (try cases hc)
  case sampleEvent reading =>
    refine ite_cases (p := fun t : State => MotionLaw t.motion) (fun ht => ?_) h
    have h1 := motionLaw_sampleMotion s.profile reading h ht
    unfold takeSample
    dsimp only
    split <;> exact h1
  all_goals exact h

theorem motionLaw_arm {s : State} (h : MotionLaw s.motion) : MotionLaw (arm s).motion := by
  unfold arm
  split
  · exact h
  next ha =>
    have hoff : s.motion.state = .off := by
      refine Classical.byContradiction fun hon => ?_
      exact ha (h.armed hon)
    dsimp only
    split
    · exact motionLaw_beginSampling rfl
    · exact ⟨h.timer, h.off, h.missed, fun _ => rfl, h.impact⟩

theorem motionLaw_request {c : Instr} (hc : isMotionCommand c = true) {s : State} (h : MotionLaw s.motion) :
    MotionLaw (requestChange c s).1.motion := by
  cases c <;> (try cases hc)
  case arm => exact motionLaw_arm h
  case disarm => exact motionLaw_stopSampling _
  case simulateFall =>
    refine require_cases (p := fun t : State => MotionLaw t.motion) h fun hg => ?_
    simp only [Bool.and_eq_true, Bool.or_eq_true, beq_iff_eq] at hg
    have hon : s.motion.state ≠ .off := by rcases hg.2 with hx | hx <;> rw [hx] <;> decide
    exact ⟨h.timer.trans (by rw [bne_iff_ne.mpr hon]; rfl), fun hs => (by cases hs), h.missed, fun _ => h.armed hon, fun hs => by cases hs⟩
  all_goals exact h

theorem motionLaw_motionTakes (c : Instr) {s : State} (h : MotionLaw s.motion) : MotionLaw (motionTakes c s).motion := by
  unfold motionTakes
  split
  next st =>
    cases st
    case starting =>
      refine ite_cases (p := fun t : State => MotionLaw t.motion) (fun hg => ?_) h
      simp only [Bool.and_eq_true] at hg
      exact motionLaw_beginSampling hg.1.1
    case run => exact h
    case stopping => exact motionLaw_stopSampling _
    case dark =>
      exact ⟨rfl, fun _ => ⟨rfl, rfl, rfl, rfl⟩, Nat.zero_le _, fun hs => absurd rfl hs, fun hs => by cases hs⟩
  next =>
    show MotionLaw (resetMotion s.profile (systemOn s) s.motion)
    unfold resetMotion
    dsimp only
    split
    next hg => exact motionLaw_beginSampling (Bool.and_eq_true _ _ ▸ hg).1
    · exact motionLaw_stopSampling _
  next => exact h

theorem motion_not_mem_workFields {c : Instr} (h : isMotionCommand c = false) : Field.motion ∉ workFields c := by
  cases c <;> first
    | (cases h; done)
    | simp [workFields, isLoadRequest, isLoadEvent, isSupplyCommand, isLightCommand, isMotionCommand, isEpisodeCommand, isSystemCommand,
        isStoreCommand]

theorem receiver_of_motionCommand {c : Instr} {r : Route} (h : isMotionCommand c = true) (hr : route c = some r) :
    r.receiver = .motionMonitor := by
  cases c <;> simp only [isMotionCommand, Bool.false_eq_true, route, Option.some.injEq, reduceCtorEq] at h hr <;> subst hr <;> rfl

theorem motionLaw_motionAtReset (p : Profile) : MotionLaw (motionAtReset p) :=
  ⟨rfl, fun _ => ⟨rfl, rfl, rfl, rfl⟩, Nat.zero_le _, fun hs => absurd rfl hs, fun hs => by cases hs⟩

theorem invariant_motionLaw : Invariant fun s => MotionLaw s.motion := by
  refine invariant_ofField .motion isMotionCommand (fun _ => motion_not_mem_workFields) ?_ (by decide)
    (fun c hc s h => motionLaw_ownEvent hc h) (fun c hc s h => motionLaw_request hc h) (fun c r hc hr s h => ?_) (fun s h => ?_)
    (fun x s => ?_)
  · intro s t hst h
    rw [show t.motion = s.motion from hst]
    exact h
  · rw [receiver_of_motionCommand hc hr]
    exact motionLaw_motionTakes c h
  · rw [tick_motion]
    exact ⟨(tickTimer_isSome _).trans h.timer, h.off, h.missed, h.armed, h.impact⟩
  · exact motionLaw_motionAtReset _

/-! ### The episode -/

/-- R161, R163, R168: the lines keep their laws in an episode of a state. -/
def LinesLaw (st : EpisodeState) (e : EpisodeRec) : Prop := ∀ n : Line, LineLaw st e.lines[n]

theorem EpisodeRec.lines_setLine (e : EpisodeRec) (n m : Line) (l : LineRec) :
    (e.setLine n l).lines[m] = if n = m then l else e.lines[m] := by
  simp only [EpisodeRec.setLine, Fin.getElem_fin, Vector.getElem_set, Fin.val_inj]

theorem LinesLaw.setLine {st : EpisodeState} {e : EpisodeRec} (h : LinesLaw st e) (n : Line) {l : LineRec} (hl : LineLaw st l) :
    LinesLaw st (e.setLine n l) := fun m => by
  rw [EpisodeRec.lines_setLine]
  split
  · exact hl
  · exact h m

theorem LinesLaw.mapLines {st st' : EpisodeState} {e : EpisodeRec} (h : LinesLaw st e) {f : Line → LineRec → LineRec}
    (hf : ∀ n l, LineLaw st l → LineLaw st' (f n l)) : LinesLaw st' (e.mapLines f) := fun n => by
  rw [EpisodeRec.lines_mapLines]
  exact hf n _ (h n)

/-- No episode is waited for or held: what the entries into the other states leave. -/
structure Unheld (e : EpisodeRec) : Prop where
  pending : e.protectPending = false
  settle : e.settleHeld = false
  disarm : e.disarmHeld = false

theorem EpisodeLaw.of_unheld {e : EpisodeRec} (h : Unheld e) (hl : LinesLaw e.state e) : EpisodeLaw e :=
  ⟨fun hp => absurd hp (by simp [h.pending]), fun hp => by simp [h.settle, h.disarm] at hp, hl⟩

theorem EpisodeLaw.unheld {e : EpisodeRec} (h : EpisodeLaw e) (hp : e.protectPending = false) : Unheld e := by
  have hno : ¬(e.settleHeld = true ∨ e.disarmHeld = true) := fun hx => absurd (h.held hx) (by simp [hp])
  simp only [not_or, Bool.not_eq_true] at hno
  exact ⟨hp, hno.1, hno.2⟩

/-- R161: a request stands and a lift runs in their states alone. -/
def EpisodeState.parks : EpisodeState → Bool
  | .protecting | .holding => true
  | .idle | .recovering => false

/-- R160, R166: PROTECTING and HOLDING are one to a line. -/
theorem LineLaw.parking {a b : EpisodeState} {l : LineRec} (h : LineLaw a l) (ha : a.parks = true) (hb : b.parks = true) : LineLaw b l := by
  refine ⟨fun _ => by revert hb; cases b <;> simp [EpisodeState.parks], h.idle, h.park, fun hu => ?_, fun hi => ?_⟩
  · rw [h.unpark hu] at ha
    cases ha
  · rw [hi] at hb
    cases hb

/-- R170: an episode opens on lines that all rest. -/
theorem LineLaw.opens {b : EpisodeState} {l : LineRec} (h : LineLaw .idle l) : LineLaw b l := by
  obtain ⟨hr, hp, hu⟩ := h.idle (h.ended rfl)
  exact ⟨fun hx => absurd hx (by simp [hr]), fun _ => ⟨hr, hp, hu⟩, fun hx => absurd hx (by simp [hp]), fun hx => absurd hx (by simp [hu]),
    fun _ => h.ended rfl⟩

/-- R167 step 1: the entry into RECOVERING withdraws every request. -/
theorem lineLaw_lifted {a : EpisodeState} {l : LineRec} (h : LineLaw a l) (ha : a.parks = true) : LineLaw .recovering (liftedLine l) := by
  have hu : l.unparkTimer = none := by
    refine Classical.byContradiction fun hne => ?_
    have := h.unpark (Option.isSome_iff_ne_none.mpr hne)
    rw [this] at ha
    cases ha
  unfold liftedLine
  split
  next hi =>
    obtain ⟨hr, hp, -⟩ := h.idle hi
    exact ⟨fun hx => absurd hx (by simp [hr]), h.idle, h.park, fun _ => rfl, fun hx => by cases hx⟩
  next hi =>
    split
    · exact ⟨fun hx => (by cases hx), fun hx => absurd hx hi, fun hx => (by cases hx), fun _ => rfl, fun hx => by cases hx⟩
    · exact ⟨fun hx => (by cases hx), fun _ => ⟨rfl, rfl, hu⟩, fun hx => (by cases hx), fun _ => rfl, fun hx => by cases hx⟩

theorem allIdle_iff (e : EpisodeRec) : e.allIdle = true ↔ ∀ n : Line, e.lines[n].state = .idle := by
  simp only [EpisodeRec.allIdle, EpisodeRec.linesWhere, List.isEmpty_iff, List.filter_eq_nil_iff, List.mem_finRange, bne_iff_ne, ne_eq,
    Classical.not_not, true_implies]

theorem episodeLaw_endWhenIdle {s : State} (h : Unheld s.episode) (hl : LinesLaw s.episode.state s.episode) :
    EpisodeLaw (endWhenIdle s).episode := by
  unfold endWhenIdle
  split
  next he =>
    refine EpisodeLaw.of_unheld ⟨h.pending, h.settle, h.disarm⟩ fun n => ?_
    have hi := (allIdle_iff _).mp he.2 n
    obtain ⟨hr, hp, hu⟩ := (hl n).idle hi
    exact ⟨fun hx => absurd hx (by rw [show (endEpisode s).episode.lines[n].requestOn = false from hr]; simp), fun _ => ⟨hr, hp, hu⟩,
      fun hx => absurd hx (by rw [show (endEpisode s).episode.lines[n].parkTimer = none from hp]; simp),
      fun hx => absurd hx (by rw [show (endEpisode s).episode.lines[n].unparkTimer = none from hu]; simp), fun _ => hi⟩
  · exact EpisodeLaw.of_unheld h hl

theorem episodeLaw_enterRecovering {s : State} (h : Unheld s.episode) {a : EpisodeState} (ha : a.parks = true)
    (hl : LinesLaw a s.episode) : EpisodeLaw (enterRecovering s).episode :=
  episodeLaw_endWhenIdle ⟨h.pending, h.settle, h.disarm⟩ (hl.mapLines fun _ _ hx => lineLaw_lifted hx ha)

theorem episodeLaw_finishLift (n : Line) {s : State} (h : Unheld s.episode) (hs : s.episode.state = .recovering)
    (hl : LinesLaw .recovering s.episode) : EpisodeLaw (finishLift n s).episode := by
  have hn := hl n
  have hr : s.episode.lines[n].requestOn = false := by
    cases hx : s.episode.lines[n].requestOn with
    | false => rfl
    | true => rcases hn.request hx with hy | hy <;> cases hy
  have hp : s.episode.lines[n].parkTimer = none := by
    refine Classical.byContradiction fun hne => ?_
    have := (hn.park (Option.isSome_iff_ne_none.mpr hne)).2
    rw [hr] at this
    cases this
  refine episodeLaw_endWhenIdle ⟨h.pending, h.settle, h.disarm⟩ ?_
  show LinesLaw s.episode.state _
  rw [hs]
  refine hl.setLine n ⟨fun hx => absurd (hr.symm.trans hx) (by decide), fun _ => ⟨hr, hp, rfl⟩, fun hx => ?_, fun _ => rfl,
    fun hx => by cases hx⟩
  exact absurd ((congrArg Option.isSome hp).symm.trans hx) (by decide)

theorem episodeLaw_actOnSettled {s : State} (h : Unheld s.episode)
    (hl : LinesLaw .protecting s.episode) : EpisodeLaw (actOnSettled s).episode := by
  unfold actOnSettled
  split
  · exact episodeLaw_enterRecovering h rfl hl
  · exact EpisodeLaw.of_unheld ⟨h.pending, h.settle, h.disarm⟩ fun n => (hl n).parking rfl rfl

theorem LineLaw.stopLifting {l : LineRec} (h : LineLaw .recovering l) : LineLaw .protecting (stopLifting l) :=
  ⟨fun _ => .inl rfl, fun hi => ⟨(h.idle hi).1, (h.idle hi).2.1, rfl⟩, h.park, fun hx => (by cases hx), fun hx => by cases hx⟩

theorem episodeLaw_openEpisode {s : State} (h : EpisodeLaw s.episode) : EpisodeLaw (openEpisode s).episode := by
  have hl : LinesLaw s.episode.state s.episode := h.lines
  unfold openEpisode
  split
  next hp => exact ⟨h.pending, fun _ => hp, h.lines⟩
  · split
    next hs => exact ⟨fun _ => .inl hs, fun _ => rfl, h.lines⟩
    next hs => exact ⟨fun _ => .inr rfl, fun _ => rfl, fun n => (hl n).parking (by rw [hs]; rfl) rfl⟩
    next hs => exact ⟨fun _ => .inr rfl, fun _ => rfl, fun n => (hl n).parking (by rw [hs]; rfl) rfl⟩
    next hs => exact ⟨fun _ => .inr rfl, fun _ => rfl, LinesLaw.mapLines (hs ▸ hl) fun _ _ hx => hx.stopLifting⟩

theorem episodeLaw_takeImpact (k : Strike) {s : State} (h : EpisodeLaw s.episode) : EpisodeLaw (takeImpact k s).episode := by
  have h1 : ∀ x, EpisodeLaw { s.episode with cls := x } := fun _ => ⟨h.pending, h.held, h.lines⟩
  unfold takeImpact
  dsimp only
  split <;> split <;> exact h1 _

theorem episodeLaw_takeSettled {s : State} (h : EpisodeLaw s.episode) : EpisodeLaw (takeSettled s).episode := by
  unfold takeSettled
  split
  next hs hp => exact episodeLaw_actOnSettled (h.unheld hp) (hs ▸ h.lines)
  next hs hp => exact ⟨h.pending, fun _ => hp, h.lines⟩
  next hs hp => exact ⟨h.pending, fun _ => hp, h.lines⟩
  all_goals exact h

theorem episodeLaw_takeDisarm {s : State} (h : EpisodeLaw s.episode) : EpisodeLaw (takeDisarm s).episode := by
  unfold takeDisarm
  split
  next hs hp => exact ⟨h.pending, fun _ => hp, h.lines⟩
  next hs hp => exact episodeLaw_enterRecovering (h.unheld hp) (by rw [hs]; rfl) h.lines
  next hs hp => exact episodeLaw_enterRecovering (h.unheld hp) (by rw [hs]; rfl) h.lines
  all_goals exact h

/-- R161: the lines while an answer asserts them; what is held waits on. -/
theorem assertLine_episode (s : State) (n : Line) :
    (assertLine s n).episode = s.episode.setLine n (assertedLine s.profile s.episode.lines[n]) := by
  unfold assertLine
  dsimp only
  split <;> rfl

theorem lineLaw_asserted (p : Profile) (l : LineRec) : LineLaw .protecting (assertedLine p l) := by
  unfold assertedLine
  split
  · exact ⟨fun _ => .inl rfl, fun hx => (by cases hx), fun hx => (by cases hx), fun hx => (by cases hx), fun hx => by cases hx⟩
  · exact ⟨fun _ => .inl rfl, fun hx => (by cases hx), fun _ => ⟨rfl, rfl⟩, fun hx => (by cases hx), fun hx => by cases hx⟩

/-- What an answer leaves before what is held is acted on. -/
structure Opened (s : State) : Prop where
  state : s.episode.state = .protecting
  pending : s.episode.protectPending = false
  lines : LinesLaw .protecting s.episode

theorem opened_assertLines (ns : List Line) {s : State} (h : Opened s) : Opened (ns.foldl assertLine s) := by
  induction ns generalizing s with
  | nil => exact h
  | cons n ns ih =>
    refine ih ⟨?_, ?_, ?_⟩ <;> rw [assertLine_episode]
    · exact h.state
    · exact h.pending
    · exact h.lines.setLine n (lineLaw_asserted _ _)

theorem opened_openOnAnswer {s : State} (hs : s.episode.state = .idle ∨ s.episode.state = .protecting)
    (hp : s.episode.protectPending = false) (hl : LinesLaw s.episode.state s.episode) : Opened (openOnAnswer s) := by
  unfold openOnAnswer
  split
  next hi => exact ⟨rfl, hp, fun n => LineLaw.opens (hi ▸ hl n)⟩
  next hi =>
    have hs := hs.resolve_left hi
    exact ⟨hs, hp, hs ▸ hl⟩

theorem episodeLaw_actOnHeld {s : State} (h : Opened s) : EpisodeLaw (actOnHeld s).episode := by
  unfold actOnHeld
  split
  · exact episodeLaw_enterRecovering ⟨h.pending, rfl, rfl⟩ (a := .protecting) rfl h.lines
  next hd =>
    split
    · exact episodeLaw_actOnSettled ⟨h.pending, rfl, by simpa using hd⟩ h.lines
    next hs => exact EpisodeLaw.of_unheld ⟨h.pending, by simpa using hs, by simpa using hd⟩ (h.state ▸ h.lines)

theorem episodeLaw_takeProtectAnswer (ns : List Line) {s : State} (h : EpisodeLaw s.episode) :
    EpisodeLaw (takeProtectAnswer ns s).episode := by
  unfold takeProtectAnswer
  split
  next hp => exact episodeLaw_actOnHeld (opened_assertLines ns (opened_openOnAnswer (h.pending hp) rfl h.lines))
  · exact h

theorem lineLaw_cleared (l : LineRec) : LineLaw .idle (clearedLine l) :=
  ⟨fun hx => (by cases hx), fun _ => ⟨rfl, rfl, rfl⟩, fun hx => (by cases hx), fun hx => (by cases hx), fun _ => rfl⟩

theorem episodeLaw_cleared (e : EpisodeRec) : EpisodeLaw (clearedEpisode e) :=
  EpisodeLaw.of_unheld ⟨rfl, rfl, rfl⟩ fun n => by
    show LineLaw .idle (e.mapLines fun _ l => clearedLine l).lines[n]
    rw [EpisodeRec.lines_mapLines]
    exact lineLaw_cleared _

theorem episodeLaw_episodePartReset {s : State} (h : EpisodeLaw s.episode) : EpisodeLaw (episodePartReset s).episode := by
  unfold episodePartReset
  split
  next hs => exact episodeLaw_enterRecovering ⟨rfl, rfl, rfl⟩ (a := s.episode.state) (by rw [hs]; rfl) h.lines
  next hs => exact episodeLaw_enterRecovering ⟨rfl, rfl, rfl⟩ (a := s.episode.state) (by rw [hs]; rfl) h.lines
  next hs =>
    split
    · exact EpisodeLaw.of_unheld ⟨rfl, rfl, rfl⟩ h.lines
    · exact h
  · exact h

theorem episodeLaw_sequencerTakes (c : Instr) {s : State} (h : EpisodeLaw s.episode) : EpisodeLaw (sequencerTakes c s).episode := by
  unfold sequencerTakes
  split
  · exact episodeLaw_openEpisode h
  · exact episodeLaw_takeImpact _ h
  · exact episodeLaw_takeSettled h
  · exact episodeLaw_takeDisarm h
  · exact episodeLaw_takeProtectAnswer _ h
  · have hc := episodeLaw_cleared s.episode
    unfold episodeSystemOffClear
    dsimp only
    split <;> exact hc
  · exact episodeLaw_episodePartReset h
  · exact h

/-- A line that has changed nothing its law reads but in its own state. -/
theorem EpisodeLaw.setLine {e : EpisodeRec} (h : EpisodeLaw e) (n : Line) {l : LineRec} (hl : LineLaw e.state l) : EpisodeLaw (e.setLine n l) :=
  ⟨h.pending, h.held, LinesLaw.setLine h.lines n hl⟩

theorem episodeLaw_doneActive (n : Line) {s : State} (h : EpisodeLaw s.episode) : EpisodeLaw (doneActive n s).episode := by
  have hl := h.lines n
  unfold doneActive
  dsimp only
  split
  next hr =>
    refine h.setLine n ⟨hl.request, fun hx => (by cases hx), fun hx => (by cases hx), hl.unpark, fun hi => ?_⟩
    rw [hl.ended hi] at hr
    cases hr.1
  · exact h.setLine n ⟨hl.request, hl.idle, hl.park, hl.unpark, hl.ended⟩

theorem EpisodeLaw.unheld_of_recovering {e : EpisodeRec} (h : EpisodeLaw e) (hs : e.state = .recovering) : Unheld e := by
  refine h.unheld ?_
  cases hp : e.protectPending with
  | false => rfl
  | true => rcases h.pending hp with hx | hx <;> rw [hs] at hx <;> cases hx

theorem episodeLaw_doneInactive (n : Line) {s : State} (h : EpisodeLaw s.episode) : EpisodeLaw (doneInactive n s).episode := by
  have hl := h.lines n
  have h1 : EpisodeLaw (s.episode.setLine n { s.episode.lines[n] with doneActive := false }) :=
    h.setLine n ⟨hl.request, hl.idle, hl.park, hl.unpark, hl.ended⟩
  unfold doneInactive
  dsimp only
  split
  next hs => exact episodeLaw_finishLift n (h1.unheld_of_recovering hs.1) hs.1 (hs.1 ▸ h1.lines)
  · exact h1

theorem episodeLaw_failLine (n : Line) {s : State} (h : EpisodeLaw s.episode) (hs : s.episode.lines[n].state = .requested) :
    EpisodeLaw (failLine n s).episode := by
  have hl := h.lines n
  refine h.setLine n ⟨hl.request, fun hx => (by cases hx), fun hx => (by cases hx), hl.unpark, fun hi => ?_⟩
  rw [hl.ended hi] at hs
  cases hs

theorem episodeLaw_ownEvent {c : Instr} (hc : isEpisodeCommand c = true) {s : State} (h : EpisodeLaw s.episode) :
    EpisodeLaw (eventChange c s).episode := by
  cases c <;> (try cases hc)
  case doneInputChange n active =>
    refine ite_cases (p := fun t : State => EpisodeLaw t.episode) (fun _ => h) ?_
    exact ite_cases (p := fun t : State => EpisodeLaw t.episode) (fun _ => episodeLaw_doneActive n h) (episodeLaw_doneInactive n h)
  case parkTimerExpiry n =>
    exact ite_cases (p := fun t : State => EpisodeLaw t.episode) (fun hs => episodeLaw_failLine n h hs.2) h
  case unparkTimerExpiry n =>
    exact ite_cases (p := fun t : State => EpisodeLaw t.episode)
      (fun hs => episodeLaw_finishLift n (h.unheld_of_recovering hs.1) hs.1 (hs.1 ▸ h.lines)) h
  all_goals exact h

theorem episodeLaw_request {c : Instr} (hc : isEpisodeCommand c = true) {s : State} (h : EpisodeLaw s.episode) :
    EpisodeLaw (requestChange c s).1.episode := by
  cases c <;> (try cases hc)
  case resume =>
    refine require_cases (p := fun t : State => EpisodeLaw t.episode) h fun hg => ?_
    have hs : s.episode.state = .holding := by simpa using hg
    refine episodeLaw_enterRecovering (h.unheld ?_) (by rw [hs]; rfl) h.lines
    cases hp : s.episode.protectPending with
    | false => rfl
    | true => rcases h.pending hp with hx | hx <;> rw [hs] at hx <;> cases hx
  all_goals exact h

theorem episode_not_mem_workFields {c : Instr} (h : isEpisodeCommand c = false) : Field.episode ∉ workFields c := by
  cases c <;> first
    | (cases h; done)
    | simp [workFields, isLoadRequest, isLoadEvent, isSupplyCommand, isLightCommand, isMotionCommand, isEpisodeCommand, isSystemCommand,
        isStoreCommand]

theorem receiver_of_episodeCommand {c : Instr} {r : Route} (h : isEpisodeCommand c = true) (hr : route c = some r) :
    r.receiver = .sequencer := by
  cases c <;> simp only [isEpisodeCommand, Bool.false_eq_true, route, Option.some.injEq, reduceCtorEq] at h hr <;> subst hr <;> rfl

theorem episodeLaw_episodeAtReset (done : Vector Bool 4) : EpisodeLaw (episodeAtReset done) :=
  EpisodeLaw.of_unheld ⟨rfl, rfl, rfl⟩ fun n => by
    simp only [episodeAtReset, Fin.getElem_fin, Vector.getElem_ofFn]
    exact ⟨fun hx => (by cases hx), fun _ => ⟨rfl, rfl, rfl⟩, fun hx => (by cases hx), fun hx => (by cases hx), fun _ => rfl⟩

theorem invariant_episodeLaw : Invariant fun s => EpisodeLaw s.episode := by
  refine invariant_ofField .episode isEpisodeCommand (fun _ => episode_not_mem_workFields) ?_ (by decide)
    (fun c hc s h => episodeLaw_ownEvent hc h) (fun c hc s h => episodeLaw_request hc h) (fun c r hc hr s h => ?_) (fun s h => ?_)
    (fun x s => ?_)
  · intro s t hst h
    rw [show t.episode = s.episode from hst]
    exact h
  · rw [receiver_of_episodeCommand hc hr]
    exact episodeLaw_sequencerTakes c h
  · rw [tick_episode]
    refine ⟨h.pending, h.held, LinesLaw.mapLines h.lines fun _ l hl => ?_⟩
    exact ⟨hl.request, fun hi => by simpa [tickLine, tickTimer] using hl.idle hi, fun hp => hl.park (by rwa [tickLine, tickTimer_isSome] at hp),
      fun hu => hl.unpark (by rwa [tickLine, tickTimer_isSome] at hu), hl.ended⟩
  · exact episodeLaw_episodeAtReset _

/-- Settles O9: each record's law is kept by the operations on that record, and no other command reaches it. -/
theorem lightMotionAndEpisodeKept : Obligations.LightMotionAndEpisodeKept :=
  ⟨fun _ _ h => ⟨fun hl => invariant_lightLaw.step hl h, fun hm => invariant_motionLaw.step hm h⟩,
    fun _ _ he h => invariant_episodeLaw.step he h⟩

end Sys2Proof.Machine
end

section
/-!
PROOFS. What a command does at a part that takes events, one rule for each shape of a command, and the statements of System Power Control, the
Motion Monitor's requests and the attentions that are its uses: O57, O53, O59.
-/
namespace Sys2Proof.Machine

/-! ### A command at a part that takes events -/

/-- An event of a timer, an input or a sensor, its change known. -/
theorem exec_own_eq {c : Instr} {s u : State} (ha : Alive s) (h : isOwnEvent c = true) (hu : eventChange c s = u) :
    exec c s = .next (finish u) := by
  rw [exec_ownEvent h, event_of_alive ha, hu]

/-- An event that finds nothing to act on. -/
theorem exec_own_nothing {c : Instr} {s : State} (ha : Alive s) (h : isOwnEvent c = true) (hu : eventChange c s = s) :
    exec c s = .next (finish s) := exec_own_eq ha h hu

/-- A request sent alone, its change and its reply known. -/
theorem exec_plain_eq {c : Instr} {s u : State} {r : Reply} (ha : Alive s) (h : isPlainRequest c = true) (hu : requestChange c s = (u, r)) :
    exec c s = .next (answered r u) := by
  rw [exec_plainRequest h, request_of_alive ha, hu]

/-- A request that its block refuses. -/
theorem exec_plain_refused {c : Instr} {s : State} {st : Status} (ha : Alive s) (h : isPlainRequest c = true)
    (hu : requestChange c s = refuse st s) : exec c s = .next (refusedWith st s) := exec_plain_eq ha h hu

/-- A claim that nothing waits before, what its receiver makes of it known. -/
theorem exec_claim_eq {c : Instr} {r : Route} {s u : State} (ha : Alive s) (hf : Foremost c s) (h : route c = some r)
    (hu : receives r.receiver c (s.take c) = u) : exec c s = .next (finish u) := by
  rw [exec_claim h, handover_of_foremost ha hf, hu]

theorem require_of_false {g : Bool} {st : Status} {s : State} {x : State × Reply} (h : g = false) : require g st s x = refuse st s := by
  rw [h, require_false]

theorem require_of_true {g : Bool} {st : Status} {s : State} {x : State × Reply} (h : g = true) : require g st s x = x := by
  rw [h, require_true]

/-! ### System Power Control -/

theorem changeButton_same (s : State) : changeButton s.system.buttonDown s = s := if_pos rfl

theorem changeButton_up {s : State} (h : s.system.buttonDown = true) : changeButton false s = { s with system := { s.system with
    buttonDown := false, pressReady := true, pressTimer := none, holdTimer := none } } := by simp [changeButton, h, buttonUp]

/-- R194: a press while press ready is no times nothing. -/
theorem changeButton_down_not_ready {s : State} (h : s.system.buttonDown = false) (hr : s.system.pressReady = false) :
    changeButton true s = { s with system := { s.system with buttonDown := true } } := by simp [changeButton, h, buttonDown, hr]

theorem changeButton_down_dark {s : State} (h : s.system.buttonDown = false) (hr : s.system.pressReady = true)
    (hd : s.system.state = .dark) :
    changeButton true s = { s with system := { s.system with buttonDown := true, pressTimer := some (ms 100) } } := by
  simp [changeButton, h, buttonDown, hr, hd]

theorem changeButton_down_on {s : State} (h : s.system.buttonDown = false) (hr : s.system.pressReady = true)
    (hd : s.system.state ≠ .dark) :
    changeButton true s = { s with system := { s.system with buttonDown := true, holdTimer := some (sec 4) } } := by
  simp [changeButton, h, buttonDown, hr, hd]

/-- R194: the gate lets a press start the system. -/
theorem judgePress_starts {s : State} (hd : s.system.state = .dark) (hg : s.store.working.startThreshold ≤ s.supply.ceiling) :
    judgePress s = ({ s with system := { s.system with
      state := .starting, pressReady := false, pressTimer := none, startTimer := some (sec 20) } }).handAll
      [.supplyStateNotice .starting, .backlightStateNotice .starting, .motionStateNotice .starting] := by
  rw [judgePress, if_pos ⟨hd, decide_eq_true hg⟩]
  rfl

theorem judgePress_spent {s : State} (h : s.system.state ≠ .dark ∨ s.supply.ceiling < s.store.working.startThreshold) :
    judgePress s = { s with system := { s.system with pressReady := false, pressTimer := none } } := by
  refine if_neg fun hc => ?_
  rcases h with h | h
  · exact h hc.1
  · have hg : s.store.working.startThreshold ≤ s.supply.ceiling := of_decide_eq_true hc.2
    omega

theorem not_some_of_none {α : Type} {o : Option α} (h : o = none) : ¬o.isSome = true := by simp [h]

theorem isSome_of_ne_none {α : Type} {o : Option α} (h : o ≠ none) : o.isSome = true := Option.isSome_iff_ne_none.mpr h

/-- Settles O57: the button, the gate, the timers, the claim and the two requests, each by its equation above. -/
theorem systemStateMoves : Obligations.SystemStateMoves := by
  intro s ha r tell clears dark
  refine ⟨?same, ?up, ?notReady, ?press, ?hold, ?noPress, ?starts, ?spent, ?noHold, ?held, ?forcedDark, ?forced, ?notStarting, ?ready,
    ?noStart, ?started, ?notRun, ?off, ?noStop, ?stopped⟩
  case same => exact exec_own_nothing ha rfl (changeButton_same s)
  case up => exact fun h => exec_own_eq ha rfl (changeButton_up h)
  case notReady => exact fun h hr => exec_own_eq ha rfl (changeButton_down_not_ready h hr)
  case press => exact fun h hr hd => exec_own_eq ha rfl (changeButton_down_dark h hr hd)
  case hold => exact fun h hr hd => exec_own_eq ha rfl (changeButton_down_on h hr hd)
  case noPress => exact fun h => exec_own_nothing ha rfl (if_neg (not_some_of_none h))
  case starts => exact fun h hd hg => exec_own_eq ha rfl ((if_pos (isSome_of_ne_none h)).trans (judgePress_starts hd hg))
  case spent => exact fun h hc => exec_own_eq ha rfl ((if_pos (isSome_of_ne_none h)).trans (judgePress_spent hc))
  case noHold => exact fun h => exec_own_nothing ha rfl (if_neg fun hc => h.elim (fun h => not_some_of_none h hc.1) hc.2)
  case held => exact fun h hd => exec_own_eq ha rfl (if_pos ⟨isSome_of_ne_none h, hd⟩)
  case forcedDark => exact fun h => exec_claim_eq ha (foremost_forcedOff s) rfl (if_pos h)
  case forced => exact fun h => exec_claim_eq ha (foremost_forcedOff s) rfl (if_neg h)
  case notStarting => exact fun h => exec_plain_refused ha rfl (require_of_false (by simpa using h))
  case ready => exact fun h => exec_plain_eq ha rfl (require_of_true (by simpa using h))
  case noStart => exact fun h => exec_own_nothing ha rfl (if_neg fun hc => h.elim (fun h => not_some_of_none h hc.1) fun h => h hc.2)
  case started => exact fun h hs => exec_own_eq ha rfl (if_pos ⟨isSome_of_ne_none h, hs⟩)
  case notRun => exact fun h => exec_plain_refused ha rfl (require_of_false (by simpa using h))
  case off => exact fun h => exec_plain_eq ha rfl (require_of_true (by simpa using h))
  case noStop => exact fun h => exec_own_nothing ha rfl (if_neg fun hc => h.elim (fun h => not_some_of_none h hc.1) fun h => h hc.2)
  case stopped => exact fun h hs => exec_own_eq ha rfl (if_pos ⟨isSome_of_ne_none h, hs⟩)

/-! ### The requests and notices of the Motion Monitor -/

theorem systemOn_iff (s : State) : systemOn s = true ↔ s.system.state = .starting ∨ s.system.state = .run := by simp [systemOn]

theorem systemOn_eq_false {s : State} (h : ¬(s.system.state = .starting ∨ s.system.state = .run)) : systemOn s = false :=
  Bool.eq_false_iff.mpr fun ho => h ((systemOn_iff s).mp ho)

theorem arm_of_armed {s : State} (h : s.motion.armed = true) : arm s = s := if_pos h

theorem arm_of_on {s : State} (h : s.motion.armed = false) (ho : systemOn s = true) :
    arm s = { s with motion := beginSampling { s.motion with armed := true } } := by simp [arm, h, ho]

theorem arm_of_off {s : State} (h : s.motion.armed = false) (ho : systemOn s = false) :
    arm s = { s with motion := { s.motion with armed := true } } := by simp [arm, h, ho]

/-- R152: where a fall is not simulated. -/
theorem simulateFall_refused {s : State}
    (h : ¬(s.system.state = .starting ∨ s.system.state = .run) ∨ (s.motion.state ≠ .level ∧ s.motion.state ≠ .suspect)) :
    simulateFallRequest s = refuse .wrongState s := by
  refine require_of_false ?_
  rcases h with h | h
  · rw [systemOn_eq_false h, Bool.false_and]
  · simp [h.1, h.2]

theorem simulateFall_accepted {s : State} (ho : systemOn s = true) (h : s.motion.state = .level ∨ s.motion.state = .suspect) :
    simulateFallRequest s =
      (({ s with motion := { s.motion with cls := .none, lowCount := 0, state := .falling } }).hand .fallStart, okReply []) := by
  refine require_of_true ?_
  rw [ho, Bool.true_and]
  simpa using h

theorem motionStarting_begins {s : State} (h : s.motion.armed = true) (hs : s.motion.state = .off) (ho : systemOn s = true) :
    motionStarting s = { s with motion := beginSampling s.motion } := by simp [motionStarting, h, hs, ho]

theorem motionStarting_stays {s : State} (h : s.motion.armed = false ∨ s.motion.state ≠ .off ∨
    ¬(s.system.state = .starting ∨ s.system.state = .run)) : motionStarting s = s := by
  refine if_neg fun hc => ?_
  simp only [Bool.and_eq_true, beq_iff_eq] at hc
  rcases h with h | h | h
  · exact absurd hc.1.1 (by simp [h])
  · exact h hc.1.2
  · exact h ((systemOn_iff s).mp hc.2)

theorem resetMotion_begins {p : Profile} (h : p.armedAtStart = true) (r : MotionRec) :
    resetMotion p true r = beginSampling { r with armed := p.armedAtStart, cls := .none } := by simp [resetMotion, h]

theorem resetMotion_stops {p : Profile} {sampling : Bool} (h : (p.armedAtStart && sampling) = false) (r : MotionRec) :
    resetMotion p sampling r = stopSampling { r with armed := p.armedAtStart, cls := .none } := by simp [resetMotion, h]

/-- Settles O53: the requests and the notices of the Monitor, each by its equation above. -/
theorem motionRequestsAndNotices : Obligations.MotionRequestsAndNotices := by
  intro s ha r on level off
  refine ⟨?armed, ?arms, ?armsOff, ?disarms, ?noFall, ?falls, ?starting, ?run, ?stopping, ?dark, ?reset⟩
  case armed => exact fun h => exec_plain_eq ha rfl (congrArg (·, okReply []) (arm_of_armed h))
  case arms => exact fun h ho => exec_plain_eq ha rfl (congrArg (·, okReply []) (arm_of_on h ((systemOn_iff s).mpr ho)))
  case armsOff => exact fun h ho => exec_plain_eq ha rfl (congrArg (·, okReply []) (arm_of_off h (systemOn_eq_false ho)))
  case disarms => exact exec_plain_eq ha rfl rfl
  case noFall => exact fun h => exec_plain_refused ha rfl (simulateFall_refused h)
  case falls => exact fun ho h => exec_plain_eq ha rfl (simulateFall_accepted ((systemOn_iff s).mpr ho) h)
  case starting =>
    intro hf m
    exact ⟨fun h hs ho => exec_claim_eq ha hf rfl (motionStarting_begins h hs ((systemOn_iff m).mpr ho)),
      fun h => exec_claim_eq ha hf rfl (motionStarting_stays h)⟩
  case run => exact fun hf => exec_claim_eq ha hf rfl rfl
  case stopping => exact fun hf => exec_claim_eq ha hf rfl rfl
  case dark => exact fun hf => exec_claim_eq ha hf rfl rfl
  case reset =>
    intro hf m p
    refine ⟨fun h ho => exec_claim_eq ha hf rfl ?_, fun h => exec_claim_eq ha hf rfl ?_⟩
    · show ({ m with motion := resetMotion m.profile (systemOn m) m.motion } : State) = _
      rw [(systemOn_iff m).mpr ho, resetMotion_begins (p := m.profile) h]
      rfl
    · show ({ m with motion := resetMotion m.profile (systemOn m) m.motion } : State) = _
      rw [resetMotion_stops]
      · rfl
      · rcases h with h | h
        · rw [show m.profile.armedAtStart = false from h, Bool.false_and]
        · rw [systemOn_eq_false (s := m) h, Bool.and_false]

/-! ### Attentions -/

theorem sourceReasons_eq (i : Fin 30) :
    sourceReasons i = if i.val < 26 then 0xFF else if i.val = 26 then 0x1F else if i.val = 28 then 0x3F else 0x07 := by
  revert i
  decide

theorem acknowledge_of_no_source {n : Nat} (h : 30 ≤ n) (reasons : Byte) (s : State) :
    acknowledgeRequest n reasons s = refuse .badArgument s := dif_neg (by omega)

theorem acknowledge_of_unknown {i : Fin 30} {reasons : Byte} (h : reasons &&& ~~~(sourceReasons i) ≠ 0) (s : State) :
    acknowledgeRequest i.val reasons s = refuse .badArgument s := by
  rw [acknowledgeRequest, dif_pos i.isLt]
  exact require_of_false (by simpa using h)

theorem acknowledge_of_known {i : Fin 30} {reasons : Byte} (h : reasons &&& ~~~(sourceReasons i) = 0) (s : State) :
    acknowledgeRequest i.val reasons s =
      ({ s with attention := { s.attention with sets := s.attention.sets.set i (s.attention.sets[i] &&& ~~~reasons) } },
        okReply [s.attention.sets[i] &&& ~~~reasons]) := by
  rw [acknowledgeRequest, dif_pos i.isLt, require_of_true (by simpa using h)]
  simp [AttentionRec.acknowledge]

theorem masksValid_iff (m : MaskBytes) : masksValid m = true ↔
    m.supply &&& 0xE0 = 0 ∧ m.light &&& 0xF8 = 0 ∧ m.fall &&& 0xC0 = 0 ∧ m.part &&& 0xF8 = 0 := by
  have h1 : ~~~(0x1F : Byte) = 0xE0 := by decide
  have h2 : ~~~(0x07 : Byte) = 0xF8 := by decide
  have h3 : ~~~(0x3F : Byte) = 0xC0 := by decide
  simp only [masksValid, h1, h2, h3, Bool.and_eq_true, beq_iff_eq, and_assoc]

/-- Settles O59: ACKNOWLEDGE by its source and its reasons, MASK by its bytes, the clear of the DARK notice, and the alert line as the end of an
event writes it. -/
theorem attentionsAreAcknowledgedAndMasked : Obligations.AttentionsAreAcknowledgedAndMasked := by
  refine ⟨fun s ha => ⟨?noSource, fun i reasons => ?acknowledge, ?read, ?invalid, ?masks, ?clear⟩, masksValid_iff,
    fun s => (outputsFollow_finish s).alert⟩
  case noSource => exact fun n reasons h => exec_plain_refused ha rfl (acknowledge_of_no_source h reasons s)
  case acknowledge =>
    intro held
    have hheld : held = sourceReasons i := (sourceReasons_eq i).symm
    rw [hheld]
    exact ⟨fun h => exec_plain_refused ha rfl (acknowledge_of_unknown h s), fun h => exec_plain_eq ha rfl (acknowledge_of_known h s)⟩
  case read => exact exec_plain_eq ha rfl rfl
  case invalid => exact fun m h => exec_plain_refused ha rfl (require_of_false h)
  case masks => exact fun m h => exec_plain_eq ha rfl (require_of_true h)
  case clear => exact exec_claim_eq ha (foremost_attentionSystemOffClear s) rfl rfl

end Sys2Proof.Machine
end

section
/-!
PROOFS. The samples of the Motion Monitor: what each band does in each fall state, a missed sample, the magnitude and its band: O54.
-/
namespace Sys2Proof.Machine

/-! ### The magnitude and its band -/

/-- The root found bit by bit from the top is the root rounded down. -/
theorem isqrtBits_spec (k r n : Nat) (hlo : r * r ≤ n) (hhi : n < (r + 2 ^ k) * (r + 2 ^ k)) :
    isqrtBits k r n * isqrtBits k r n ≤ n ∧ n < (isqrtBits k r n + 1) * (isqrtBits k r n + 1) := by
  induction k generalizing r with
  | zero => exact ⟨hlo, hhi⟩
  | succ k ih =>
    unfold isqrtBits
    split
    next h =>
      refine ih (r + 2 ^ k) h ?_
      rwa [Nat.add_assoc, ← Nat.two_mul, ← Nat.pow_succ']
    next h => exact ih r hlo (Nat.lt_of_not_le h)

theorem axis_square_le {v : Int} (h : axisOk v = true) : v * v ≤ 1073676289 := by
  simp only [axisOk, Bool.and_eq_true, decide_eq_true_eq] at h
  have hle : v.natAbs * v.natAbs ≤ 32767 * 32767 := Nat.mul_le_mul (by omega) (by omega)
  rw [← Int.natAbs_mul_self]
  exact Int.ofNat_le.mpr hle

/-- R142: the magnitude of a reading whose axes lie in their range. -/
theorem magnitude_spec {a : Axes} (hx : axisOk a.x = true) (hy : axisOk a.y = true) (hz : axisOk a.z = true) :
    magnitude a * magnitude a ≤ (a.x * a.x + a.y * a.y + a.z * a.z).toNat ∧
      (a.x * a.x + a.y * a.y + a.z * a.z).toNat < (magnitude a + 1) * (magnitude a + 1) := by
  have h1 := axis_square_le hx
  have h2 := axis_square_le hy
  have h3 := axis_square_le hz
  refine isqrtBits_spec 16 0 _ (Nat.zero_le _) ?_
  have : (2 ^ 16 : Nat) = 65536 := by decide
  rw [Nat.zero_add, this]
  omega

/-- R142, R200: the rows of the table are the ranges between the thresholds of a profile in order. -/
theorem bandOf_iff {p : Profile} (h : p.consistent = true) (m : Nat) :
    (bandOf p m = .hard ↔ p.hardThreshold ≤ m) ∧
    (bandOf p m = .light ↔ p.lightThreshold ≤ m ∧ m < p.hardThreshold) ∧
    (bandOf p m = .low ↔ m < p.lowThreshold) ∧
    (bandOf p m = .quiet ↔ p.quietFloor ≤ m ∧ m ≤ p.quietCeiling) ∧
    (bandOf p m = .moving ↔ (p.lowThreshold ≤ m ∧ m < p.quietFloor) ∨ (p.quietCeiling < m ∧ m < p.lightThreshold)) := by
  simp only [Profile.consistent, Bool.and_eq_true, decide_eq_true_eq] at h
  unfold bandOf
  repeat' split
  all_goals
    simp only [reduceCtorEq, true_iff, false_iff]
    omega

/-! ### A good sample -/

theorem goodSample_of_ok {a : Axes} (hx : axisOk a.x = true) (hy : axisOk a.y = true) (hz : axisOk a.z = true) :
    goodSample (some a) = some a := by simp [goodSample, Option.filter, hx, hy, hz]

theorem goodSample_of_not_ok {a : Axes} (h : axisOk a.x = false ∨ axisOk a.y = false ∨ axisOk a.z = false) :
    goodSample (some a) = none := by
  rcases h with h | h | h <;> simp [goodSample, Option.filter, h]

/-- R142: the record in which a good sample is judged. -/
def sampledMotion (a : Axes) (r : MotionRec) : MotionRec :=
  { r with sampleTimer := some 5, missedCount := 0, lastMagnitude := some (magnitude a) }

theorem takeSample_good {a : Axes} {s : State} {r' : MotionRec} {declared : List Instr} (hg : goodSample (some a) = some a)
    (h : goodMotion s.profile (magnitude a) { s.motion with sampleTimer := some 5 } = (r', declared)) :
    takeSample (some a) s = ({ s with motion := r' }).handAll declared := by
  have hm : sampleMotion s.profile (some a) s.motion = (r', declared) := by simp [sampleMotion, hg, h]
  simp [takeSample, hm, raisesSensorFault, hg]

section
variable {p : Profile} {m : Nat} {r : MotionRec}

theorem goodMotion_level (h : r.state = .level) :
    goodMotion p m r = (levelSample (bandOf p m) { r with missedCount := 0, lastMagnitude := some m }, []) := by simp [goodMotion, h]

theorem goodMotion_suspect (h : r.state = .suspect) :
    goodMotion p m r = suspectSample p (bandOf p m) { r with missedCount := 0, lastMagnitude := some m } := by simp [goodMotion, h]

theorem goodMotion_falling (h : r.state = .falling) :
    goodMotion p m r = (fallingSample (bandOf p m) { r with missedCount := 0, lastMagnitude := some m }, []) := by simp [goodMotion, h]

theorem goodMotion_impact (h : r.state = .impact) :
    goodMotion p m r = impactSample (bandOf p m) { r with missedCount := 0, lastMagnitude := some m } := by simp [goodMotion, h]

theorem goodMotion_settling (h : r.state = .settling) :
    goodMotion p m r = settlingSample p (bandOf p m) { r with missedCount := 0, lastMagnitude := some m } := by simp [goodMotion, h]

theorem goodMotion_fault (h : r.state = .fault) :
    goodMotion p m r = faultSample { r with missedCount := 0, lastMagnitude := some m } := by simp [goodMotion, h]

end

theorem maxClass_light_eq (c : ImpactClass) : maxClass c .light = if c = .hard then .hard else .light := by cases c <;> decide

theorem strikeOf_eq (c : ImpactClass) : strikeOf c = if c = .hard then .hard else .light := by cases c <;> decide

theorem settlingSample_moving {p : Profile} {b : Band} (hq : b ≠ .quiet) (hl : b ≠ .low) (r : MotionRec) :
    settlingSample p b r = ({ r with quietCount := 0, lowCount := 0 }, []) := by
  cases b with
  | quiet => exact absurd rfl hq
  | low => exact absurd rfl hl
  | moving => rfl
  | light => rfl
  | hard => rfl

theorem impactSample_ends {b : Band} (hl : b ≠ .light) (hh : b ≠ .hard) (r : MotionRec) :
    impactSample b r = (enterSettling b r, [.impact (strikeOf r.cls)]) := by
  cases b with
  | light => exact absurd rfl hl
  | hard => exact absurd rfl hh
  | low => rfl
  | quiet => rfl
  | moving => rfl

/-! ### A missed sample -/

/-- R143: the record that a missed sample finds has its timer started again. -/
theorem takeSample_missed {reading : Option Axes} {s : State} (hg : goodSample reading = none)
    (h : missFaults { s.motion with sampleTimer := some 5 } = false) :
    takeSample reading s = { s with motion := { s.motion with sampleTimer := some 5, missedCount := min 8 (s.motion.missedCount + 1) } } := by
  have hm : missFaults s.motion = false := h
  simp [takeSample, sampleMotion, hg, missMotion, h, raisesSensorFault, hm, State.handAll]

theorem takeSample_faults {reading : Option Axes} {s : State} (hg : goodSample reading = none)
    (h : missFaults { s.motion with sampleTimer := some 5 } = true) :
    takeSample reading s = (({ s with motion := (enterFault { s.motion with sampleTimer := some 5 }).1 }).handAll
      (enterFault { s.motion with sampleTimer := some 5 }).2).raise (.fall .sensorFault) := by
  have hm : missFaults s.motion = true := h
  simp [takeSample, sampleMotion, hg, missMotion, h, raisesSensorFault, hm]

theorem takeSample_of_bad {reading : Option Axes} {s : State} (hg : goodSample reading = none) : takeSample reading s = takeSample none s := by
  have hn : goodSample none = none := rfl
  simp [takeSample, sampleMotion, hg, hn, raisesSensorFault]

theorem inFall_eq (x : MotionState) : x.inFall = decide (x = .falling ∨ x = .impact ∨ x = .settling) := by cases x <;> decide

/-- Settles O54: each band in each fall state, a missed sample that faults the Monitor and one that does not, the magnitude and its table. -/
theorem samplesMoveTheFallStatesByBand : Obligations.SamplesMoveTheFallStatesByBand := by
  refine ⟨fun s ha hlaw => ⟨fun hoff reading => ?off, fun hon => ⟨fun a hx hy hz => ?good, ?missed⟩⟩,
    fun a hx hy hz => magnitude_spec hx hy hz, fun p m h => bandOf_iff h m⟩
  case off =>
    refine exec_own_nothing ha rfl (if_neg ?_)
    rw [hlaw.timer, hoff]
    decide
  all_goals
    have htimer : s.motion.sampleTimer.isSome = true := by rw [hlaw.timer]; exact bne_iff_ne.mpr hon
    have hexec : ∀ {reading u}, takeSample reading s = u → exec (.sampleEvent reading) s = .next (finish u) := fun hu =>
      exec_own_eq ha rfl ((if_pos htimer).trans hu)
  case good =>
    intro p band r out settling
    have hout : ∀ {x r' declared}, goodMotion p (magnitude a) { s.motion with sampleTimer := some 5 } = x → x = (r', declared) →
        out r' declared :=
      fun h hx' => hexec (takeSample_good (goodSample_of_ok hx hy hz) (h.trans hx'))
    have hband : bandOf p (magnitude a) = band := rfl
    refine ⟨fun h hb => hout (goodMotion_level h) ?_, fun h hb => hout (goodMotion_level h) ?_, fun h hb hc => hout (goodMotion_suspect h) ?_, fun h hb hc => hout (goodMotion_suspect h) ?_, fun h hb => hout (goodMotion_suspect h) ?_, fun h hb => hout (goodMotion_falling h) ?_,
      fun h hb => hout (goodMotion_falling h) ?_, fun h hb => hout (goodMotion_falling h) ?_, fun h hb => hout (goodMotion_falling h) ?_, fun h hb => hout (goodMotion_impact h) ?_, fun h hb => hout (goodMotion_impact h) ?_, fun h hb hb' => hout (goodMotion_impact h) ?_,
      fun h hb hc => hout (goodMotion_settling h) ?_, fun h hb hc => hout (goodMotion_settling h) ?_, fun h hb => hout (goodMotion_settling h) ?_, fun h hb hb' => hout (goodMotion_settling h) ?_, fun h => hout (goodMotion_fault h) ?_⟩
    · rw [hband, hb]; rfl
    · rw [hband, levelSample, if_neg hb]
    · rw [hband, suspectSample, if_pos hb, if_neg (Nat.not_le_of_lt hc)]
    · rw [hband, suspectSample, if_pos hb, if_pos hc]
    · rw [hband, suspectSample, if_neg hb]
    · rw [hband, hb]; rfl
    · rw [hband, hb]
      simp only [fallingSample, maxClass_light_eq]
      rfl
    · rw [hband, hb]; rfl
    · rw [hband]
      rcases hb with hb | hb <;> simp only [settling, hb] <;> rfl
    · rw [hband, hb]; rfl
    · rw [hband, hb]; rfl
    · rw [hband, impactSample_ends hb hb', strikeOf_eq]; rfl
    · rw [hband, hb]
      exact if_neg (Nat.not_le_of_lt hc)
    · rw [hband, hb]
      exact if_pos hc
    · rw [hband, hb]; rfl
    · rw [hband, settlingSample_moving hb hb']
    · rfl
  case missed =>
    intro r
    refine ⟨fun h => hexec (takeSample_missed rfl ?_), fun hm hf => ?_, fun a h => ?_⟩
    · have hno : ¬(8 ≤ s.motion.missedCount + 1 ∧ s.motion.state ≠ .fault) := fun hc =>
        h.elim (fun hm => Nat.not_le_of_lt (Nat.succ_lt_succ hm) hc.1) hc.2
      simpa [missFaults] using hno
    · intro f declared
      have hfaults : missFaults { s.motion with sampleTimer := some 5 } = true := by
        simp only [missFaults, Bool.and_eq_true, decide_eq_true_eq, bne_iff_ne]
        exact ⟨Nat.succ_le_succ hm, hf⟩
      rw [hexec (takeSample_faults rfl hfaults)]
      simp only [enterFault, inFall_eq, strikeOf_eq]
      rfl
    · rw [hexec (takeSample_of_bad (goodSample_of_not_ok h)), hexec rfl]

end Sys2Proof.Machine
end

section
/-!
PROOFS. The Protection Sequencer: the opening of an episode and its turns, the assertion of the lines that an answer names, the events of a line,
the entry into RECOVERING and the end of an episode: O55 and O56.
-/
namespace Sys2Proof.Machine

/-! ### FALL_START, IMPACT, SETTLED and the disarm notice -/

theorem openEpisode_of_pending {s : State} (h : s.episode.protectPending = true) :
    openEpisode s = { s with episode := { s.episode with settleHeld := false } } := by simp [openEpisode, h]

theorem openEpisode_of_idle {s : State} (h : s.episode.protectPending = false) (hs : s.episode.state = .idle) :
    openEpisode s = ({ s with episode := { s.episode with
      cls := .none, settleHeld := false, disarmHeld := false, protectPending := true } }).hand .protectClaim := by
  simp [openEpisode, h, hs, sendProtect]

theorem openEpisode_of_parking {s : State} (h : s.episode.protectPending = false)
    (hs : s.episode.state = .protecting ∨ s.episode.state = .holding) :
    openEpisode s = ({ s with episode := { s.episode with state := .protecting, protectPending := true } }).hand .protectClaim := by
  rcases hs with hs | hs <;> simp [openEpisode, h, hs, sendProtect]

theorem openEpisode_of_recovering {s : State} (h : s.episode.protectPending = false) (hs : s.episode.state = .recovering) :
    openEpisode s = ({ s with episode := { (s.episode.mapLines fun _ l => { l with unparkTimer := none }) with
      state := .protecting, protectPending := true } }).hand .protectClaim := by
  simp only [openEpisode, h, hs, Bool.false_eq_true, if_false]
  rfl

/-- R146, R165: the class after an IMPACT. -/
theorem maxClass_strike (c : ImpactClass) (k : Strike) :
    maxClass c (strikeClass k) = if c = .hard ∨ k = .hard then .hard else .light := by cases c <;> cases k <;> decide

theorem strikeReason_eq (k : Strike) : strikeReason k = if k = .hard then .impactHard else .impactLight := by cases k <;> decide

theorem takeImpact_of_idle {s : State} (hs : s.episode.state = .idle) (hp : s.episode.protectPending = false) (k : Strike) :
    takeImpact k s = s := by simp [takeImpact, hs, hp]

theorem takeImpact_of_recovering {s : State} (hs : s.episode.state = .recovering) (hp : s.episode.protectPending = false) (k : Strike) :
    takeImpact k s = { s with episode := { s.episode with cls := maxClass s.episode.cls (strikeClass k) } } := by
  simp [takeImpact, hs, hp]

theorem takeImpact_of_parking {s : State}
    (h : s.episode.state = .protecting ∨ s.episode.state = .holding ∨ s.episode.protectPending = true) (k : Strike) :
    takeImpact k s = ({ s with episode := { s.episode with cls := maxClass s.episode.cls (strikeClass k) } }).hand .lateClaim := by
  have hopen : s.episode.state ≠ .idle ∨ s.episode.protectPending = true := by
    rcases h with h | h | h
    · exact .inl (by simp [h])
    · exact .inl (by simp [h])
    · exact .inr h
  simp [takeImpact, hopen, h]

theorem actOnSettled_auto {s : State} (h : s.profile.protectionMode = .auto) : actOnSettled s = enterRecovering s := by
  simp [actOnSettled, h]

theorem actOnSettled_hold {s : State} (h : s.profile.protectionMode = .hold) :
    actOnSettled s = ({ s with episode := { s.episode with state := .holding } }).raise (.fall .hold) := by simp [actOnSettled, h]

theorem takeSettled_of_protecting {s : State} (hs : s.episode.state = .protecting) (hp : s.episode.protectPending = false) :
    takeSettled s = actOnSettled s := by simp [takeSettled, hs, hp]

/-- R166: a SETTLED before the answer is held. -/
theorem takeSettled_of_pending {s : State} (hl : EpisodeLaw s.episode) (hp : s.episode.protectPending = true) :
    takeSettled s = { s with episode := { s.episode with settleHeld := true } } := by
  rcases hl.pending hp with hs | hs <;> simp [takeSettled, hs, hp]

theorem takeSettled_of_other {s : State} (hp : s.episode.protectPending = false) (hs : s.episode.state ≠ .protecting) :
    takeSettled s = s := by
  cases h : s.episode.state with
  | protecting => exact absurd h hs
  | idle => simp [takeSettled, h, hp]
  | holding => simp [takeSettled, h]
  | recovering => simp [takeSettled, h]

theorem takeDisarm_of_none {s : State} (h : s.episode.state = .idle ∨ s.episode.state = .recovering) : takeDisarm s = s := by
  rcases h with h | h <;> simp [takeDisarm, h]

theorem takeDisarm_of_pending {s : State} (hs : s.episode.state = .protecting) (hp : s.episode.protectPending = true) :
    takeDisarm s = { s with episode := { s.episode with disarmHeld := true } } := by simp [takeDisarm, hs, hp]

theorem takeDisarm_of_parking {s : State} (hs : s.episode.state = .protecting ∨ s.episode.state = .holding)
    (hp : s.episode.protectPending = false) : takeDisarm s = enterRecovering s := by
  rcases hs with hs | hs <;> simp [takeDisarm, hs, hp]

/-! ### The entry into RECOVERING -/

theorem liftedLine_idle_iff (l : LineRec) : (liftedLine l).state = .idle ↔ l.state = .idle ∨ l.doneActive = false := by
  unfold liftedLine
  by_cases hi : l.state = .idle
  · simp [hi]
  · cases hd : l.doneActive <;> simp [hi]

/-- R167: every line rests once the entry has lifted it. -/
theorem allIdle_lifted (e : EpisodeRec) :
    (({ (e.mapLines fun _ l => liftedLine l) with state := .recovering } : EpisodeRec).allIdle = true) ↔
      ∀ n : Line, e.lines[n].state = .idle ∨ e.lines[n].doneActive = false := by
  rw [allIdle_iff]
  refine forall_congr' fun n => ?_
  show (e.mapLines fun _ l => liftedLine l).lines[n].state = .idle ↔ _
  rw [EpisodeRec.lines_mapLines]
  exact liftedLine_idle_iff _

/-- R170: the entry into RECOVERING ends the episode at once when every line rests. -/
theorem enterRecovering_of_all {s : State} (h : ∀ n : Line, s.episode.lines[n].state = .idle ∨ s.episode.lines[n].doneActive = false) :
    enterRecovering s = endEpisode (({ s with episode := { (s.episode.mapLines fun _ l => liftedLine l) with state := .recovering } }).handAll
      (recoveryClaims s.episode)) := if_pos ⟨rfl, (allIdle_lifted s.episode).mpr h⟩

theorem enterRecovering_of_some {s : State} (h : ¬∀ n : Line, s.episode.lines[n].state = .idle ∨ s.episode.lines[n].doneActive = false) :
    enterRecovering s = ({ s with episode := { (s.episode.mapLines fun _ l => liftedLine l) with state := .recovering } }).handAll
      (recoveryClaims s.episode) := if_neg fun hc => h ((allIdle_lifted s.episode).mp hc.2)

/-- What the entry into RECOVERING leaves, whether or not the episode ends with it. -/
theorem enterRecovering_cases (s : State) :
    ((enterRecovering s).episode = { (s.episode.mapLines fun _ l => liftedLine l) with state := .recovering } ∧
      (enterRecovering s).handed = s.handed ++ recoveryClaims s.episode) ∨
    ((enterRecovering s).episode = { (s.episode.mapLines fun _ l => liftedLine l) with state := .idle } ∧
      (enterRecovering s).handed = s.handed ++ recoveryClaims s.episode ++ [.liftClaim, .releaseClaim, .episodeEndedNotice]) := by
  by_cases h : ∀ n : Line, s.episode.lines[n].state = .idle ∨ s.episode.lines[n].doneActive = false
  · exact .inr (by rw [enterRecovering_of_all h]; exact ⟨rfl, rfl⟩)
  · exact .inl (by rw [enterRecovering_of_some h]; exact ⟨rfl, rfl⟩)

theorem enterRecovering_lines (s : State) (n : Line) : (enterRecovering s).episode.lines[n] = liftedLine s.episode.lines[n] := by
  have h := EpisodeRec.lines_mapLines (fun _ l => liftedLine l) s.episode n
  rcases enterRecovering_cases s with ⟨he, -⟩ | ⟨he, -⟩ <;> rw [he] <;> exact h

/-- What a block has handed over waits behind what was handed before. -/
theorem mem_handed_enterRecovering {c : Instr} {s : State} (h : c ∈ s.handed) : c ∈ (enterRecovering s).handed := by
  rcases enterRecovering_cases s with ⟨-, hh⟩ | ⟨-, hh⟩ <;> simp [hh, h]

/-! ### The protect answer -/

theorem doneActive_asserted (p : Profile) (l : LineRec) : (assertedLine p l).doneActive = l.doneActive := by
  unfold assertedLine
  split <;> rfl

theorem asserted_asserted (p : Profile) (l : LineRec) : assertedLine p (assertedLine p l) = assertedLine p l := by
  cases h : l.doneActive <;> simp [assertedLine, h]

theorem assertLine_handed (s : State) (n : Line) :
    (assertLine s n).handed = s.handed ++ if s.episode.lines[n].doneActive then [.lineDoneClaim n] else [] := by
  unfold assertLine
  dsimp only
  split <;> simp

theorem assertLine_store (s : State) (n : Line) : (assertLine s n).store = s.store := by
  unfold assertLine
  dsimp only
  split <;> rfl

/-- R160 step 3: what the assertion of the lines of an answer makes of a state. -/
structure Asserts (ns : List Line) (u v : State) : Prop where
  store : v.store = u.store
  state : v.episode.state = u.episode.state
  pending : v.episode.protectPending = u.episode.protectPending
  settle : v.episode.settleHeld = u.episode.settleHeld
  disarm : v.episode.disarmHeld = u.episode.disarmHeld
  handed : v.handed = u.handed ++ (ns.filter fun n => u.episode.lines[n].doneActive).map Instr.lineDoneClaim
  named : ∀ n ∈ ns, v.episode.lines[n] = assertedLine u.profile u.episode.lines[n]
  others : ∀ n, n ∉ ns → v.episode.lines[n] = u.episode.lines[n]

theorem doneActive_assertLine (s : State) (n m : Line) :
    (assertLine s n).episode.lines[m].doneActive = s.episode.lines[m].doneActive := by
  rw [assertLine_episode, EpisodeRec.lines_setLine]
  split
  next h => rw [h, doneActive_asserted]
  · rfl

theorem asserts_foldl (ns : List Line) (u : State) : Asserts ns u (ns.foldl assertLine u) := by
  induction ns generalizing u with
  | nil => exact ⟨rfl, rfl, rfl, rfl, rfl, by simp, fun n hn => (by cases hn), fun _ _ => rfl⟩
  | cons n ns ih =>
    have h := ih (assertLine u n)
    have he := assertLine_episode u n
    have hprofile : (assertLine u n).profile = u.profile := congrArg StoreRec.working (assertLine_store u n)
    have hline : ∀ m, (assertLine u n).episode.lines[m] = if n = m then assertedLine u.profile u.episode.lines[n] else u.episode.lines[m] :=
      fun m => by rw [he, EpisodeRec.lines_setLine]
    rw [List.foldl_cons]
    refine ⟨h.store.trans (assertLine_store u n), h.state.trans (by rw [he]; rfl), h.pending.trans (by rw [he]; rfl),
      h.settle.trans (by rw [he]; rfl), h.disarm.trans (by rw [he]; rfl), ?_, fun m hm => ?_, fun m hm => ?_⟩
    · rw [h.handed, assertLine_handed, List.append_assoc]
      simp only [doneActive_assertLine, List.filter_cons]
      split <;> simp
    · by_cases hmn : m ∈ ns
      · rw [h.named m hmn, hline, hprofile]
        split
        next hnm => rw [← hnm, asserted_asserted]
        · rfl
      · have hnm : n = m := ((List.mem_cons.mp hm).resolve_right hmn).symm
        rw [h.others m hmn, hline, if_pos hnm, hnm]
    · rw [h.others m (fun hx => hm (List.mem_cons_of_mem _ hx)), hline, if_neg fun hnm : n = m => hm (hnm ▸ List.mem_cons_self)]

/-- R160 steps 1 and 2: what the answer finds. -/
def answerOpens (s : State) : State := openOnAnswer { s with episode := { s.episode with protectPending := false } }

theorem answerOpens_episode {s : State} (h : s.episode.state = .idle ∨ s.episode.state = .protecting) :
    (answerOpens s).episode = { s.episode with protectPending := false, state := .protecting } := by
  unfold answerOpens openOnAnswer
  split
  · rfl
  next hn =>
    have hs := h.resolve_left hn
    rw [← hs]

theorem answerOpens_handed (s : State) :
    (answerOpens s).handed = s.handed ++ if s.episode.state = .idle then [.deferClaim, .episodeActiveNotice] else [] := by
  unfold answerOpens openOnAnswer
  dsimp only
  split <;> simp

theorem answerOpens_store (s : State) : (answerOpens s).store = s.store := by
  unfold answerOpens openOnAnswer
  split <;> rfl

theorem takeProtectAnswer_of_pending {s : State} (h : s.episode.protectPending = true) (ns : List Line) :
    takeProtectAnswer ns s = actOnHeld (ns.foldl assertLine (answerOpens s)) := if_pos h

/-- R160 step 4: what was held turns the episode it has just opened. -/
theorem actOnHeld_none {s : State} (hd : s.episode.disarmHeld = false) (hs : s.episode.settleHeld = false) : actOnHeld s = s := by
  simp [actOnHeld, hd, hs]

theorem actOnHeld_hold {s : State} (hd : s.episode.disarmHeld = false) (hs : s.episode.settleHeld = true)
    (hm : s.store.working.protectionMode = .hold) :
    actOnHeld s = ({ s with episode := { s.episode with settleHeld := false, state := .holding } }).raise (.fall .hold) := by
  have h := actOnSettled_hold (s := { s with episode := { s.episode with settleHeld := false } }) hm
  simpa [actOnHeld, hd, hs] using h

/-- R160, R166: a held disarm, or a held SETTLED in AUTO, has the episode recover. -/
theorem actOnHeld_recovers {s : State}
    (h : s.episode.disarmHeld = true ∨ (s.episode.settleHeld = true ∧ s.store.working.protectionMode = .auto)) :
    actOnHeld s = enterRecovering { s with episode := { s.episode with disarmHeld := false, settleHeld := false } } := by
  cases hd : s.episode.disarmHeld with
  | true => simp [actOnHeld, hd]
  | false =>
    obtain ⟨hs, hm⟩ := h.resolve_left (by simp [hd])
    have hauto := actOnSettled_auto (s := { s with episode := { s.episode with settleHeld := false } }) hm
    simp only [hd] at hauto
    simp only [actOnHeld, hd, hs, Bool.false_eq_true, if_false, if_true, hauto]

theorem mem_handed_actOnHeld {c : Instr} {s : State} (h : c ∈ s.handed) : c ∈ (actOnHeld s).handed := by
  unfold actOnHeld actOnSettled
  split
  · exact mem_handed_enterRecovering h
  · split
    · split
      · exact mem_handed_enterRecovering h
      · exact h
    · exact h

/-- R160: once the answer has been taken, nothing is held or waited for. -/
theorem unheld_actOnHeld {s : State} (hp : s.episode.protectPending = false) : Unheld (actOnHeld s).episode := by
  have hrec : ∀ u : State, Unheld u.episode → Unheld (enterRecovering u).episode := fun u hu => by
    rcases enterRecovering_cases u with ⟨he, -⟩ | ⟨he, -⟩ <;> rw [he] <;> exact ⟨hu.pending, hu.settle, hu.disarm⟩
  unfold actOnHeld actOnSettled
  split
  · exact hrec _ ⟨hp, rfl, rfl⟩
  next hd =>
    have hd : s.episode.disarmHeld = false := by simpa using hd
    split
    · split
      · exact hrec _ ⟨hp, rfl, hd⟩
      · exact ⟨hp, rfl, hd⟩
    next hs => exact ⟨hp, by simpa using hs, hd⟩

theorem cutReturn_mem_recoveryClaims (e : EpisodeRec) : Instr.cutReturnClaim ∈ recoveryClaims e := by simp [recoveryClaims]

theorem enterRecovering_state (s : State) : (enterRecovering s).episode.state = .recovering ∨ (enterRecovering s).episode.state = .idle := by
  rcases enterRecovering_cases s with ⟨he, -⟩ | ⟨he, -⟩ <;> rw [he]
  · exact .inl rfl
  · exact .inr rfl

theorem cutReturn_mem_enterRecovering (s : State) : Instr.cutReturnClaim ∈ (enterRecovering s).handed := by
  have h := cutReturn_mem_recoveryClaims s.episode
  rcases enterRecovering_cases s with ⟨-, hh⟩ | ⟨-, hh⟩ <;> simp [hh, h]

end Sys2Proof.Machine
end

section
/-!
PROOFS. The Protection Sequencer: the turns of an episode, the events of a park line, RESUME and the resets, each assembled from the rules above:
O55 and O56.
-/
namespace Sys2Proof.Machine

/-! ### The protect answer, assembled -/

/-- R160: an answer that nobody waits for. -/
theorem takeProtectAnswer_of_none {s : State} (h : s.episode.protectPending = false) (ns : List Line) : takeProtectAnswer ns s = s := by
  simp [takeProtectAnswer, h]

/-- What stands in the episode when what was held is acted on. -/
def answerAsserted (ns : List Line) (s : State) : State := ns.foldl assertLine (answerOpens s)

/-- R160 steps 1 to 3: the episode, its lines and what has been handed over, before what was held is acted on. -/
structure AnswerTaken (ns : List Line) (s v : State) : Prop where
  store : v.store = s.store
  state : v.episode.state = .protecting
  pending : v.episode.protectPending = false
  settle : v.episode.settleHeld = s.episode.settleHeld
  disarm : v.episode.disarmHeld = s.episode.disarmHeld
  handed : v.handed = s.handed ++ (if s.episode.state = .idle then [.deferClaim, .episodeActiveNotice] else []) ++
    (ns.filter fun n => s.episode.lines[n].doneActive).map Instr.lineDoneClaim
  named : ∀ n ∈ ns, v.episode.lines[n] = assertedLine s.profile s.episode.lines[n]
  others : ∀ n, n ∉ ns → v.episode.lines[n] = s.episode.lines[n]

theorem answerTaken {s : State} (hl : EpisodeLaw s.episode) (hp : s.episode.protectPending = true) (ns : List Line) :
    AnswerTaken ns s (answerAsserted ns s) := by
  have h := asserts_foldl ns (answerOpens s)
  have he := answerOpens_episode (hl.pending hp)
  have hprofile : (answerOpens s).profile = s.profile := congrArg StoreRec.working (answerOpens_store s)
  have hlines : ∀ n : Line, (answerOpens s).episode.lines[n] = s.episode.lines[n] := fun n => by rw [he]
  refine ⟨h.store.trans (answerOpens_store s), h.state.trans (by rw [he]), h.pending.trans (by rw [he]), h.settle.trans (by rw [he]),
    h.disarm.trans (by rw [he]), ?_, fun n hn => ?_, fun n hn => (h.others n hn).trans (hlines n)⟩
  · rw [answerAsserted, h.handed, answerOpens_handed]
    simp only [hlines]
  · rw [answerAsserted, h.named n hn, hprofile, hlines]

theorem assertedLine_done (p : Profile) {l : LineRec} (h : l.doneActive = true) :
    assertedLine p l = { l with requestOn := true, state := .done, parkTimer := none, unparkTimer := none } := by simp [assertedLine, h]

theorem assertedLine_requested (p : Profile) {l : LineRec} (h : l.doneActive = false) : assertedLine p l = { l with
    requestOn := true, state := .requested, parkTimer := some (ms p.parkTimeout), unparkTimer := none } := by simp [assertedLine, h]

/-- R160: what the answer that is waited for leaves. -/
theorem protectAnswer_taken {s : State} (hl : EpisodeLaw s.episode) (hp : s.episode.protectPending = true) (ns : List Line) :
    let e := s.episode
    let t := finish (takeProtectAnswer ns s)
    t.episode.protectPending = false ∧ t.episode.settleHeld = false ∧ t.episode.disarmHeld = false ∧
    (e.state = .idle → .deferClaim ∈ t.handed ∧ .episodeActiveNotice ∈ t.handed) ∧
    (e.disarmHeld = false → e.settleHeld = false → t.handed = s.handed ++
      (if e.state = .idle then [.deferClaim, .episodeActiveNotice] else []) ++
      (ns.filter fun n => e.lines[n].doneActive).map Instr.lineDoneClaim) ∧
    (∀ n ∈ ns, e.lines[n].doneActive = true → .lineDoneClaim n ∈ t.handed) ∧
    (e.disarmHeld = false → e.settleHeld = false → t.episode.state = .protecting ∧ ∀ n : Line,
      (n ∉ ns → t.episode.lines[n] = e.lines[n]) ∧
      (n ∈ ns → e.lines[n].doneActive = true → t.episode.lines[n] = { e.lines[n] with
        requestOn := true, state := .done, parkTimer := none, unparkTimer := none }) ∧
      (n ∈ ns → e.lines[n].doneActive = false → t.episode.lines[n] = { e.lines[n] with
        requestOn := true, state := .requested, parkTimer := some (ms s.store.working.parkTimeout), unparkTimer := none })) ∧
    (e.disarmHeld = false → e.settleHeld = true → s.store.working.protectionMode = .hold →
      t.episode.state = .holding ∧ Pending (.fall .hold) t) ∧
    (e.disarmHeld = true ∨ (e.settleHeld = true ∧ s.store.working.protectionMode = .auto) →
      (t.episode.state = .recovering ∨ t.episode.state = .idle) ∧ .cutReturnClaim ∈ t.handed) := by
  intro e t
  have h := answerTaken hl hp ns
  have hact : takeProtectAnswer ns s = actOnHeld (answerAsserted ns s) := takeProtectAnswer_of_pending hp ns
  have ht : t = finish (actOnHeld (answerAsserted ns s)) := congrArg finish hact
  have hun := unheld_actOnHeld h.pending
  have hnone : e.disarmHeld = false → e.settleHeld = false → actOnHeld (answerAsserted ns s) = answerAsserted ns s := fun hd hs =>
    actOnHeld_none (h.disarm.trans hd) (h.settle.trans hs)
  rw [ht]
  refine ⟨hun.pending, hun.settle, hun.disarm, fun hs => ?_, fun hd hs => ?_, fun n hn hdone => ?_, fun hd hs => ?_, fun hd hs hm => ?_,
    fun hx => ?_⟩
  · have hs : s.episode.state = .idle := hs
    have hmem : ∀ c ∈ [Instr.deferClaim, .episodeActiveNotice], c ∈ (actOnHeld (answerAsserted ns s)).handed := fun c hc =>
      mem_handed_actOnHeld (by
        rw [h.handed, if_pos hs]
        exact List.mem_append_left _ (List.mem_append_right _ hc))
    exact ⟨hmem _ (by simp), hmem _ (by simp)⟩
  · rw [hnone hd hs, finish_handed, h.handed]
  · refine mem_handed_actOnHeld ?_
    rw [h.handed]
    exact List.mem_append_right _ (List.mem_map_of_mem (List.mem_filter.mpr ⟨hn, hdone⟩))
  · rw [hnone hd hs]
    exact ⟨h.state, fun n => ⟨fun hn => h.others n hn, fun hn hdone => (h.named n hn).trans (assertedLine_done _ hdone),
      fun hn hdone => (h.named n hn).trans (assertedLine_requested _ hdone)⟩⟩
  · rw [actOnHeld_hold (h.disarm.trans hd) (h.settle.trans hs) (by rw [h.store]; exact hm)]
    exact ⟨rfl, pending_raise_self _ _⟩
  · rw [actOnHeld_recovers (by rw [h.disarm, h.settle, h.store]; exact hx)]
    exact ⟨enterRecovering_state _, cutReturn_mem_enterRecovering _⟩

/-- Settles O55: each declaration, notice and answer in each state of the episode, by its rule. -/
theorem episodeOpensAndTurns : Obligations.EpisodeOpensAndTurns := by
  intro s ha hl e
  refine ⟨fun hf => ?fall, fun k hf => ?impact, fun c hf => ?settled, fun hf => ?disarm, fun lines _ hf => ⟨?unasked, ?asked⟩⟩
  case fall =>
    intro m ask
    have hexec : ∀ {u}, openEpisode m = u → exec .fallStart s = .next (finish (u.raise (.fall .fall))) := fun hu =>
      exec_claim_eq ha hf rfl (congrArg (State.raise _) hu)
    exact ⟨fun hp => hexec (openEpisode_of_pending hp), fun hp hs => hexec (openEpisode_of_idle hp hs),
      fun hp hs => hexec (openEpisode_of_parking hp hs), fun hp hs => hexec (openEpisode_of_recovering hp hs)⟩
  case impact =>
    intro m cls reason
    have hcls : maxClass e.cls (strikeClass k) = cls := maxClass_strike _ _
    have hexec : ∀ {u}, takeImpact k m = u → exec (.impact k) s = .next (finish (u.raise reason)) := fun hu =>
      exec_claim_eq ha hf rfl (by
        show (takeImpact k m).raise (.fall (strikeReason k)) = _
        rw [hu, strikeReason_eq])
    have hpending : e.state = .recovering → e.protectPending = false := fun hs => (hl.unheld_of_recovering hs).pending
    rw [← hcls]
    exact ⟨fun hs hp => hexec (takeImpact_of_idle (s := m) hs hp k), fun hs => hexec (takeImpact_of_recovering (s := m) hs (hpending hs) k),
      fun hs => hexec (takeImpact_of_parking (s := m) hs k)⟩
  case settled =>
    intro m
    exact ⟨fun hs hp hm => exec_claim_eq ha hf rfl ((takeSettled_of_protecting (s := m) hs hp).trans (actOnSettled_auto hm)),
      fun hs hp hm => exec_claim_eq ha hf rfl ((takeSettled_of_protecting (s := m) hs hp).trans (actOnSettled_hold hm)),
      fun hp => exec_claim_eq ha hf rfl (takeSettled_of_pending (s := m) hl hp),
      fun hp hs => exec_claim_eq ha hf rfl (takeSettled_of_other (s := m) hp hs)⟩
  case disarm =>
    intro m
    exact ⟨fun hs => exec_claim_eq ha hf rfl (takeDisarm_of_none (s := m) hs),
      fun hs hp => exec_claim_eq ha hf rfl (takeDisarm_of_pending (s := m) hs hp),
      fun hs hp => exec_claim_eq ha hf rfl (takeDisarm_of_parking (s := m) hs hp)⟩
  case unasked => exact fun hp => exec_claim_eq ha hf rfl (takeProtectAnswer_of_none (s := s.take _) hp lines)
  case asked => exact fun hp => ⟨_, exec_claim_eq ha hf rfl rfl, protectAnswer_taken (s := s.take (.protectAnswer lines)) hl hp lines⟩

/-! ### The events of a park line -/

theorem EpisodeRec.setLine_setLine (e : EpisodeRec) (n : Line) (l l' : LineRec) : (e.setLine n l).setLine n l' = e.setLine n l' := by
  simp [EpisodeRec.setLine]

/-- R168: the other lines of an episode rest. -/
def OthersIdle (n : Line) (e : EpisodeRec) : Prop := ∀ k : Line, k ≠ n → e.lines[k].state = .idle

theorem allIdle_setLine (e : EpisodeRec) (n : Line) {l : LineRec} (hl : l.state = .idle) :
    (e.setLine n l).allIdle = true ↔ OthersIdle n e := by
  rw [allIdle_iff]
  refine forall_congr' fun k => ?_
  rw [EpisodeRec.lines_setLine]
  by_cases hk : n = k
  · simp [hk, hl]
  · simp [hk, Ne.symm hk]

/-- R168: a line that is lifted, others still parked. -/
theorem finishLift_of_others {s : State} {n : Line} (h : ¬OthersIdle n s.episode) :
    finishLift n s = ({ s with episode := s.episode.setLine n { s.episode.lines[n] with unparkTimer := none, state := .idle } }).hand
      (.lineReturnClaim n) := if_neg fun hc => h ((allIdle_setLine _ _ rfl).mp hc.2)

/-- R168, R170: the last line that is lifted ends the episode. -/
theorem finishLift_of_last {s : State} {n : Line} (hs : s.episode.state = .recovering) (h : OthersIdle n s.episode) :
    finishLift n s = endEpisode
      (({ s with episode := s.episode.setLine n { s.episode.lines[n] with unparkTimer := none, state := .idle } }).hand
        (.lineReturnClaim n)) := if_pos ⟨hs, (allIdle_setLine _ _ rfl).mpr h⟩

/-- What the end of an episode leaves of the line whose lift has ended it. -/
theorem ended_finishLift {s : State} {n : Line} (hs : s.episode.state = .recovering) (h : OthersIdle n s.episode) :
    (finish (finishLift n s)).episode.state = .idle ∧
    (finish (finishLift n s)).episode.lines[n] = { s.episode.lines[n] with state := .idle, unparkTimer := none } ∧
    (finish (finishLift n s)).handed = s.handed ++ [.lineReturnClaim n, .liftClaim, .releaseClaim, .episodeEndedNotice] ∧
    Pending (.fall .recovered) (finish (finishLift n s)) := by
  rw [finishLift_of_last hs h]
  refine ⟨rfl, ?_, ?_, pending_raise_self _ _⟩
  · show (s.episode.setLine n _).lines[n] = _
    rw [EpisodeRec.lines_setLine, if_pos rfl]
  · show (s.handed ++ [.lineReturnClaim n]) ++ _ = _
    rw [List.append_assoc]
    rfl

theorem changeDone_same (n : Line) (s : State) : changeDone n s.episode.lines[n].doneActive s = s := if_pos rfl

section
variable {s : State} {n : Line}

theorem changeDone_on (h : s.episode.lines[n].doneActive = false) : changeDone n true s = doneActive n s := by
  unfold changeDone
  rw [if_neg (fun hc => by rw [h] at hc; cases hc), if_pos rfl]

theorem changeDone_off (h : s.episode.lines[n].doneActive = true) : changeDone n false s = doneInactive n s := by
  unfold changeDone
  rw [if_neg (fun hc => by rw [h] at hc; cases hc), if_neg (by decide)]

theorem doneActive_parks (hs : s.episode.lines[n].state = .requested) (hr : s.episode.lines[n].requestOn = true) :
    doneActive n s = ({ s with episode := s.episode.setLine n { s.episode.lines[n] with
      doneActive := true, state := .done, parkTimer := none } }).hand (.lineDoneClaim n) := if_pos ⟨hs, hr⟩

theorem doneActive_notes (h : s.episode.lines[n].state ≠ .requested ∨ s.episode.lines[n].requestOn = false) :
    doneActive n s = { s with episode := s.episode.setLine n { s.episode.lines[n] with doneActive := true } } :=
  if_neg fun hc => h.elim (fun hs => hs hc.1) fun hr => absurd (hr.symm.trans hc.2) (by decide)

theorem doneInactive_notes (h : s.episode.lines[n].unparkTimer = none) :
    doneInactive n s = { s with episode := s.episode.setLine n { s.episode.lines[n] with doneActive := false } } :=
  if_neg fun hc => not_some_of_none h hc.2

theorem doneInactive_lifts (hs : s.episode.state = .recovering) (h : s.episode.lines[n].unparkTimer ≠ none) :
    doneInactive n s =
      finishLift n { s with episode := s.episode.setLine n { s.episode.lines[n] with doneActive := false } } :=
  if_pos ⟨hs, isSome_of_ne_none h⟩

end

/-- R168: a lift runs in RECOVERING alone. -/
theorem EpisodeLaw.recovering {e : EpisodeRec} (h : EpisodeLaw e) {n : Line} (hu : e.lines[n].unparkTimer ≠ none) : e.state = .recovering :=
  (h.lines n).unpark (isSome_of_ne_none hu)

theorem othersIdle_setLine {e : EpisodeRec} {n : Line} (l : LineRec) : OthersIdle n (e.setLine n l) ↔ OthersIdle n e := by
  refine forall_congr' fun k => imp_congr_right fun hk => ?_
  rw [EpisodeRec.lines_setLine, if_neg (Ne.symm hk)]

/-- R167: the lines behind the entry into RECOVERING. -/
theorem liftedLine_spec {st : EpisodeState} {l : LineRec} (h : LineLaw st l) :
    (liftedLine l).requestOn = false ∧ (liftedLine l).parkTimer = none ∧ (liftedLine l).doneActive = l.doneActive ∧
    (l.state = .idle ∨ l.doneActive = false → (liftedLine l).state = .idle ∧ (st ≠ .recovering → (liftedLine l).unparkTimer = none)) ∧
    (l.state ≠ .idle → l.doneActive = true → (liftedLine l).state = l.state ∧ (liftedLine l).unparkTimer = some (ms 500)) := by
  have hun : st ≠ .recovering → l.unparkTimer = none := fun hst => by
    refine Classical.byContradiction fun hne => ?_
    exact hst (h.unpark (isSome_of_ne_none hne))
  unfold liftedLine
  split
  next hi =>
    obtain ⟨hr, hp, hu⟩ := h.idle hi
    exact ⟨hr, hp, rfl, fun _ => ⟨hi, fun _ => hu⟩, fun hx => absurd hi hx⟩
  next hi =>
    split
    next hd => exact ⟨rfl, rfl, rfl, fun hx => absurd (hx.resolve_left hi) (by simp [hd]), fun _ _ => ⟨rfl, rfl⟩⟩
    next hd => exact ⟨rfl, rfl, rfl, fun _ => ⟨rfl, hun⟩, fun _ hx => absurd hx hd⟩

/-- R166, R168, R173, R174: the lines' events, RESUME and the resets of the Sequencer. -/
theorem lineEvents {s : State} (ha : Alive s) (hl : EpisodeLaw s.episode) (n : Line) :
    let e := s.episode
    let l := e.lines[n]
    let put := fun (l' : LineRec) => { s with episode := e.setLine n l' }
    let lifted := { l with state := .idle, unparkTimer := none }
    let last := ∀ k : Line, k ≠ n → e.lines[k].state = .idle
    exec (.doneInputChange n l.doneActive) s = .next (finish s) ∧
    (l.doneActive = false → l.state = .requested → l.requestOn = true → exec (.doneInputChange n true) s =
      .next (finish ((put { l with doneActive := true, state := .done, parkTimer := none }).hand (.lineDoneClaim n)))) ∧
    (l.doneActive = false → l.state ≠ .requested ∨ l.requestOn = false → exec (.doneInputChange n true) s =
      .next (finish (put { l with doneActive := true }))) ∧
    (l.doneActive = true → l.unparkTimer = none → exec (.doneInputChange n false) s =
      .next (finish (put { l with doneActive := false }))) ∧
    (l.doneActive = true → l.unparkTimer ≠ none → ¬last → exec (.doneInputChange n false) s =
      .next (finish ((put { lifted with doneActive := false }).hand (.lineReturnClaim n)))) ∧
    (l.doneActive = true → l.unparkTimer ≠ none → last → ∃ t, exec (.doneInputChange n false) s = .next t ∧
      t.episode.state = .idle ∧ t.episode.lines[n] = { lifted with doneActive := false } ∧
      t.handed = s.handed ++ [.lineReturnClaim n, .liftClaim, .releaseClaim, .episodeEndedNotice] ∧
      Pending (.fall .recovered) t) ∧
    (l.parkTimer = none → exec (.parkTimerExpiry n) s = .next (finish s)) ∧
    (l.parkTimer ≠ none → exec (.parkTimerExpiry n) s =
      .next (finish ((put { l with state := .failed, parkTimer := none }).hand (.lineFailedClaim n)))) ∧
    (l.unparkTimer = none → exec (.unparkTimerExpiry n) s = .next (finish s)) ∧
    (l.unparkTimer ≠ none → ¬last → exec (.unparkTimerExpiry n) s =
      .next (finish ((put lifted).hand (.lineReturnClaim n)))) ∧
    (l.unparkTimer ≠ none → last → ∃ t, exec (.unparkTimerExpiry n) s = .next t ∧ t.episode.state = .idle ∧
      t.episode.lines[n] = lifted ∧ Pending (.fall .recovered) t ∧
      t.handed = s.handed ++ [.lineReturnClaim n, .liftClaim, .releaseClaim, .episodeEndedNotice]) := by
  intro e l put lifted last
  have hoff : ∀ {u}, l.doneActive = true → doneInactive n s = u → exec (.doneInputChange n false) s = .next (finish u) := fun hd hu =>
    exec_own_eq ha rfl ((changeDone_off hd).trans hu)
  have hput : ∀ l', (put l').episode.lines[n] = l' := fun l' => by
    show (e.setLine n l').lines[n] = l'
    rw [EpisodeRec.lines_setLine, if_pos rfl]
  have hputState : ∀ l', (put l').episode.state = e.state := fun _ => rfl
  have hlast : OthersIdle n (put { l with doneActive := false }).episode ↔ last := othersIdle_setLine _
  have hunpark : ∀ {u}, l.unparkTimer ≠ none → finishLift n s = u → exec (.unparkTimerExpiry n) s = .next (finish u) := fun h hu =>
    exec_own_eq ha rfl ((if_pos ⟨hl.recovering h, isSome_of_ne_none h⟩).trans hu)
  refine ⟨exec_own_nothing ha rfl (changeDone_same n s), fun hd hs hr => exec_own_eq ha rfl ((changeDone_on hd).trans (doneActive_parks hs hr)),
    fun hd h => exec_own_eq ha rfl ((changeDone_on hd).trans (doneActive_notes h)), fun hd h => hoff hd (doneInactive_notes h),
    fun hd h hlst => ?_, fun hd h hlst => ?_, fun h => ?_, fun h => ?_, fun h => ?_, fun h hlst => ?_, fun h hlst => ?_⟩
  · rw [hoff hd (doneInactive_lifts (hl.recovering h) h), finishLift_of_others fun hx => hlst (hlast.mp hx), hput]
    show Host.Outcome.next (finish (State.hand _ { s with episode := (e.setLine n _).setLine n _ })) = _
    rw [EpisodeRec.setLine_setLine]
  · refine ⟨_, hoff hd (doneInactive_lifts (hl.recovering h) h), ?_⟩
    obtain ⟨h1, h2, h3, h4⟩ := ended_finishLift (s := put { l with doneActive := false }) (n := n) (hl.recovering h) (hlast.mpr hlst)
    exact ⟨h1, h2.trans (by rw [hput]), h3, h4⟩
  · exact exec_own_nothing ha rfl (if_neg fun hc => not_some_of_none h hc.1)
  · exact exec_own_eq ha rfl (if_pos ⟨isSome_of_ne_none h, ((hl.lines n).park (isSome_of_ne_none h)).1⟩)
  · exact exec_own_nothing ha rfl (if_neg fun hc => not_some_of_none h hc.2)
  · exact hunpark h (finishLift_of_others hlst)
  · obtain ⟨h1, h2, h3, h4⟩ := ended_finishLift (hl.recovering h) hlst
    exact ⟨_, hunpark h rfl, h1, h2, h4, h3⟩

theorem episodeSystemOffClear_of_idle {s : State} (hs : s.episode.state = .idle) (hp : s.episode.protectPending = false) :
    episodeSystemOffClear s = { s with episode := clearedEpisode s.episode } := by
  refine if_neg fun hc => hc.elim (fun h => h hs) fun h => ?_
  rw [hp] at h
  cases h

theorem episodeSystemOffClear_of_open {s : State} (h : s.episode.state ≠ .idle ∨ s.episode.protectPending = true) :
    episodeSystemOffClear s = ({ s with episode := clearedEpisode s.episode }).handAll [.liftClaim, .releaseClaim, .episodeEndedNotice] :=
  if_pos h

theorem episodePartReset_of_parking {s : State} (h : s.episode.state = .protecting ∨ s.episode.state = .holding) :
    episodePartReset s = enterRecovering { s with episode := nothingHeld s.episode } := by
  rcases h with h | h <;> simp [episodePartReset, h]

theorem episodePartReset_of_pending {s : State} (hs : s.episode.state = .idle) (hp : s.episode.protectPending = true) :
    episodePartReset s = ({ s with episode := nothingHeld s.episode }).hand .liftClaim := by simp [episodePartReset, hs, hp]

theorem episodePartReset_of_other {s : State}
    (h : s.episode.state = .recovering ∨ (s.episode.state = .idle ∧ s.episode.protectPending = false)) : episodePartReset s = s := by
  rcases h with h | ⟨h, hp⟩
  · simp [episodePartReset, h]
  · simp [episodePartReset, h, hp]

/-- R167, R170: what the entry into RECOVERING leaves of the lines, the episode and what is handed over. -/
theorem enterRecovering_spec {s : State} (hl : EpisodeLaw s.episode) :
    let e := s.episode
    let u := enterRecovering s
    let now := (List.finRange 4).filter fun n : Line => e.lines[n].state != .idle && !e.lines[n].doneActive
    let ends := ∀ n : Line, e.lines[n].state = .idle ∨ e.lines[n].doneActive = false
    let claims := [.cutReturnClaim] ++ now.map Instr.lineReturnClaim ++
      if e.cls = .hard then [.requalify .bayA, .requalify .bayB] else []
    (∀ n : Line, (u.episode.lines[n]).requestOn = false ∧ (u.episode.lines[n]).parkTimer = none ∧
      (u.episode.lines[n]).doneActive = e.lines[n].doneActive ∧
      (e.lines[n].state = .idle ∨ e.lines[n].doneActive = false → (u.episode.lines[n]).state = .idle ∧
        (e.state ≠ .recovering → (u.episode.lines[n]).unparkTimer = none)) ∧
      (e.lines[n].state ≠ .idle → e.lines[n].doneActive = true →
        (u.episode.lines[n]).state = e.lines[n].state ∧ (u.episode.lines[n]).unparkTimer = some (ms 500))) ∧
    (¬ends → u.episode.state = .recovering ∧ u.handed = s.handed ++ claims) ∧
    (ends → u.episode.state = .idle ∧ Pending (.fall .recovered) u ∧
      u.handed = s.handed ++ claims ++ [.liftClaim, .releaseClaim, .episodeEndedNotice]) := by
  intro e u now ends claims
  refine ⟨fun n => ?_, fun h => ?_, fun h => ?_⟩
  · have hn := liftedLine_spec (hl.lines n)
    rwa [← enterRecovering_lines s n] at hn
  · have hu : u = _ := enterRecovering_of_some h
    rw [hu]
    exact ⟨rfl, rfl⟩
  · have hu : u = _ := enterRecovering_of_all h
    rw [hu]
    exact ⟨rfl, pending_raise_self _ _, rfl⟩

/-- Settles O56: the events of a line, RESUME, the resets and the entry into RECOVERING, each by its rule. -/
theorem parkLinesRecoveryAndEpisodeEnds : Obligations.ParkLinesRecoveryAndEpisodeEnds := by
  refine ⟨?events, fun s hl => enterRecovering_spec hl⟩
  intro s ha hl e
  refine ⟨fun n => lineEvents ha hl n, ?noResume, ?resume, ?clear, ?reset⟩
  case noResume => exact fun h => exec_plain_refused ha rfl (require_of_false (by simpa using h))
  case resume => exact fun h => exec_plain_eq ha rfl (require_of_true (by simpa using h))
  case clear =>
    intro hf m idle u
    exact ⟨fun hs hp => exec_claim_eq ha hf rfl (episodeSystemOffClear_of_idle (s := m) hs hp),
      fun h => exec_claim_eq ha hf rfl (episodeSystemOffClear_of_open (s := m) h)⟩
  case reset =>
    intro hf m none
    exact ⟨fun h => exec_claim_eq ha hf rfl (episodePartReset_of_parking (s := m) h),
      fun hs hp => exec_claim_eq ha hf rfl (episodePartReset_of_pending (s := m) hs hp),
      fun h => exec_claim_eq ha hf rfl (episodePartReset_of_other (s := m) h)⟩

end Sys2Proof.Machine
end

section
/-!
PROOFS. The resets and the state right after one: PART_RESET and the power-on reset (O60), the laws that hold there (O5) and the front of the queue
(O1).
-/
namespace Sys2Proof.Machine

/-! ### PART_RESET -/

/-- R203 step 2: the profile that the statement names is the one the model reloads. -/
theorem reloadedProfile_eq {st : StoreRec} {p : Profile} (hs : ∀ x, st.storing = some x → p = x.snapshot)
    (hn : st.storing = none → p = if st.storedOk then st.stored else defaultProfile) : reloadedProfile st = p := by
  unfold reloadedProfile
  cases h : st.storing with
  | none => exact (hn h).symm
  | some x => exact (hs x h).symm

theorem resetAttention_eq (st : StoreRec) (p : Profile) (a : AttentionRec) :
    resetAttention (reloadDefaults st) p a =
      if st.storing = none ∧ st.storedOk = false then
        ({ sets := Vector.replicate 30 0, masks := p.masks } : AttentionRec).raise (.part .profileDefaulted)
      else { sets := Vector.replicate 30 0, masks := p.masks } := by
  by_cases h : st.storing = none ∧ st.storedOk = false
  · rw [if_pos h]
    simp [resetAttention, reloadDefaults, h, AttentionRec.emptyAll]
  · rw [if_neg h]
    have hd : reloadDefaults st = false := by
      rw [← Bool.not_eq_true]
      simpa [reloadDefaults] using h
    simp [resetAttention, hd, AttentionRec.emptyAll]

theorem partReset_of_not_run {s : State} (h : s.system.state ≠ .run) : partResetRequest s = refuse .notRunning s :=
  require_of_false (by simpa using h)

theorem partReset_of_run {s : State} (h : s.system.state = .run) {p : Profile} (hp : reloadedProfile s.store = p) :
    partResetRequest s = (({ s with
      store := { s.store with working := p }
      attention := resetAttention (reloadDefaults s.store) p s.attention
      bridgeTests := s.bridgeTests ++ [false] }).handAll (partResetClaims p), okReply []) := by
  rw [← hp]
  exact require_of_true (by simpa using h)

/-! ### The power-on reset -/

theorem mem_inputEvents (x : ResetInputs) (c : Instr) : c ∈ inputEvents x ↔
    (x.contactA = true ∧ c = .contactMade .bayA) ∨ (x.contactB = true ∧ c = .contactMade .bayB) ∨
      (x.inletPresent = true ∧ c = .inletEvent true) := by
  cases hA : x.contactA <;> cases hB : x.contactB <;> cases hi : x.inletPresent <;> simp [inputEvents, hA, hB, hi]

theorem copyPasses_iff (st : StoreRec) : copyPasses st = true ↔ st.storedOk = true ∧ st.storing = none := by simp [copyPasses]

theorem attentionAfterReset_masks (st : StoreRec) : (attentionAfterReset st).masks = (storeAfterReset st).working.masks := by
  unfold attentionAfterReset
  dsimp only
  split <;> rfl

/-- R112, R199: nothing feeds a part that has just been reset. -/
theorem powerNow_powerOnState (x : ResetInputs) (s : State) : powerNow (powerOnState x s) = .gained := by
  rw [powerNow_of_gained rfl]
  rfl

/-- R199 step 2: a copy that passes its check is the profile. -/
theorem storeAfterReset_of_passes {st : StoreRec} (h : st.storedOk = true) (hn : st.storing = none) :
    (storeAfterReset st).working = st.stored ∧ (attentionAfterReset st).sets = Vector.replicate 30 0 := by
  have hc := (copyPasses_iff st).mpr ⟨h, hn⟩
  simp [storeAfterReset, attentionAfterReset, hc, attentionAtReset]

/-- R199 step 2, R202: a copy that fails its check, or that a store was writing, leaves the defaults. -/
theorem storeAfterReset_of_fails {st : StoreRec} (h : st.storedOk = false ∨ st.storing ≠ none) :
    (storeAfterReset st).working = defaultProfile ∧ (storeAfterReset st).storedOk = false ∧
      attentionAfterReset st = (attentionAtReset (storeAfterReset st).working).raise (.part .profileDefaulted) := by
  have hc : copyPasses st = false := by
    rw [← Bool.not_eq_true, copyPasses_iff]
    rintro ⟨ho, hn⟩
    exact h.elim (fun h => by rw [h] at ho; cases ho) fun h => h hn
  simp [storeAfterReset, attentionAfterReset, hc]

theorem pinsNow_reset : pinsNow State.reset = pinsAtReset := by decide

/-- The end of an event changes nothing of the state right after a reset. -/
theorem finish_reset (n : Nat) (cs : List Instr) :
    finish { State.reset with freeCount := n, pending := cs } = { State.reset with freeCount := n, pending := cs } := by
  have hp : pinsNow { State.reset with freeCount := n, pending := cs } = pinsAtReset := pinsNow_reset
  have hw : powerNow { State.reset with freeCount := n, pending := cs } = .gained := powerNow_powerOnState inputsAtReset State.reset
  show ({ State.reset with
    freeCount := n, pending := cs, pins := pinsNow { State.reset with freeCount := n, pending := cs }
    power := powerNow { State.reset with freeCount := n, pending := cs } } : State) = _
  rw [hp, hw]
  rfl

/-- R199: the reset of a part whose store is as it is delivered, the inputs holding nothing. -/
theorem powerOnState_delivered {s : State} (h : s.store = State.reset.store) :
    powerOnState inputsAtReset s = { State.reset with freeCount := s.freeCount, pending := s.pending } := by
  unfold powerOnState
  rw [h]
  rfl

/-- R199: everything that a power-on reset leaves. -/
theorem powerOnReset_spec (s : State) (x : ResetInputs) :
    let t := finish (powerOnState x s)
    t.power = .gained ∧
    t.store.stored = s.store.stored ∧ t.store.storing = none ∧
    (s.store.storedOk = true → s.store.storing = none → t.store.working = s.store.stored ∧
      t.attention.sets = Vector.replicate 30 0) ∧
    (s.store.storedOk = false ∨ s.store.storing ≠ none → t.store.working = defaultProfile ∧ t.store.storedOk = false ∧
      Pending (.part .profileDefaulted) t) ∧
    t.attention.masks = t.store.working.masks ∧ t.load = State.reset.load ∧ t.supply = State.reset.supply ∧
    t.bayA = { State.reset.bayA with leverInput := x.leverA, leverTaken := x.leverA, policy := t.store.working.policyA } ∧
    t.bayB = { State.reset.bayB with leverInput := x.leverB, leverTaken := x.leverB, policy := t.store.working.policyB } ∧
    t.light = { State.reset.light with
      curve := t.store.working.defaultCurve
      settings := { p0 := t.store.working.p0, pfull := t.store.working.pfull, minLevel := t.store.working.minLevel,
                    failsafeLevel := t.store.working.failsafeLevel } } ∧
    t.motion = { State.reset.motion with armed := t.store.working.armedAtStart } ∧
    (∀ n : Line, t.episode.lines[n] = { State.reset.episode.lines[n] with doneActive := x.done[n] }) ∧
    t.episode.state = .idle ∧ t.system.state = .dark ∧ t.system.buttonDown = x.buttonDown ∧
    t.system.pressReady = !x.buttonDown ∧ t.port = { strapHigh := x.strapHigh, reply := none, assembly := none } ∧
    (.contactMade .bayA ∈ t.handed ↔ x.contactA = true) ∧ (.contactMade .bayB ∈ t.handed ↔ x.contactB = true) ∧
    (.inletEvent true ∈ t.handed ↔ x.inletPresent = true) := by
  intro t
  refine ⟨powerNow_powerOnState x s, rfl, rfl, storeAfterReset_of_passes, fun h => ?_, attentionAfterReset_masks _, rfl, rfl, rfl, rfl, rfl, rfl,
    fun n => ?_, rfl, rfl, rfl, rfl, rfl, ?_, ?_, ?_⟩
  · obtain ⟨hw, ho, hatt⟩ := storeAfterReset_of_fails h
    refine ⟨hw, ho, ?_⟩
    show (attentionAfterReset s.store).sets[_] &&& _ ≠ 0
    rw [hatt]
    exact pending_raise_self (.part .profileDefaulted) { s with attention := attentionAtReset (storeAfterReset s.store).working }
  · show (episodeAtReset x.done).lines[n] = { (episodeAtReset inputsAtReset.done).lines[n] with doneActive := x.done[n] }
    simp [episodeAtReset, lineAtReset]
  · show _ ∈ inputEvents x ↔ _
    simp [mem_inputEvents]
  · show _ ∈ inputEvents x ↔ _
    simp [mem_inputEvents]
  · show _ ∈ inputEvents x ↔ _
    simp [mem_inputEvents]

/-- Settles O60: PART_RESET outside RUN and in it, the records of a power-on reset, and the delivered part. -/
theorem resetsReloadTheProfile : Obligations.ResetsReloadTheProfile := by
  refine ⟨fun s ha => ⟨fun h => exec_plain_refused ha rfl (partReset_of_not_run h), fun h p hs hn => ?_⟩,
    fun s x => ⟨_, rfl, powerOnReset_spec s x⟩, fun s h => ?_⟩
  · intro cleared a
    have hreq := partReset_of_run h (reloadedProfile_eq hs hn)
    rw [resetAttention_eq] at hreq
    exact exec_plain_eq ha rfl hreq
  · show Host.Outcome.next (finish (powerOnState inputsAtReset s)) = _
    rw [powerOnState_delivered h, finish_reset]

/-! ### The laws right after a reset -/

/-- Settles O5: each law holds behind every power-on reset, and the state right after one is such a state with its outputs written. -/
theorem lawsHoldAtReset : Obligations.LawsHoldAtReset := by
  have hsupply : SupplyLaw State.reset := laws_powerOnState inputsAtReset State.reset
  have hout : OutputsFollow State.reset := by
    have h := outputsFollow_finish State.reset
    rwa [show finish State.reset = State.reset from finish_reset 0 []] at h
  exact ⟨hout, hsupply.1, hsupply.2, tableLaw_loadAtReset, .inl rfl, lightLaw_lightAtReset _, motionLaw_motionAtReset _,
    episodeLaw_episodeAtReset _, ⟨by decide, by decide, fun x hx => (by cases hx), by decide, by decide, by decide⟩,
    by unfold ReasonsLaw; decide, by decide⟩

/-- Settles O1: a step on a queue that holds something is its front. -/
theorem stepRunsTheFront : Obligations.StepRunsTheFront := fun _ _ => rfl

end Sys2Proof.Machine
end

section
/-!
PROOFS. The backlight: one equation for each branch of a recomputed target, the curve, and the curve, panel and pin requests: O48 and O49.
-/
namespace Sys2Proof.Machine

/-! ### The requests (R121 to R124, R127, R128) -/

theorem curveSet_of_range {ps : List Point} (h : ps.all pointInRange = false) (s : State) :
    curveSetRequest ps s = refuse .badArgument s := require_of_false h

theorem curveSet_of_full {ps : List Point} (h : ps.all pointInRange = true) (hn : 12 < ps.length) (s : State) :
    curveSetRequest ps s = refuse .curveFull s :=
  (require_of_true h).trans (require_of_false (decide_eq_false (by simpa [curveLimit] using hn)))

theorem curveSet_of_fits {ps : List Point} (h : ps.all pointInRange = true) (hn : ps.length ≤ 12) (s : State) :
    curveSetRequest ps s = require (curveOrdered ps) .curveOrder s (replaceCurve ps s, okReply []) :=
  (require_of_true h).trans (require_of_true (decide_eq_true hn))

/-- R123: a point stands behind those of lower lux. -/
theorem insertPoint_eq {p : Point} {front back : List Point} (hf : ∀ q ∈ front, q.lux < p.lux) (hb : ∀ q ∈ back, p.lux ≤ q.lux) :
    insertPoint p (front ++ back) = front ++ p :: back := by
  have htake : back.takeWhile (fun q => decide (q.lux < p.lux)) = [] ∧ back.dropWhile (fun q => decide (q.lux < p.lux)) = back := by
    cases back with
    | nil => exact ⟨rfl, rfl⟩
    | cons q qs =>
      have hq : decide (q.lux < p.lux) = false := decide_eq_false (Nat.not_lt_of_le (hb q (by simp)))
      simp [hq]
  have hfront : ∀ q ∈ front, decide (q.lux < p.lux) = true := fun q hq => decide_eq_true (hf q hq)
  rw [insertPoint, List.takeWhile_append_of_pos hfront, List.dropWhile_append_of_pos hfront, htake.1, htake.2, List.append_nil]

theorem curveAdd_of_range {p : Point} (h : pointInRange p = false) (s : State) : curveAddRequest p s = refuse .badArgument s :=
  require_of_false h

theorem curveAdd_of_full {p : Point} {s : State} (h : pointInRange p = true) (hn : 12 ≤ s.light.curve.length) :
    curveAddRequest p s = refuse .curveFull s :=
  (require_of_true h).trans (require_of_false (decide_eq_false (Nat.not_lt_of_le hn)))

theorem curveAdd_of_fits {p : Point} {s : State} (h : pointInRange p = true) (hn : s.light.curve.length < 12) :
    curveAddRequest p s = require (curveOrdered (insertPoint p s.light.curve)) .curveOrder s
      (replaceCurve (insertPoint p s.light.curve) s, okReply []) :=
  (require_of_true h).trans (require_of_true (decide_eq_true hn))

theorem curveRemove_of_none {lux : Nat} {s : State} (h : ∀ q ∈ s.light.curve, q.lux ≠ lux) :
    curveRemoveRequest lux s = refuse .badArgument s := require_of_false (by simpa using h)

theorem curveRemove_of_some {q : Point} {s : State} (h : q ∈ s.light.curve) : curveRemoveRequest q.lux s =
    (replaceCurve (s.light.curve.filter fun x => x.lux != q.lux) s, okReply []) :=
  require_of_true (by simpa using ⟨q, h, rfl⟩)

theorem panel_of_range {n : Nat} (h : 2 ≤ n) (s : State) : panelRequest n s = refuse .badArgument s :=
  require_of_false (decide_eq_false (by omega))

theorem panel_of_bool (on : Bool) (s : State) : panelRequest on.toNat s = (setPanel on s, okReply []) := by cases on <;> rfl

theorem pin_of_range {level duration : Nat} (h : 1023 < level ∨ 3600 < duration) (s : State) :
    pinRequest level duration s = refuse .badArgument s := require_of_false (by simp; omega)

theorem pin_of_fits {level duration : Nat} (hl : level ≤ 1023) (hd : duration ≤ 3600) (s : State) :
    pinRequest level duration s = (setPin (some (newPin level duration)) s, okReply []) := require_of_true (by simp [hl, hd])

/-- Settles O48: each check of each request in its turn, and the change of the one that passes. -/
theorem curvePanelAndPinRequests : Obligations.CurvePanelAndPinRequests := by
  intro s ha done no
  have refused : ∀ {c st}, isPlainRequest c = true → requestChange c s = refuse st s → exec c s = no st := fun hc h =>
    exec_plain_refused ha hc h
  have accepted : ∀ {c r}, isPlainRequest c = true → requestChange c s = (retarget { s with light := r }, okReply []) → exec c s = done r :=
    fun hc h => exec_plain_eq ha hc h
  refine ⟨fun ps => ⟨fun h => refused rfl (curveSet_of_range h s), fun h hn => refused rfl (curveSet_of_full h hn s), fun h hn ho => ?_,
    fun h hn ho => ?_⟩, fun p front back hsplit hf hb => ⟨fun h => refused rfl (curveAdd_of_range h s),
    fun h hn => refused rfl (curveAdd_of_full h hn), fun h hn ho => ?_, fun h hn ho => ?_⟩,
    fun lux h => refused rfl (curveRemove_of_none h), fun q hq => accepted rfl (curveRemove_of_some hq),
    fun n h => refused rfl (panel_of_range h s), fun on h => ?_, fun on h => ?_,
    fun level duration h => refused rfl (pin_of_range h s), fun level duration hl hd => accepted rfl (pin_of_fits hl hd s),
    fun h => refused rfl (require_of_false (by simp [h])), fun h => accepted rfl (require_of_true (isSome_of_ne_none h))⟩
  · exact refused rfl ((curveSet_of_fits h hn s).trans (require_of_false ho))
  · exact accepted rfl ((curveSet_of_fits h hn s).trans (require_of_true ho))
  · have hins := hsplit ▸ insertPoint_eq hf hb
    exact refused rfl ((curveAdd_of_fits h hn).trans (require_of_false (hins.symm ▸ ho)))
  · have hins := hsplit ▸ insertPoint_eq hf hb
    have hadd := (curveAdd_of_fits h hn).trans (require_of_true (hins.symm ▸ ho))
    rw [hins] at hadd
    exact accepted rfl hadd
  · exact exec_plain_eq ha (by cases on <;> rfl) ((panel_of_bool on s).trans (by rw [setPanel, if_pos h.symm]))
  · exact accepted (by cases on <;> rfl) ((panel_of_bool on s).trans (by rw [setPanel, if_neg (Ne.symm h)]))

/-! ### The target (R125) -/

theorem targetOf_of_off {dark : Bool} {r : LightRec} (h : r.panelOn = false ∨ dark = true) : targetOf dark r = (0, .off) := by
  rcases h with h | h <;> simp [targetOf, h]

theorem targetOf_of_pin {r : LightRec} (h : r.panelOn = true) {pin : Pin} (hp : r.pin = some pin) :
    targetOf false r = (pin.level, .pin) := by simp [targetOf, h, hp]

theorem targetOf_of_failsafe {r : LightRec} (h : r.panelOn = true) (hp : r.pin = none) (he : r.estimate = none ∨ r.curve = []) :
    targetOf false r = (r.settings.failsafeLevel, .failsafe) := by
  rcases he with he | he
  · simp [targetOf, h, hp, he]
  · cases hx : r.estimate <;> simp [targetOf, h, hp, he, hx]

theorem targetOf_of_curve {r : LightRec} (h : r.panelOn = true) (hp : r.pin = none) {lux : Nat} (he : r.estimate = some lux)
    (hc : r.curve ≠ []) : targetOf false r = (curveLevel r.curve lux, .curve) := by simp [targetOf, h, hp, he, hc]

theorem systemDark_iff (s : State) : systemDark s = true ↔ s.system.state = .dark := by simp [systemDark]

theorem systemDark_eq_false {s : State} (h : s.system.state ≠ .dark) : systemDark s = false :=
  Bool.eq_false_iff.mpr fun hd => h ((systemDark_iff s).mp hd)

/-- R125: a pair of a target and its source is what the table gives a record. -/
def FollowsTable (s : State) (x : Nat × TargetSource) : Prop :=
  let r := s.light
  (r.panelOn = false ∨ s.system.state = .dark → x.1 = 0 ∧ x.2 = .off) ∧
  (r.panelOn = true → s.system.state ≠ .dark →
    (∀ pin, r.pin = some pin → x.1 = pin.level ∧ x.2 = .pin) ∧
    (r.pin = none → r.estimate = none ∨ r.curve = [] → x.1 = r.settings.failsafeLevel ∧ x.2 = .failsafe) ∧
    (∀ lux, r.pin = none → r.estimate = some lux → r.curve ≠ [] → x.1 = curveLevel r.curve lux ∧ x.2 = .curve))

theorem followsTable_targetOf (s : State) : FollowsTable s (targetOf (systemDark s) s.light) := by
  refine ⟨fun h => ?_, fun h hd => ⟨fun pin hp => ?_, fun hp he => ?_, fun lux hp he hc => ?_⟩⟩
  · rw [targetOf_of_off (h.imp_right (systemDark_iff s).mpr)]
    exact ⟨rfl, rfl⟩
  · rw [systemDark_eq_false hd, targetOf_of_pin h hp]
    exact ⟨rfl, rfl⟩
  · rw [systemDark_eq_false hd, targetOf_of_failsafe h hp he]
    exact ⟨rfl, rfl⟩
  · rw [systemDark_eq_false hd, targetOf_of_curve h hp he hc]
    exact ⟨rfl, rfl⟩

/-! ### The pair and the capped test (R130, R132) -/

theorem formPair_of_flight {s : State} (h : s.light.inFlight = true) :
    formPair s = { s with light := { s.light with nextClaim := some (pairOf s.light) } } := by simp [formPair, h]

theorem formPair_of_same {s : State} (h : s.light.inFlight = false) (hp : pairOf s.light = s.light.claimSent) : formPair s = s := by
  simp [formPair, h, hp]

theorem formPair_of_new {s : State} (h : s.light.inFlight = false) (hp : pairOf s.light ≠ s.light.claimSent) :
    formPair s = sendClaim (pairOf s.light) s := by simp [formPair, h, hp]

theorem capTest_of_flight {s : State} (h : s.light.inFlight = true) : capTest s = s := by simp [capTest, h]

/-- R132: the capped test, no claim in flight. -/
theorem capTest_of_rest {s : State} (h : s.light.inFlight = false) :
    (capTest s).light = { s.light with capped := decide (s.light.cap < s.light.target) } ∧ (capTest s).handed = s.handed ∧
      (s.light.capped = false → s.light.cap < s.light.target → Pending (.light .capped) (capTest s)) := by
  by_cases hc : s.light.cap < s.light.target
  · cases hk : s.light.capped with
    | true =>
      have ht : capTest s = s := by simp [capTest, h, hc, hk]
      rw [ht, decide_eq_true hc, ← hk]
      exact ⟨rfl, rfl, fun hx => absurd (hk.symm.trans hx) (by decide)⟩
    | false =>
      have ht : capTest s = ({ s with light := { s.light with capped := true } }).raise (.light .capped) := by simp [capTest, h, hc, hk]
      rw [ht, decide_eq_true hc]
      exact ⟨rfl, rfl, fun _ _ => pending_raise_self _ _⟩
  · have ht : capTest s = { s with light := { s.light with capped := false } } := by simp [capTest, h, hc]
    rw [ht, decide_eq_false hc]
    exact ⟨rfl, rfl, fun _ hx => absurd hx hc⟩

/-- What a pair formed and tested leaves of a record: the claims, the capped flag and what is handed over. -/
structure PairFormed (s t : State) : Prop where
  flight : s.light.inFlight = true →
    t.light = { s.light with nextClaim := some (pairOf s.light) } ∧ t.handed = s.handed
  sent : s.light.inFlight = false → pairOf s.light ≠ s.light.claimSent →
    t.light = { s.light with claimSent := pairOf s.light, inFlight := true } ∧
      t.handed = s.handed ++ [.slot0Claim (pairOf s.light).requested (pairOf s.light).minimum]
  passed : s.light.inFlight = false → pairOf s.light = s.light.claimSent →
    t.light = { s.light with capped := decide (s.light.cap < s.light.target) } ∧ t.handed = s.handed ∧
      (s.light.capped = false → s.light.cap < s.light.target → Pending (.light .capped) t)

theorem pairFormed (s : State) : PairFormed s (capTest (formPair s)) where
  flight h := by
    rw [formPair_of_flight h,
      capTest_of_flight (s := { s with light := { s.light with nextClaim := some (pairOf s.light) } }) h]
    exact ⟨rfl, rfl⟩
  sent h hp := by
    rw [formPair_of_new h hp, capTest_of_flight rfl]
    exact ⟨rfl, rfl⟩
  passed h hp := by
    rw [formPair_of_same h hp]
    exact capTest_of_rest h

/-- What neither the pair nor the capped test touches. -/
structure SameBacklight (r r' : LightRec) : Prop where
  panelOn : r'.panelOn = r.panelOn
  front : r'.front = r.front
  rear : r'.rear = r.rear
  window : r'.window = r.window
  estimate : r'.estimate = r.estimate
  curve : r'.curve = r.curve
  pin : r'.pin = r.pin
  target : r'.target = r.target
  source : r'.source = r.source
  grantTaken : r'.grantTaken = r.grantTaken
  cap : r'.cap = r.cap
  destination : r'.destination = r.destination
  output : r'.output = r.output
  ramp : r'.ramp = r.ramp
  stepTimer : r'.stepTimer = r.stepTimer
  freeze : r'.freeze = r.freeze
  readTimer : r'.readTimer = r.readTimer
  settings : r'.settings = r.settings

theorem PairFormed.same {s t : State} (h : PairFormed s t) : SameBacklight s.light t.light := by
  have hall : ∀ next sent flight capped, SameBacklight s.light { s.light with
      nextClaim := next, claimSent := sent, inFlight := flight, capped := capped } := fun _ _ _ _ =>
    ⟨rfl, rfl, rfl, rfl, rfl, rfl, rfl, rfl, rfl, rfl, rfl, rfl, rfl, rfl, rfl, rfl, rfl, rfl⟩
  cases hf : s.light.inFlight with
  | true =>
    rw [(h.flight hf).1]
    exact hall _ _ _ _
  | false =>
    by_cases hp : pairOf s.light = s.light.claimSent
    · rw [(h.passed hf hp).1]
      exact hall _ _ _ _
    · rw [(h.sent hf hp).1]
      exact hall _ _ _ _

/-! ### The recomputed target -/

/-- R125: the record in which the pair of a new target is formed. -/
def aimed (s : State) : State := { s with light := aim (retargeted s) }

theorem refreshTarget_eq (s : State) : refreshTarget s = capTest (formPair (aimed s)) := rfl

theorem retarget_of_same {s : State} (h : (retargeted s).target = s.light.target) : retarget s = { s with light := retargeted s } := if_pos h

theorem retarget_of_new {s : State} (h : (retargeted s).target ≠ s.light.target) : retarget s = refreshTarget s := if_neg h

theorem pairFormed_refreshTarget (s : State) : PairFormed (aimed s) (refreshTarget s) := pairFormed (aimed s)

/-- The target and the source behind a recomputation are those of the table. -/
theorem retarget_target (s : State) : ((retarget s).light.target, (retarget s).light.source) = targetOf (systemDark s) s.light := by
  by_cases h : (retargeted s).target = s.light.target
  · rw [retarget_of_same h]
    rfl
  · have hs := (pairFormed_refreshTarget s).same
    rw [retarget_of_new h, hs.target, hs.source]
    rfl

/-- R125, R130, R132: a recomputed target and what follows from it. -/
theorem retarget_spec (s : State) :
    let t := retarget s
    let r := s.light
    let p := r.settings
    let pair : Claim := { requested := powerOf p t.light.target, minimum := min (powerOf p p.minLevel) (powerOf p t.light.target) }
    (t.light.target = r.target → t = { s with light := { r with source := t.light.source } }) ∧
    (t.light.target ≠ r.target → t.light.destination = min t.light.target r.cap ∧ t.light.output = r.output ∧
      t.light.ramp = rampOf r.output t.light.destination ∧
      (r.inFlight = true → t.light.nextClaim = some pair ∧ t.light.claimSent = r.claimSent ∧ t.light.inFlight = true ∧
        t.light.capped = r.capped ∧ t.handed = s.handed) ∧
      (r.inFlight = false → pair ≠ r.claimSent → t.light.claimSent = pair ∧ t.light.inFlight = true ∧
        t.light.capped = r.capped ∧ t.handed = s.handed ++ [.slot0Claim pair.requested pair.minimum]) ∧
      (r.inFlight = false → pair = r.claimSent → t.light.inFlight = false ∧ t.handed = s.handed ∧
        t.light.capped = decide (r.cap < t.light.target) ∧
        (r.capped = false → r.cap < t.light.target → Pending (.light .capped) t))) := by
  intro t r p pair
  by_cases h : (retargeted s).target = s.light.target
  · have ht : t = { s with light := retargeted s } := retarget_of_same h
    refine ⟨fun _ => ?_, fun hne => absurd (by rw [ht]; exact h) hne⟩
    rw [ht]
    show ({ s with light := { s.light with target := (retargeted s).target, source := (retargeted s).source } } : State) = _
    rw [h]
  · have ht : t = refreshTarget s := retarget_of_new h
    have hf := pairFormed_refreshTarget s
    rw [← ht] at hf
    have hsame := hf.same
    have htarget : t.light.target = (retargeted s).target := hsame.target
    have hpair : pairOf (aimed s).light = pair := by
      show ({ requested := powerOf p (retargeted s).target
              minimum := min (powerOf p p.minLevel) (powerOf p (retargeted s).target) } : Claim) = pair
      rw [← htarget]
    refine ⟨fun he => absurd (htarget.symm.trans he) h, fun _ => ⟨?_, hsame.output, ?_, fun hi => ?_, fun hi hp => ?_, fun hi hp => ?_⟩⟩
    · rw [hsame.destination, htarget]
      rfl
    · rw [hsame.ramp, hsame.destination]
      rfl
    · obtain ⟨hl, hh⟩ := hf.flight hi
      rw [hpair] at hl
      rw [hl]
      exact ⟨rfl, rfl, hi, rfl, hh⟩
    · obtain ⟨hl, hh⟩ := hf.sent hi (by rw [hpair]; exact hp)
      rw [hpair] at hl hh
      rw [hl]
      exact ⟨rfl, rfl, rfl, hh⟩
    · obtain ⟨hl, hh, hk⟩ := hf.passed hi (by rw [hpair]; exact hp)
      refine ⟨by rw [hl]; exact hi, hh, by rw [htarget, hl]; rfl, fun hc hlt => hk hc (htarget ▸ hlt)⟩

/-! ### The curve -/

theorem curveOrdered_cons (a : Point) (ps : List Point) :
    curveOrdered (a :: ps) = true ↔ (∀ b ∈ ps, a.lux < b.lux ∧ a.level ≤ b.level) ∧ curveOrdered ps = true := by
  induction ps generalizing a with
  | nil => simp [curveOrdered]
  | cons b rest ih =>
    simp only [curveOrdered, Bool.and_eq_true, decide_eq_true_eq, List.forall_mem_cons]
    constructor
    · rintro ⟨⟨hlux, hlevel⟩, hrest⟩
      exact ⟨⟨⟨hlux, hlevel⟩, fun c hc =>
        ⟨Nat.lt_trans hlux (((ih b).mp hrest).1 c hc).1, Nat.le_trans hlevel (((ih b).mp hrest).1 c hc).2⟩⟩, hrest⟩
    · rintro ⟨⟨hb, -⟩, hrest⟩
      exact ⟨hb, hrest⟩

/-- R121: a curve in order is one in which every point stands before those of greater lux and no lower level. -/
theorem curveOrdered_iff (ps : List Point) :
    curveOrdered ps = true ↔ ps.Pairwise fun a b => a.lux < b.lux ∧ a.level ≤ b.level := by
  induction ps with
  | nil => simp [curveOrdered]
  | cons a ps ih => rw [curveOrdered_cons, List.pairwise_cons, ih]

theorem curveLevel_below {a : Point} {lux : Nat} (h : lux ≤ a.lux) (rest : List Point) : curveLevel (a :: rest) lux = a.level := by
  cases rest with
  | nil => rfl
  | cons b rest => simp [curveLevel, h]

/-- R125: the points that lie below the estimate do not count. -/
theorem curveLevel_append {front back : List Point} {a : Point} {lux : Nat} (ho : curveOrdered (front ++ a :: back) = true)
    (h : a.lux ≤ lux) : curveLevel (front ++ a :: back) lux = curveLevel (a :: back) lux := by
  induction front with
  | nil => rfl
  | cons b front ih =>
    obtain ⟨hb, hrest⟩ := (curveOrdered_cons _ _).mp ho
    rw [← ih hrest]
    have hba : b.lux < lux := Nat.lt_of_lt_of_le (hb a (by simp)).1 h
    obtain ⟨c, rest, hc, hle⟩ : ∃ c rest, front ++ a :: back = c :: rest ∧ c.lux ≤ lux := by
      cases front with
      | nil => exact ⟨a, back, rfl, h⟩
      | cons c rest =>
        have hca := (((curveOrdered_cons _ _).mp hrest).1 a (by simp)).1
        exact ⟨c, rest ++ a :: back, rfl, Nat.le_trans (Nat.le_of_lt hca) h⟩
    rw [List.cons_append, hc]
    simp [curveLevel, Nat.not_le_of_lt hba, Nat.not_lt_of_le hle]

theorem curveLevel_between {a b : Point} {lux : Nat} (ha : a.lux < lux) (hb : lux < b.lux) (rest : List Point) :
    curveLevel (a :: b :: rest) lux = a.level + (b.level - a.level) * (lux - a.lux) / (b.lux - a.lux) := by
  simp [curveLevel, Nat.not_le_of_lt ha, hb, interpolate]

/-- Settles O49: the table of R125, what follows from a target that has changed and from one that has not, and the curve between its points. -/
theorem targetFollowsItsTableAndCurve : Obligations.TargetFollowsItsTableAndCurve := by
  refine ⟨fun s => ?_, fun ps ho => ⟨fun q hq => ?_, fun q rest lux hps h => ?_, fun q front lux hps h => ?_,
    fun a b front back lux hps h1 h2 => ?_⟩⟩
  · intro t r p pair
    have hx : FollowsTable s (t.light.target, t.light.source) := retarget_target s ▸ followsTable_targetOf s
    exact ⟨hx.1, hx.2, (retarget_spec s).1, (retarget_spec s).2⟩
  · obtain ⟨front, back, rfl⟩ := List.append_of_mem hq
    rw [curveLevel_append ho (Nat.le_refl _), curveLevel_below (Nat.le_refl _)]
  · rw [hps, curveLevel_below h]
  · subst hps
    rw [curveLevel_append ho h]
    rfl
  · subst hps
    rw [curveLevel_append ho (Nat.le_of_lt h1), curveLevel_between h1 h2]

end Sys2Proof.Machine
end

section
/-!
PROOFS. The backlight's events: what an operation adds to the hand-overs and to the attention, the sensors, the window and the estimate: O50.
-/
namespace Sys2Proof.Machine

/-! ### What an operation adds -/

/-- An operation hands over behind what stands there, and raises; it takes nothing and clears nothing. -/
structure Grows (s t : State) : Prop where
  handed : s.handed <+: t.handed
  attention : ∃ as : List Attention, t.attention = as.foldl (fun x a => x.raise a) s.attention

theorem Grows.same {s t : State} (hh : t.handed = s.handed) (hr : t.attention = s.attention) : Grows s t :=
  ⟨⟨[], by rw [hh, List.append_nil]⟩, [], hr⟩

theorem Grows.refl (s : State) : Grows s s := .same rfl rfl

theorem Grows.trans {s t u : State} (h : Grows s t) (k : Grows t u) : Grows s u := by
  obtain ⟨as, ha⟩ := h.attention
  obtain ⟨bs, hb⟩ := k.attention
  exact ⟨h.handed.trans k.handed, as ++ bs, by rw [hb, ha, List.foldl_append]⟩

theorem Grows.ite {s t u : State} {p : Prop} [Decidable p] (h : Grows s t) (k : Grows s u) : Grows s (if p then t else u) := by
  split
  · exact h
  · exact k

theorem Grows.hand (c : Instr) (s : State) : Grows s (s.hand c) := ⟨⟨[c], rfl⟩, [], rfl⟩

theorem Grows.raise (a : Attention) (s : State) : Grows s (s.raise a) := ⟨⟨[], List.append_nil _⟩, [a], rfl⟩

theorem Grows.light (r : LightRec) (s : State) : Grows s { s with light := r } := .same rfl rfl

theorem Grows.mem {s t : State} (h : Grows s t) {c : Instr} (hc : c ∈ s.handed) : c ∈ t.handed := h.handed.subset hc

theorem Grows.pending {s t : State} (h : Grows s t) {a : Attention} (ha : Pending a s) : Pending a t := by
  obtain ⟨as, has⟩ := h.attention
  have hp := pending_raiseAll_of_pending as ha
  unfold Pending at hp ⊢
  rw [State.raiseAll_attention] at hp
  rwa [has]

theorem grows_formPair (s : State) : Grows s (formPair s) := by
  cases h : s.light.inFlight with
  | true =>
    rw [formPair_of_flight h]
    exact .same rfl rfl
  | false =>
    by_cases hp : pairOf s.light = s.light.claimSent
    · rw [formPair_of_same h hp]
      exact .refl s
    · rw [formPair_of_new h hp]
      exact (Grows.light _ s).trans (.hand _ _)

theorem grows_capTest (s : State) : Grows s (capTest s) :=
  .ite (.refl s) (.ite (.ite (.refl s) ((Grows.light _ s).trans (.raise _ _))) (.same rfl rfl))

theorem grows_refreshTarget (s : State) : Grows s (refreshTarget s) :=
  ((Grows.light _ s).trans (grows_formPair (aimed s))).trans (grows_capTest _)

theorem grows_retarget (s : State) : Grows s (retarget s) := .ite (.same rfl rfl) (grows_refreshTarget s)

/-! ### A recomputed target and what it leaves -/

/-- What no recomputation of the target touches. -/
structure SameReadings (r r' : LightRec) : Prop where
  panelOn : r'.panelOn = r.panelOn
  front : r'.front = r.front
  rear : r'.rear = r.rear
  window : r'.window = r.window
  estimate : r'.estimate = r.estimate
  curve : r'.curve = r.curve
  pin : r'.pin = r.pin
  grantTaken : r'.grantTaken = r.grantTaken
  cap : r'.cap = r.cap
  output : r'.output = r.output
  freeze : r'.freeze = r.freeze
  readTimer : r'.readTimer = r.readTimer
  settings : r'.settings = r.settings

theorem SameReadings.refl (r : LightRec) : SameReadings r r :=
  ⟨rfl, rfl, rfl, rfl, rfl, rfl, rfl, rfl, rfl, rfl, rfl, rfl, rfl⟩

theorem sameReadings_refreshTarget (s : State) : SameReadings s.light (refreshTarget s).light := by
  have h := (pairFormed_refreshTarget s).same
  exact ⟨h.panelOn, h.front, h.rear, h.window, h.estimate, h.curve, h.pin, h.grantTaken, h.cap, h.output, h.freeze, h.readTimer, h.settings⟩

theorem sameReadings_retarget (s : State) : SameReadings s.light (retarget s).light := by
  by_cases h : (retargeted s).target = s.light.target
  · rw [retarget_of_same h]
    exact ⟨rfl, rfl, rfl, rfl, rfl, rfl, rfl, rfl, rfl, rfl, rfl, rfl, rfl⟩
  · rw [retarget_of_new h]
    exact sameReadings_refreshTarget s

theorem targetFollows_iff (s : State) : TargetFollows s ↔ FollowsTable s (s.light.target, s.light.source) := Iff.rfl

/-- The row of the table that applies is found in what a recomputation leaves. -/
theorem FollowsTable.congr {s t : State} {x : Nat × TargetSource} (h : FollowsTable s x) (hr : SameReadings s.light t.light)
    (hs : t.system = s.system) : FollowsTable t x := by
  unfold FollowsTable at h ⊢
  dsimp only at h ⊢
  rw [hs, hr.panelOn, hr.pin, hr.estimate, hr.curve, hr.settings]
  exact h

theorem refreshTarget_target (s : State) :
    ((refreshTarget s).light.target, (refreshTarget s).light.source) = targetOf (systemDark s) s.light := by
  have hs := (pairFormed_refreshTarget s).same
  rw [hs.target, hs.source]
  rfl

theorem targetFollows_refreshTarget (s : State) : TargetFollows (finish (refreshTarget s)) := by
  rw [targetFollows_iff, finish_light, refreshTarget_target]
  exact (followsTable_targetOf s).congr (sameReadings_refreshTarget s) (changes_refreshTarget s .system (by decide))

theorem targetFollows_retarget (s : State) : TargetFollows (finish (retarget s)) := by
  rw [targetFollows_iff, finish_light, retarget_target]
  exact (followsTable_targetOf s).congr (sameReadings_retarget s) (changes_retarget s .system (by decide))

/-! ### The sensors (R116 to R118) -/

theorem goodRead_of_le {v : Nat} (h : v ≤ 131071) : goodRead (some v) = some v := by simp [goodRead, luxLimit, h]

theorem goodRead_of_bad {reading : Option Nat} (h : ∀ v, reading = some v → 131071 < v) : goodRead reading = none := by
  cases reading with
  | none => rfl
  | some v =>
    have hv : luxLimit < v := h v rfl
    simp [goodRead, hv]

theorem readSensor_of_good {v : Nat} (h : v ≤ 131071) (x : Sensor) :
    readSensor (some v) x = { failed := false, failedReads := 0, last := some v } := by simp [readSensor, goodRead_of_le h]

theorem readSensor_of_bad {reading : Option Nat} (h : ∀ v, reading = some v → 131071 < v) (x : Sensor) : readSensor reading x =
    if x.failed then x else { x with failedReads := x.failedReads + 1, failed := decide (3 ≤ x.failedReads + 1) } := by
  simp [readSensor, goodRead_of_bad h]

theorem sensorFails_iff (reading : Option Nat) (x : Sensor) :
    sensorFails reading x = true ↔ x.failed = false ∧ (readSensor reading x).failed = true := by simp [sensorFails]

theorem effective_of_reading {p : Profile} {front rear : Option Nat} {v : Nat}
    (h : (∃ f r, front = some f ∧ rear = some r ∧ f ≤ 131071 ∧ r ≤ 131071 ∧ v = max f (r * p.rearFactor / 16)) ∨
      (front = some v ∧ v ≤ 131071 ∧ ∀ r, rear = some r → 131071 < r) ∨
      (∃ r, rear = some r ∧ r ≤ 131071 ∧ v = r * p.rearFactor / 16 ∧ ∀ f, front = some f → 131071 < f)) :
    effective p front rear = some v := by
  rcases h with ⟨f, r, rfl, rfl, hf, hr, rfl⟩ | ⟨rfl, hv, hr⟩ | ⟨r, rfl, hr, rfl, hf⟩
  · simp [effective, goodRead_of_le hf, goodRead_of_le hr, scaledRear]
  · simp [effective, goodRead_of_le hv, goodRead_of_bad hr]
  · simp [effective, goodRead_of_le hr, goodRead_of_bad hf, scaledRear]

theorem effective_of_none {p : Profile} {front rear : Option Nat} (hf : ∀ f, front = some f → 131071 < f)
    (hr : ∀ r, rear = some r → 131071 < r) : effective p front rear = none := by
  simp [effective, goodRead_of_bad hf, goodRead_of_bad hr]

/-! ### The window and the estimate (R119, R120) -/

theorem joinWindow_eq (v : Nat) (w : List Nat) : joinWindow v w = (w ++ [v]).drop (w.length + 1 - 20) := by
  unfold joinWindow
  split
  · rw [List.drop_append_of_le_length (by omega)]
    rfl
  · rw [show w.length + 1 - 20 = 0 by omega]
    rfl

theorem riseCandidate_append (old : List Nat) (x y z : Nat) : riseCandidate (old ++ [x, y, z]) = some (min x (min y z)) := by
  simp [riseCandidate, leastOf, Nat.min_assoc]

theorem riseCandidate_of_short {w : List Nat} (h : w.length < 3) : riseCandidate w = none := by
  unfold riseCandidate
  rw [if_neg (by omega)]

theorem exists_of_length_three {l : List Nat} (h : l.length = 3) : ∃ x y z, l = [x, y, z] := by
  match l, h with
  | [x, y, z], _ => exact ⟨x, y, z, rfl⟩

/-- A window of three readings or more has a last three. -/
theorem exists_lastThree {w : List Nat} (h : 3 ≤ w.length) : ∃ old x y z, w = old ++ [x, y, z] := by
  have hlen : (w.drop (w.length - 3)).length = 3 := by rw [List.length_drop]; omega
  obtain ⟨x, y, z, hxyz⟩ := exists_of_length_three hlen
  exact ⟨w.take (w.length - 3), x, y, z, by rw [← hxyz, List.take_append_drop]⟩

theorem foldl_max_le_iff (vs : List Nat) (a n : Nat) : vs.foldl max a ≤ n ↔ a ≤ n ∧ ∀ x ∈ vs, x ≤ n := by
  induction vs generalizing a with
  | nil => simp
  | cons v vs ih => simp [ih, Nat.max_le, and_assoc]

theorem greatestOf_le_iff (vs : List Nat) (n : Nat) : greatestOf vs ≤ n ↔ ∀ x ∈ vs, x ≤ n := by simp [greatestOf, foldl_max_le_iff]

theorem le_greatestOf {vs : List Nat} {g : Nat} (h : g ∈ vs) : g ≤ greatestOf vs := (greatestOf_le_iff vs _).mp (Nat.le_refl _) g h

theorem greatestOf_eq {vs : List Nat} {g : Nat} (h : g ∈ vs) (hall : ∀ x ∈ vs, x ≤ g) : greatestOf vs = g :=
  Nat.le_antisymm ((greatestOf_le_iff vs g).mpr hall) (le_greatestOf h)

/-- R120: the estimate is unknown, or below the least of the last three readings: it moves up. -/
theorem newEstimate_of_rise {old : List Nat} {x y z : Nat} {estimate : Option Nat}
    (h : estimate = none ∨ ∃ e, estimate = some e ∧ e < min x (min y z)) :
    newEstimate (old ++ [x, y, z]) estimate = some (min x (min y z)) := by
  rcases h with rfl | ⟨e, rfl, he⟩
  · exact riseCandidate_append old x y z
  · simp only [newEstimate, riseCandidate_append, if_pos he]

/-- R120: no rise, and the estimate stands or falls by the greatest of the window. -/
theorem newEstimate_of_noRise {w : List Nat} {e : Nat} (h : ∀ old x y z, w = old ++ [x, y, z] → min x (min y z) ≤ e) :
    newEstimate w (some e) = if 20 ≤ w.length ∧ greatestOf w < e then some (greatestOf w) else some e := by
  by_cases hlen : 3 ≤ w.length
  · obtain ⟨old, x, y, z, rfl⟩ := exists_lastThree hlen
    simp only [newEstimate, riseCandidate_append]
    rw [if_neg (Nat.not_lt.mpr (h old x y z rfl))]
  · simp only [newEstimate, riseCandidate_of_short (Nat.not_le.mp hlen)]
    rw [if_neg (by omega)]

theorem newEstimate_of_fall {w : List Nat} {e g : Nat} (hlen : w.length = 20) (hg : g ∈ w) (hall : ∀ x ∈ w, x ≤ g) (hlt : g < e) :
    newEstimate w (some e) = some g := by
  have hgreatest := greatestOf_eq hg hall
  rw [newEstimate_of_noRise, hgreatest, if_pos ⟨Nat.le_of_eq hlen.symm, hlt⟩]
  rintro old x y z rfl
  have hx := hall x (by simp)
  omega

theorem newEstimate_of_stay {w : List Nat} {e : Nat} (h : ∀ old x y z, w = old ++ [x, y, z] → min x (min y z) ≤ e)
    (hw : w.length < 20 ∨ ∃ g ∈ w, e ≤ g) : newEstimate w (some e) = some e := by
  rw [newEstimate_of_noRise h, if_neg]
  rintro ⟨hlen, hlt⟩
  rcases hw with hw | ⟨g, hg, he⟩
  · omega
  · have := le_greatestOf hg
    omega

/-! ### The read event (R116) -/

/-- The sensors and the read timer after a read event, before the window moves. -/
def sensed (front rear : Option Nat) (r : LightRec) : LightRec :=
  { r with front := readSensor front r.front, rear := readSensor rear r.rear, readTimer := some (ms 100) }

theorem readLight_of_frozen {p : Profile} {front rear : Option Nat} {r : LightRec} (h : r.freeze = true) :
    readLight p front rear r = sensed front rear r := if_pos h

theorem readLight_of_reading {p : Profile} {front rear : Option Nat} {r : LightRec} (h : r.freeze = false) {v : Nat}
    (hv : effective p front rear = some v) : readLight p front rear r =
      { sensed front rear r with window := joinWindow v r.window, estimate := newEstimate (joinWindow v r.window) r.estimate } := by
  have ht : readLight p front rear r = takeReading p front rear (sensed front rear r) := if_neg (by simp [h])
  rw [ht, takeReading, hv]
  rfl

theorem readLight_of_none {p : Profile} {front rear : Option Nat} {r : LightRec} (h : r.freeze = false)
    (hv : effective p front rear = none) : readLight p front rear r =
      if ((sensed front rear r).front.failed && (sensed front rear r).rear.failed) = true then
        { sensed front rear r with window := [], estimate := none }
      else sensed front rear r := by
  have ht : readLight p front rear r = takeReading p front rear (sensed front rear r) := if_neg (by simp [h])
  rw [ht, takeReading, hv]

/-- Whatever the readings are, a read event leaves the sensors read and everything but the window and the estimate as it was. -/
theorem readLight_eq (p : Profile) (front rear : Option Nat) (r : LightRec) :
    ∃ window estimate, readLight p front rear r = { sensed front rear r with window := window, estimate := estimate } := by
  cases hf : r.freeze with
  | true => exact ⟨r.window, r.estimate, readLight_of_frozen hf⟩
  | false =>
    cases hv : effective p front rear with
    | some v => exact ⟨_, _, readLight_of_reading hf hv⟩
    | none =>
      rw [readLight_of_none hf hv]
      split
      · exact ⟨_, _, rfl⟩
      · exact ⟨r.window, r.estimate, rfl⟩

/-- The record read and SENSOR_FAIL raised, before the target follows. -/
def heardSensors (front rear : Option Nat) (s : State) : State :=
  let s1 := { s with light := readLight s.profile front rear s.light }
  if sensorFails front s.light.front || sensorFails rear s.light.rear then s1.raise (.light .sensorFail) else s1

theorem heardSensors_light (front rear : Option Nat) (s : State) :
    (heardSensors front rear s).light = readLight s.profile front rear s.light := by
  unfold heardSensors
  dsimp only
  split <;> rfl

theorem heardSensors_handed (front rear : Option Nat) (s : State) : (heardSensors front rear s).handed = s.handed := by
  unfold heardSensors
  dsimp only
  split <;> rfl

theorem pending_heardSensors {front rear : Option Nat} {s : State}
    (h : sensorFails front s.light.front = true ∨ sensorFails rear s.light.rear = true) :
    Pending (.light .sensorFail) (heardSensors front rear s) := by
  unfold heardSensors
  rw [if_pos (by simpa using h)]
  exact pending_raise_self _ _

theorem readSensors_of_same {front rear : Option Nat} {s : State}
    (h : (readLight s.profile front rear s.light).estimate = s.light.estimate) : readSensors front rear s = heardSensors front rear s := if_pos h

theorem readSensors_of_new {front rear : Option Nat} {s : State}
    (h : (readLight s.profile front rear s.light).estimate ≠ s.light.estimate) :
    readSensors front rear s = retarget (heardSensors front rear s) := if_neg h

/-- The sensors, the window and the estimate are those of the record read, whether the target follows or not. -/
theorem sameReadings_readSensors (front rear : Option Nat) (s : State) :
    SameReadings (readLight s.profile front rear s.light) (readSensors front rear s).light := by
  by_cases h : (readLight s.profile front rear s.light).estimate = s.light.estimate
  · rw [readSensors_of_same h, heardSensors_light]
    exact .refl _
  · rw [readSensors_of_new h, ← heardSensors_light]
    exact sameReadings_retarget _

theorem grows_readSensors (front rear : Option Nat) (s : State) : Grows (heardSensors front rear s) (readSensors front rear s) := by
  by_cases h : (readLight s.profile front rear s.light).estimate = s.light.estimate
  · rw [readSensors_of_same h]
    exact .refl _
  · rw [readSensors_of_new h]
    exact grows_retarget _

/-- Settles O50: the sensors and the window by the record read, the target by the estimate that it gives. -/
theorem readEventMovesTheEstimate : Obligations.ReadEventMovesTheEstimate := by
  intro s front rear ha
  have hevent : eventChange (.readEvent front rear) s = if s.light.readTimer.isSome then readSensors front rear s else s := rfl
  refine ⟨fun hn => exec_own_nothing ha rfl (by rw [hevent, hn]; rfl), fun hn => ?_, fun x v hv => readSensor_of_good hv x,
    fun x reading h => readSensor_of_bad h x⟩
  refine ⟨finish (readSensors front rear s), exec_own_eq ha rfl (hevent.trans (if_pos (isSome_of_ne_none hn))), ?_⟩
  have hsame := sameReadings_readSensors front rear s
  obtain ⟨window, estimate, hread⟩ := readLight_eq s.profile front rear s.light
  have hfront : (readSensors front rear s).light.front = readSensor front s.light.front := hsame.front.trans (by rw [hread]; rfl)
  have hrear : (readSensors front rear s).light.rear = readSensor rear s.light.rear := hsame.rear.trans (by rw [hread]; rfl)
  simp only [finish_light, finish_handed, pending_finish]
  refine ⟨hsame.readTimer.trans (by rw [hread]; rfl), hfront, hrear, fun hfail => ?_, fun he => ?_, fun he => ?_, fun hf => ?_, fun hf => ⟨?_, ?_⟩⟩
  · rw [hfront, hrear, ← sensorFails_iff, ← sensorFails_iff] at hfail
    exact (grows_readSensors front rear s).pending (pending_heardSensors hfail)
  · have hold := readSensors_of_same (hsame.estimate.symm.trans he)
    rw [hold, heardSensors_light, heardSensors_handed, hread]
    exact ⟨rfl, rfl⟩
  · rw [readSensors_of_new fun h => he (hsame.estimate.trans h)]
    exact targetFollows_retarget _
  · rw [hsame.window, hsame.estimate, readLight_of_frozen hf]
    exact ⟨rfl, rfl⟩
  · intro v hv
    have hr := readLight_of_reading hf (effective_of_reading (p := s.profile) hv)
    have hw : (readSensors front rear s).light.window = joinWindow v s.light.window := hsame.window.trans (by rw [hr])
    have he : (readSensors front rear s).light.estimate = newEstimate (joinWindow v s.light.window) s.light.estimate :=
      hsame.estimate.trans (by rw [hr])
    rw [hw, he]
    refine ⟨joinWindow_eq v _, fun old x y z hlast hrise => ?_, fun e g hs hlen hg hall hlt => ?_, fun e hs hno hstay => ?_, fun hs hlen => ?_⟩
    · rw [hlast]
      exact newEstimate_of_rise hrise
    · rw [hs]
      exact newEstimate_of_fall hlen hg hall hlt
    · rw [hs]
      exact newEstimate_of_stay hno hstay
    · rw [hs]
      exact riseCandidate_of_short hlen
  · intro hbf hbr
    have hr := readLight_of_none hf (effective_of_none (p := s.profile) hbf hbr)
    rw [hfront, hrear]
    refine ⟨fun hfail => ?_, fun hok => ?_⟩
    · rw [if_pos (by simp [sensed, hfail])] at hr
      rw [hsame.window, hsame.estimate, hr]
      exact ⟨rfl, rfl⟩
    · rw [if_neg (by rcases hok with h | h <;> simp [sensed, h])] at hr
      rw [hsame.window, hsame.estimate, hr]
      exact ⟨rfl, rfl⟩

end Sys2Proof.Machine
end

section
/-!
PROOFS. The backlight's grants, its ramp and its notices: O51 and O52.
-/
namespace Sys2Proof.Machine

/-! ### The ramp and the power map (R129, R131, R133) -/

theorem rampOf_rising_iff (output destination : Nat) : rampOf output destination = .rising ↔ output < destination := by
  unfold rampOf
  repeat' split
  all_goals simp only [reduceCtorEq, true_iff, false_iff]
  all_goals omega

theorem rampOf_falling_iff (output destination : Nat) : rampOf output destination = .falling ↔ destination < output := by
  unfold rampOf
  repeat' split
  all_goals simp only [reduceCtorEq, true_iff, false_iff]
  all_goals omega

theorem rampOf_idle_iff (output destination : Nat) : rampOf output destination = .idle ↔ output = destination := by
  unfold rampOf
  repeat' split
  all_goals simp only [reduceCtorEq, true_iff, false_iff]
  all_goals omega

theorem powerOf_of_pos (p : LightSettings) {a : Nat} (h : 1 ≤ a) : powerOf p a = p.p0 + ((p.pfull - p.p0) * a + 1022) / 1023 :=
  if_neg (by omega)

theorem powerOf_zero (p : LightSettings) : powerOf p 0 = 0 := rfl

theorem powerOf_full {p : LightSettings} (h : p.p0 ≤ p.pfull) : powerOf p 1023 = p.pfull := by
  rw [powerOf_of_pos p (by omega)]
  omega

theorem powerOf_mono (p : LightSettings) {a b : Nat} (h : a ≤ b) : powerOf p a ≤ powerOf p b := by
  rcases Nat.eq_zero_or_pos a with rfl | ha
  · exact Nat.zero_le _
  · have hm : (p.pfull - p.p0) * a ≤ (p.pfull - p.p0) * b := Nat.mul_le_mul_left _ h
    rw [powerOf_of_pos p ha, powerOf_of_pos p (by omega)]
    omega

theorem powerOf_pos {p : LightSettings} (hf : 1 ≤ p.pfull) {a : Nat} (h : 1 ≤ a) : 1 ≤ powerOf p a := by
  rw [powerOf_of_pos p h]
  have hm : (p.pfull - p.p0) * 1 ≤ (p.pfull - p.p0) * a := Nat.mul_le_mul_left _ h
  omega

/-- R129: what a level needs above P0 is the quotient, rounded up. -/
theorem powerOf_bounds (p : LightSettings) {a : Nat} (h : 1 ≤ a) :
    p.p0 ≤ powerOf p a ∧ (p.pfull - p.p0) * a ≤ (powerOf p a - p.p0) * 1023 ∧
      (powerOf p a - p.p0) * 1023 < (p.pfull - p.p0) * a + 1023 := by
  rw [powerOf_of_pos p h]
  omega

/-- A level above 0 is within a grant that covers P0 exactly when its share of the range is. -/
theorem powerOf_le_iff {p : LightSettings} {a g : Nat} (h : 1 ≤ a) (hg : p.p0 ≤ g) :
    powerOf p a ≤ g ↔ (p.pfull - p.p0) * a ≤ (g - p.p0) * 1023 := by
  rw [powerOf_of_pos p h]
  omega

theorem capOf_of_small {p : LightSettings} {g : Nat} (h : g = 0 ∨ g < p.p0) : capOf p g = 0 := if_pos h

theorem capOf_of_flat {p : LightSettings} {g : Nat} (h : ¬(g = 0 ∨ g < p.p0)) (hp : p.pfull ≤ p.p0) : capOf p g = 1023 := by
  rw [capOf, if_neg h, if_pos hp]

theorem capOf_of_range {p : LightSettings} {g : Nat} (h : ¬(g = 0 ∨ g < p.p0)) (hp : p.p0 < p.pfull) :
    capOf p g = min 1023 ((g - p.p0) * 1023 / (p.pfull - p.p0)) := by
  rw [capOf, if_neg h, if_neg (Nat.not_le.mpr hp)]

/-- R131: the level cap is the highest level whose power is no greater than the grant. -/
theorem capOf_spec {p : LightSettings} (hp : p.p0 ≤ p.pfull) (hf : 1 ≤ p.pfull) (g : Nat) :
    capOf p g ≤ 1023 ∧ powerOf p (capOf p g) ≤ g ∧ ∀ a, capOf p g < a → a ≤ 1023 → g < powerOf p a := by
  by_cases hg : g = 0 ∨ g < p.p0
  · rw [capOf_of_small hg]
    refine ⟨by omega, by rw [powerOf_zero]; omega, fun a ha _ => ?_⟩
    rcases hg with rfl | hg
    · exact powerOf_pos hf ha
    · exact Nat.lt_of_lt_of_le hg (powerOf_bounds p ha).1
  · rcases Nat.lt_or_ge p.p0 p.pfull with hlt | hge
    · rw [capOf_of_range hg hlt]
      have hlevel : ∀ a, 1 ≤ a → (powerOf p a ≤ g ↔ a ≤ (g - p.p0) * 1023 / (p.pfull - p.p0)) := fun a ha => by
        rw [powerOf_le_iff ha (by omega), Nat.le_div_iff_mul_le (by omega), Nat.mul_comm a]
      refine ⟨Nat.min_le_left _ _, ?_, fun a ha hmax => ?_⟩
      · rcases Nat.eq_zero_or_pos (min 1023 ((g - p.p0) * 1023 / (p.pfull - p.p0))) with hz | hpos
        · rw [hz, powerOf_zero]
          exact Nat.zero_le _
        · exact (hlevel _ hpos).mpr (Nat.min_le_right _ _)
      · have hq : (g - p.p0) * 1023 / (p.pfull - p.p0) < a := by omega
        rw [← Nat.not_le, hlevel a (Nat.one_le_of_lt ha)]
        exact Nat.not_le.mpr hq
    · rw [capOf_of_flat hg hge]
      exact ⟨Nat.le_refl _, by rw [powerOf_full hp]; omega, fun a ha hmax => absurd hmax (by omega)⟩

/-! ### Grants (R130 to R132) -/

/-- The record behind a grant, before the claim and the capped test. -/
def granted (grant : Nat) (s : State) : State := { s with light := recap { s.light with grantTaken := grant } }

theorem takeGrant_of_same {grant : Nat} {s : State} (h : capOf s.light.settings grant = s.light.cap) :
    takeGrant grant false s = granted grant s := by
  have hc : (recap { s.light with grantTaken := grant }).cap = s.light.cap := h
  simp [takeGrant, granted, hc]

theorem takeGrant_of_new {grant : Nat} {s : State} (h : capOf s.light.settings grant ≠ s.light.cap) :
    takeGrant grant false s = capTest (granted grant s) := by
  have hc : (recap { s.light with grantTaken := grant }).cap ≠ s.light.cap := h
  simp [takeGrant, granted, hc]

theorem takeGrant_answer (grant : Nat) (s : State) : takeGrant grant true s = capTest (takeAnswerToClaim (granted grant s)) := rfl

/-- R130: the claim in flight is answered, and a next claim that differs is sent. -/
theorem takeAnswerToClaim_of_next {s : State} {c : Claim} (h : s.light.nextClaim = some c) (hc : c ≠ s.light.claimSent) :
    takeAnswerToClaim s = sendClaim c { s with light := { s.light with inFlight := false, nextClaim := none } } := by
  simp [takeAnswerToClaim, h, hc]

theorem takeAnswerToClaim_of_rest {s : State} (h : s.light.nextClaim = none ∨ s.light.nextClaim = some s.light.claimSent) :
    takeAnswerToClaim s = { s with light := { s.light with inFlight := false, nextClaim := none } } := by
  rcases h with h | h <;> simp [takeAnswerToClaim, h]

/-- What a grant makes of the record but for the claims and the capped flag. -/
structure GrantTaken (g : Nat) (r r' : LightRec) : Prop where
  grantTaken : r'.grantTaken = g
  cap : r'.cap = capOf r.settings g
  output : r'.output = min r.output (capOf r.settings g)
  destination : r'.destination = min r.target (capOf r.settings g)
  ramp : r'.ramp = rampOf r'.output r'.destination
  target : r'.target = r.target

theorem GrantTaken.after {g : Nat} {r r' r'' : LightRec} (h : GrantTaken g r r') (hg : r''.grantTaken = r'.grantTaken) (hc : r''.cap = r'.cap)
    (ho : r''.output = r'.output) (hd : r''.destination = r'.destination) (hr : r''.ramp = r'.ramp) (ht : r''.target = r'.target) :
    GrantTaken g r r'' :=
  ⟨hg.trans h.grantTaken, hc.trans h.cap, ho.trans h.output, hd.trans h.destination, by rw [hr, ho, hd]; exact h.ramp, ht.trans h.target⟩

theorem grantTaken_granted (g : Nat) (s : State) : GrantTaken g s.light (granted g s).light := ⟨rfl, rfl, rfl, rfl, rfl, rfl⟩

/-- What a grant that is no answer does (R131, R132). -/
theorem takeGrant_handed_over (g : Nat) (s : State) :
    let t := takeGrant g false s
    GrantTaken g s.light t.light ∧ t.light.inFlight = s.light.inFlight ∧ t.light.claimSent = s.light.claimSent ∧
      t.light.nextClaim = s.light.nextClaim ∧
      (s.light.inFlight = true ∨ t.light.cap = s.light.cap → t.light.capped = s.light.capped) ∧
      (s.light.inFlight = false → t.light.cap ≠ s.light.cap → t.light.capped = decide (t.light.cap < t.light.target) ∧
        (s.light.capped = false → t.light.cap < t.light.target → Pending (.light .capped) t)) := by
  intro t
  have hg := grantTaken_granted g s
  by_cases hc : capOf s.light.settings g = s.light.cap
  · have ht : t = granted g s := takeGrant_of_same hc
    rw [ht]
    exact ⟨hg, rfl, rfl, rfl, fun _ => rfl, fun _ hne => absurd (hg.cap.trans hc) hne⟩
  · have ht : t = capTest (granted g s) := takeGrant_of_new hc
    cases hf : s.light.inFlight with
    | true =>
      rw [ht, capTest_of_flight (s := granted g s) hf]
      exact ⟨hg, hf, rfl, rfl, fun _ => rfl, fun h => absurd h (by decide)⟩
    | false =>
      obtain ⟨hlight, _, hpend⟩ := capTest_of_rest (s := granted g s) hf
      rw [ht, hlight]
      exact ⟨hg.after rfl rfl rfl rfl rfl rfl, hf, rfl, rfl, fun h => absurd h (by simp [hg.cap, hc]), fun _ _ => ⟨rfl, hpend⟩⟩

/-- What a grant that answers the claim does (R130 to R132). -/
theorem takeGrant_answers (g : Nat) (s : State) :
    let t := takeGrant g true s
    GrantTaken g s.light t.light ∧ t.light.nextClaim = none ∧
      (∀ c, s.light.nextClaim = some c → c ≠ s.light.claimSent → t.light.claimSent = c ∧ t.light.inFlight = true ∧
        t.light.capped = s.light.capped ∧ .slot0Claim c.requested c.minimum ∈ t.handed) ∧
      (s.light.nextClaim = none ∨ s.light.nextClaim = some s.light.claimSent → t.light.inFlight = false ∧
        t.light.claimSent = s.light.claimSent ∧ t.light.capped = decide (t.light.cap < t.light.target) ∧
        (s.light.capped = false → t.light.cap < t.light.target → Pending (.light .capped) t)) := by
  intro t
  have hg := grantTaken_granted g s
  have ht : t = capTest (takeAnswerToClaim (granted g s)) := takeGrant_answer g s
  have hrest : (s.light.nextClaim = none ∨ s.light.nextClaim = some s.light.claimSent) ∨
      ∃ c, s.light.nextClaim = some c ∧ c ≠ s.light.claimSent := by
    cases hn : s.light.nextClaim with
    | none => exact .inl (.inl rfl)
    | some c =>
      by_cases hc : c = s.light.claimSent
      · exact .inl (.inr (congrArg some hc))
      · exact .inr ⟨c, rfl, hc⟩
  rcases hrest with hr | ⟨c, hn, hc⟩
  · rw [takeAnswerToClaim_of_rest (s := granted g s) hr] at ht
    obtain ⟨hlight, _, hpend⟩ := capTest_of_rest
      (s := { granted g s with light := { (granted g s).light with inFlight := false, nextClaim := none } }) rfl
    rw [← ht] at hlight hpend
    rw [hlight]
    refine ⟨hg.after rfl rfl rfl rfl rfl rfl, rfl, fun c hn hc => ?_, fun _ => ⟨rfl, rfl, rfl, hpend⟩⟩
    rcases hr with hr | hr
    · cases hr.symm.trans hn
    · exact absurd (Option.some.inj (hr.symm.trans hn)).symm hc
  · rw [takeAnswerToClaim_of_next (s := granted g s) hn hc, capTest_of_flight rfl] at ht
    rw [ht]
    refine ⟨hg.after rfl rfl rfl rfl rfl rfl, rfl, fun c' hn' _ => ?_, fun hr => ?_⟩
    · obtain rfl := Option.some.inj (hn.symm.trans hn')
      exact ⟨rfl, rfl, rfl, by simp [sendClaim]⟩
    · rcases hr with hr | hr
      · cases hr.symm.trans hn
      · exact absurd (Option.some.inj (hn.symm.trans hr)) hc

/-- Settles O51: the grant by its two kinds, the step by its record, the power map by its quotient. -/
theorem grantsCapTheOutputAndStepsRamp : Obligations.GrantsCapTheOutputAndStepsRamp := by
  refine ⟨⟨fun s g answer ha hf => ?_, fun s ha => ⟨fun hn => ?_, fun hn => ?_⟩⟩, fun p hp hpf => ?_, fun output destination =>
    ⟨rampOf_rising_iff _ _, rampOf_falling_iff _ _, rampOf_idle_iff _ _⟩⟩
  · refine ⟨finish (takeGrant g answer (s.take (.slot0GrantHandoff g answer))), exec_claim_eq ha hf rfl rfl, ?_⟩
    simp only [finish_light, finish_handed, pending_finish]
    cases answer with
    | false =>
      obtain ⟨hg, hrest⟩ := takeGrant_handed_over g (s.take (.slot0GrantHandoff g false))
      exact ⟨hg.grantTaken, hg.cap, by rw [hg.output, hg.cap]; rfl, by rw [hg.destination, hg.cap]; rfl, hg.ramp, hg.target, fun _ => hrest,
        fun h => absurd h (by decide)⟩
    | true =>
      obtain ⟨hg, hrest⟩ := takeGrant_answers g (s.take (.slot0GrantHandoff g true))
      exact ⟨hg.grantTaken, hg.cap, by rw [hg.output, hg.cap]; rfl, by rw [hg.destination, hg.cap]; rfl, hg.ramp, hg.target,
        fun h => absurd h (by decide), fun _ => hrest⟩
  · have hevent : eventChange .rampStep s = if s.light.stepTimer.isSome then { s with light := stepOutput s.profile s.light } else s := rfl
    exact exec_own_nothing ha rfl (by rw [hevent, hn]; rfl)
  · have hevent : eventChange .rampStep s = if s.light.stepTimer.isSome then { s with light := stepOutput s.profile s.light } else s := rfl
    exact exec_own_eq ha rfl (hevent.trans (if_pos (isSome_of_ne_none hn)))
  · exact ⟨powerOf_zero p, powerOf_full hp, fun a b h => powerOf_mono p h, fun a h => powerOf_pos hpf h, fun a h _ => powerOf_bounds p h,
      capOf_spec hp hpf⟩

end Sys2Proof.Machine
end

section
/-!
PROOFS. The notices and the changed settings of the backlight: O52.
-/
namespace Sys2Proof.Machine

/-- R130: the pair of a target under some settings. -/
def claimFor (q : LightSettings) (target : Nat) : Claim :=
  { requested := powerOf q target, minimum := min (powerOf q q.minLevel) (powerOf q target) }

/-- R130: the pair of the target stands in the claims: behind the one in flight, or as the one last sent. -/
def ClaimsPair (flight : Bool) (r : LightRec) : Prop :=
  (flight = true → r.nextClaim = some (claimFor r.settings r.target)) ∧ (flight = false → r.claimSent = claimFor r.settings r.target)

theorem formPair_claims (s : State) : ClaimsPair s.light.inFlight (formPair s).light := by
  refine ⟨fun h => by rw [formPair_of_flight h]; rfl, fun h => ?_⟩
  by_cases hp : pairOf s.light = s.light.claimSent
  · rw [formPair_of_same h hp]
    exact hp.symm
  · rw [formPair_of_new h hp]
    rfl

theorem PairFormed.claims {s t : State} (h : PairFormed s t) : ClaimsPair s.light.inFlight t.light := by
  have hpair : pairOf s.light = claimFor t.light.settings t.light.target := by
    rw [h.same.settings, h.same.target]
    rfl
  refine ⟨fun hf => ?_, fun hf => ?_⟩
  · rw [← hpair, (h.flight hf).1]
  · rw [← hpair]
    by_cases hp : pairOf s.light = s.light.claimSent
    · rw [(h.passed hf hp).1]
      exact hp.symm
    · rw [(h.sent hf hp).1]

/-- R132: the capped flag of a record that a pair has been formed in, the flag having been cleared before. -/
theorem PairFormed.capped {s t : State} (h : PairFormed s t) (hc : s.light.capped = false) :
    (t.light.inFlight = true → t.light.capped = false) ∧
    (t.light.inFlight = false → t.light.capped = decide (t.light.cap < t.light.target) ∧
      (t.light.cap < t.light.target → Pending (.light .capped) t)) := by
  cases hf : s.light.inFlight with
  | true =>
    rw [(h.flight hf).1]
    exact ⟨fun _ => hc, fun h => absurd (hf.symm.trans h) (by decide)⟩
  | false =>
    by_cases hp : pairOf s.light = s.light.claimSent
    · obtain ⟨hl, _, hpend⟩ := h.passed hf hp
      rw [hl]
      exact ⟨fun h => absurd (hf.symm.trans h) (by decide), fun _ => ⟨rfl, hpend hc⟩⟩
    · rw [(h.sent hf hp).1]
      exact ⟨fun _ => hc, fun h => Bool.noConfusion h⟩

/-! ### The pin and the freeze (R128, R134) -/

theorem pinRuns_iff (r : LightRec) : pinRuns r = true ↔ ∃ pin, r.pin = some pin ∧ pin.remaining.isSome = true := by
  unfold pinRuns
  split <;> simp_all

/-- R134: the estimate behind the end of a freeze. -/
def thawedEstimate (r : LightRec) : Option Nat := if r.front.failed = true ∧ r.rear.failed = true then none else r.estimate

/-- R134: the record behind the end of a freeze, its target not recomputed yet. -/
def thawed (s : State) : State :=
  { s with light := { s.light with freeze := false, window := [], estimate := thawedEstimate s.light } }

theorem endFreeze_eq (s : State) : endFreeze s = if thawedEstimate s.light = s.light.estimate then thawed s else retarget (thawed s) := by
  cases hf : s.light.front.failed <;> cases hr : s.light.rear.failed <;> cases he : s.light.estimate <;>
    simp [endFreeze, thawedEstimate, thawed, hf, hr, he]

theorem thawedEstimate_of_new {r : LightRec} (h : thawedEstimate r ≠ r.estimate) : thawedEstimate r = none := by
  unfold thawedEstimate at h ⊢
  split at h
  · rename_i hb
    rw [if_pos hb]
  · exact absurd rfl h

/-! ### The DARK notice (R137) -/

theorem SameBacklight.refl (r : LightRec) : SameBacklight r r :=
  ⟨rfl, rfl, rfl, rfl, rfl, rfl, rfl, rfl, rfl, rfl, rfl, rfl, rfl, rfl, rfl, rfl, rfl, rfl⟩

theorem formPair_same (s : State) : SameBacklight s.light (formPair s).light ∧ (formPair s).light.capped = s.light.capped ∧
    (formPair s).attention = s.attention := by
  cases h : s.light.inFlight with
  | true =>
    rw [formPair_of_flight h]
    exact ⟨⟨rfl, rfl, rfl, rfl, rfl, rfl, rfl, rfl, rfl, rfl, rfl, rfl, rfl, rfl, rfl, rfl, rfl, rfl⟩, rfl, rfl⟩
  | false =>
    by_cases hp : pairOf s.light = s.light.claimSent
    · rw [formPair_of_same h hp]
      exact ⟨.refl _, rfl, rfl⟩
    · rw [formPair_of_new h hp]
      exact ⟨⟨rfl, rfl, rfl, rfl, rfl, rfl, rfl, rfl, rfl, rfl, rfl, rfl, rfl, rfl, rfl, rfl, rfl, rfl⟩, rfl, rfl⟩

/-- The record that the DARK notice forms its pair in. -/
def darkened (s : State) : State := { s with light := clearedLight s.light, attention := s.attention.empty lightSource }

theorem AttentionRec.sets_empty (i : Fin 30) (r : AttentionRec) : (r.empty i).sets[i] = 0 := by simp [AttentionRec.empty]

theorem claimFor_zero (q : LightSettings) : claimFor q 0 = { requested := 0, minimum := 0 } := by
  simp [claimFor, powerOf_zero]

/-! ### Changed settings and the part reset (R129, R135, R138) -/

/-- A level cap worked out afresh: what the record holds behind it, but for the claims and the capped flag. -/
theorem remap_same (s : State) : SameBacklight (recap s.light) (remap s).light := (pairFormed { s with light := recap s.light }).same

theorem remap_claims (s : State) : ClaimsPair s.light.inFlight (remap s).light := (pairFormed { s with light := recap s.light }).claims

/-- The record that the pair of a part reset is formed in. -/
def reloadedLight (s : State) : State :=
  { s with light := { s.light with
    curve := s.profile.defaultCurve, pin := none, capped := false, settings := s.profile.lightSettings } }

theorem lightPartReset_eq (s : State) : lightPartReset s = remap { s with light := retargeted (reloadedLight s) } := rfl

/-- Settles O52: each notice by the rule of the operation it runs. -/
theorem backlightTakesItsNotices : Obligations.BacklightTakesItsNotices := by
  intro s ha p held pair claims
  have hclaims : ∀ {t u : State}, ClaimsPair s.light.inFlight u.light → t = finish u → claims t := fun h ht => ht ▸ h
  refine ⟨fun pin hp hr => ?_, fun h => ?_, fun hf => exec_claim_eq ha hf rfl rfl, fun hf => ⟨fun hz => ?_, fun hz => ?_⟩,
    fun hf => ?_, fun st hst hf => ?_, fun hf => ?_, fun n hn hf => ?_, fun hf => ?_, fun hf => exec_claim_eq ha hf rfl rfl,
    fun n hn hf => ?_, fun hf => ?_⟩
  · have hrun : pinRuns s.light = true := (pinRuns_iff s.light).mpr ⟨pin, hp, isSome_of_ne_none hr⟩
    exact exec_own_eq ha rfl (if_pos hrun)
  · have hstay : ¬pinRuns s.light = true := fun hrun => by
      obtain ⟨pin, hp, hr⟩ := (pinRuns_iff s.light).mp hrun
      rw [h pin hp] at hr
      cases hr
    exact exec_own_nothing ha rfl (if_neg hstay)
  · exact exec_claim_eq ha hf rfl (if_neg (by simp [hz]))
  · intro m estimate u
    have htakes : lightTakes .episodeEndedNotice m = endFreeze m := if_pos hz
    refine ⟨fun he => exec_claim_eq ha hf rfl ?_, fun he => ⟨exec_claim_eq ha hf rfl ?_, targetFollows_retarget u, ?_⟩⟩
    · exact htakes.trans ((endFreeze_eq m).trans (if_pos he))
    · exact htakes.trans ((endFreeze_eq m).trans (if_neg he))
    · have hs := sameReadings_retarget u
      exact ⟨hs.freeze, hs.window, hs.estimate.trans (thawedEstimate_of_new he)⟩
  · let m := s.take (.backlightStateNotice .starting)
    let v : State := { m with light := { m.light with readTimer := if systemDark m then m.light.readTimer else some (ms 100) } }
    have hp := pairFormed_refreshTarget v
    refine ⟨finish (refreshTarget v), exec_claim_eq ha hf rfl rfl, ?_, targetFollows_refreshTarget v, ?_, hclaims hp.claims rfl⟩
    · rw [finish_light, (sameReadings_refreshTarget v).readTimer]
      by_cases hd : s.system.state = .dark
      · rw [if_pos hd]
        exact if_pos ((systemDark_iff s).mpr hd)
      · rw [if_neg hd]
        exact if_neg fun h => hd ((systemDark_iff s).mp h)
    · rw [finish_light, hp.same.destination, hp.same.target]
      rfl
  · rcases hst with rfl | rfl <;> exact exec_claim_eq ha hf rfl rfl
  · let m := s.take (.backlightStateNotice .dark)
    obtain ⟨hs, hcapped, hatt⟩ := formPair_same (darkened m)
    have hpair := formPair_claims (darkened m)
    rw [ClaimsPair, hs.target, hs.settings] at hpair
    have hzero : claimFor (darkened m).light.settings (darkened m).light.target = { requested := 0, minimum := 0 } := claimFor_zero _
    rw [hzero] at hpair
    refine ⟨finish (formPair (darkened m)), exec_claim_eq ha hf rfl rfl, ?_, hs.readTimer, hs.front, hs.rear, hs.window, hs.estimate, hs.pin,
      hs.panelOn, hs.target, hs.source, hs.destination, hs.output, hs.ramp, hs.stepTimer, hcapped, hs.freeze, hs.curve, hpair⟩
    rw [finish_attention, hatt]
    exact AttentionRec.sets_empty _ _
  · let m := s.take (.backlightProfileChange n)
    let v : State := { m with light := { m.light with settings := takenSettings n m.profile m.light.settings } }
    have hset : takenSettings n m.profile m.light.settings = { held with p0 := p.p0, pfull := p.pfull } := if_pos hn
    have hs := remap_same v
    have hexec : exec (.backlightProfileChange n) s = .next (finish (remap v)) := exec_claim_eq ha hf rfl (if_pos hn)
    refine ⟨finish (remap v), hexec, hs.settings.trans hset, ?_, ?_, hs.target, ?_, hclaims (remap_claims v) rfl⟩
    · rw [finish_light, hs.settings]
      exact hs.cap
    · rw [finish_light, hs.cap]
      exact hs.output
    · rw [finish_light, hs.cap]
      exact hs.destination
  · have hp := pairFormed { s.take (.backlightProfileChange 13) with light := { s.light with settings := { held with minLevel := p.minLevel } } }
    exact ⟨_, exec_claim_eq ha hf rfl rfl, hp.same.settings, hp.same.target, hp.same.cap, hclaims hp.claims rfl⟩
  · refine exec_claim_eq ha hf rfl ?_
    show lightSettingChanged n _ = _
    rw [lightSettingChanged, takenSettings, if_neg (by omega), if_neg (by omega), if_neg (by omega), followSetting, if_neg (by omega),
      if_neg (by omega), if_neg (by omega)]
  · let m := s.take .backlightPartReset
    let v : State := { m with light := retargeted (reloadedLight m) }
    have hs := remap_same v
    have hp := pairFormed { v with light := recap v.light }
    refine ⟨finish (remap v), exec_claim_eq ha hf rfl rfl, hs.curve, hs.settings, hs.pin, hs.panelOn, hs.window, hs.estimate, hs.freeze,
      hs.grantTaken, ?_, ?_, ?_, ?_, hclaims (remap_claims v) rfl, hp.capped rfl⟩
    · rw [finish_light, hs.settings]
      exact hs.cap
    · rw [finish_light, hs.cap]
      exact hs.output
    · have hsame : SameReadings (reloadedLight m).light { (remap v).light with
          cap := (reloadedLight m).light.cap, output := (reloadedLight m).light.output } :=
        ⟨hs.panelOn, hs.front, hs.rear, hs.window, hs.estimate, hs.curve, hs.pin, hs.grantTaken, rfl, rfl, hs.freeze, hs.readTimer, hs.settings⟩
      have htable := (followsTable_targetOf (reloadedLight m)).congr (t := finish { remap v with light := { (remap v).light with
        cap := (reloadedLight m).light.cap, output := (reloadedLight m).light.output } }) hsame (changes_remap v .system (by decide))
      have hx : ((remap v).light.target, (remap v).light.source) = targetOf (systemDark (reloadedLight m)) (reloadedLight m).light := by
        rw [hs.target, hs.source]
        rfl
      rw [targetFollows_iff, finish_light, hx]
      exact htable
    · rw [finish_light, hs.cap, hs.target]
      exact hs.destination

end Sys2Proof.Machine
end

section
/-!
PROOFS. The bytes of the port and of the profile (R188, 9.4): numbers, points and curves read back from their bytes, and bytes from what they read.
-/
namespace Sys2Proof.Machine

/-! ### Numbers -/

theorem length_leBytes (width n : Nat) : (leBytes width n).length = width := by
  induction width generalizing n with
  | zero => rfl
  | succ width ih => simp [leBytes, ih]

theorem fromLE_leBytes {width n : Nat} (h : n < 256 ^ width) : fromLE (leBytes width n) = n := by
  induction width generalizing n with
  | zero =>
    have hn : n = 0 := by simpa using h
    rw [hn]
    rfl
  | succ width ih =>
    have hdiv : n / 256 < 256 ^ width := Nat.div_lt_of_lt_mul (by rw [Nat.mul_comm]; rwa [Nat.pow_succ] at h)
    rw [leBytes, fromLE, ih hdiv, BitVec.toNat_ofNat]
    omega

theorem leBytes_fromLE (bs : List Byte) : leBytes bs.length (fromLE bs) = bs := by
  induction bs with
  | nil => rfl
  | cons b bs ih =>
    have hb := b.isLt
    have hlow : BitVec.ofNat 8 (b.toNat + 256 * fromLE bs) = b := by
      apply BitVec.eq_of_toNat_eq
      rw [BitVec.toNat_ofNat]
      omega
    have hhigh : (b.toNat + 256 * fromLE bs) / 256 = fromLE bs := by omega
    rw [List.length_cons, fromLE, leBytes, hlow, hhigh, ih]

theorem toNat_byte {n : Nat} (h : n < 256) : (byte n).toNat = n := by
  rw [byte, BitVec.toNat_ofNat]
  omega

theorem byte_toNat (b : Byte) : byte b.toNat = b := by simp [byte]

theorem fromLE_word {n : Nat} (h : n < 65536) : fromLE (word n) = n := fromLE_leBytes h

theorem fitsByte_iff (n : Nat) : fitsByte n = true ↔ n < 256 := by simp [fitsByte]

theorem fitsWord_iff (n : Nat) : fitsWord n = true ↔ n < 65536 := by simp [fitsWord]

theorem fitsLux_iff (n : Nat) : fitsLux n = true ↔ n < 16777216 := by simp [fitsLux]

theorem Point.wellFormed_iff (p : Point) : p.wellFormed = true ↔ p.lux < 16777216 ∧ p.level < 65536 := by
  simp [Point.wellFormed, fitsLux_iff, fitsWord_iff]

/-! ### Points and curves -/

/-- The five bytes of a point. -/
def pointBytes (p : Point) : List Byte := leBytes 3 p.lux ++ word p.level

theorem length_pointBytes (p : Point) : (pointBytes p).length = 5 := by
  rw [pointBytes, List.length_append, length_leBytes, word, length_leBytes]

theorem length_flatMap_pointBytes (ps : List Point) : (ps.flatMap pointBytes).length = 5 * ps.length := by
  induction ps with
  | nil => rfl
  | cons p ps ih =>
    rw [List.flatMap_cons, List.length_append, length_pointBytes, ih, List.length_cons]
    omega

theorem curveBytes_eq (ps : List Point) : curveBytes ps = byte ps.length :: ps.flatMap pointBytes := rfl

theorem readPoint_pointBytes {p : Point} (h : p.wellFormed = true) : readPoint (pointBytes p) = some p := by
  obtain ⟨hlux, hlevel⟩ := (Point.wellFormed_iff p).mp h
  show some (⟨fromLE (leBytes 3 p.lux), fromLE (word p.level)⟩ : Point) = some p
  rw [fromLE_leBytes (by omega), fromLE_word hlevel]

theorem readPoints_pointBytes {p : Point} (h : p.wellFormed = true) (rest : List Byte) :
    readPoints (pointBytes p ++ rest) = (readPoints rest).map (p :: ·) := by
  obtain ⟨hlux, hlevel⟩ := (Point.wellFormed_iff p).mp h
  show ((readPoints rest).map fun ps => (⟨fromLE (leBytes 3 p.lux), fromLE (word p.level)⟩ : Point) :: ps) = _
  rw [fromLE_leBytes (by omega), fromLE_word hlevel]

theorem readPoints_flatMap {ps : List Point} (h : ps.all Point.wellFormed = true) : readPoints (ps.flatMap pointBytes) = some ps := by
  induction ps with
  | nil => rfl
  | cons p ps ih =>
    rw [List.all_cons, Bool.and_eq_true] at h
    rw [List.flatMap_cons, readPoints_pointBytes h.1, ih h.2]
    rfl

/-- 9.4: a curve of a count that a byte holds is read back. -/
theorem readCurve_curveBytes {ps : List Point} (hn : ps.length < 256) (h : ps.all Point.wellFormed = true) :
    readCurve (curveBytes ps) = some ps := by
  rw [curveBytes_eq, readCurve, readPoints_flatMap h, Option.bind_some, if_pos (toNat_byte hn).symm]

/-- The bytes that are read as points are the bytes of those points. -/
theorem flatMap_of_readPoints {bs : List Byte} {ps : List Point} (h : readPoints bs = some ps) : ps.flatMap pointBytes = bs := by
  induction bs using readPoints.induct generalizing ps with
  | case1 =>
    cases h
    rfl
  | case2 x0 x1 x2 v0 v1 rest ih =>
    rw [readPoints, Option.map_eq_some_iff] at h
    obtain ⟨qs, hq, rfl⟩ := h
    rw [List.flatMap_cons, ih hq]
    have hlux := leBytes_fromLE [x0, x1, x2]
    have hlevel := leBytes_fromLE [v0, v1]
    simp only [List.length_cons, List.length_nil, Nat.zero_add, Nat.reduceAdd] at hlux hlevel
    simp only [pointBytes, word, hlux, hlevel, List.cons_append, List.nil_append]
  | case3 bs hnil hcons =>
    unfold readPoints at h
    split at h
    · exact absurd rfl hnil
    · exact absurd rfl (hcons _ _ _ _ _ _)
    · cases h

theorem length_of_readPoints {bs : List Byte} {ps : List Point} (h : readPoints bs = some ps) : bs.length = 5 * ps.length := by
  rw [← flatMap_of_readPoints h, length_flatMap_pointBytes]

/-- Five bytes at a time are points, whatever they hold. -/
theorem exists_readPoints {bs : List Byte} {n : Nat} (h : bs.length = 5 * n) : ∃ ps, readPoints bs = some ps := by
  induction bs using readPoints.induct generalizing n with
  | case1 => exact ⟨[], rfl⟩
  | case2 x0 x1 x2 v0 v1 rest ih =>
    obtain ⟨ps, hps⟩ := ih (n := n - 1) (by simp only [List.length_cons] at h; omega)
    exact ⟨_, by rw [readPoints, hps, Option.map_some]⟩
  | case3 bs hnil hcons =>
    match bs, hnil, hcons, h with
    | [], hnil, _, _ => exact absurd rfl hnil
    | [_], _, _, h | [_, _], _, _, h | [_, _, _], _, _, h | [_, _, _, _], _, _, h =>
      simp only [List.length_cons, List.length_nil] at h
      omega
    | _ :: _ :: _ :: _ :: _ :: _, _, hcons, _ => exact absurd rfl (hcons _ _ _ _ _ _)

theorem readCurve_cons (n : Byte) (bs : List Byte) :
    readCurve (n :: bs) = (readPoints bs).bind fun ps => if ps.length = n.toNat then some ps else none := rfl

/-- 9.4: the bytes behind a point count make a curve exactly when they fill it. -/
theorem isSome_readCurve_cons (n : Byte) (bs : List Byte) : (readCurve (n :: bs)).isSome = true ↔ bs.length = 5 * n.toNat := by
  rw [readCurve_cons]
  constructor
  · intro h
    obtain ⟨ps, hps⟩ := Option.isSome_iff_exists.mp h
    obtain ⟨qs, hqs, hcount⟩ := Option.bind_eq_some_iff.mp hps
    rw [length_of_readPoints hqs]
    split at hcount
    · omega
    · cases hcount
  · intro h
    obtain ⟨ps, hps⟩ := exists_readPoints h
    have hlen := length_of_readPoints hps
    rw [hps, Option.bind_some, if_pos (by omega)]
    rfl

theorem isSome_readCurve (bs : List Byte) : (readCurve bs).isSome = true ↔ 5 * (bs.headD 0).toNat + 1 = bs.length := by
  cases bs with
  | nil => simp [readCurve]
  | cons n bs =>
    rw [isSome_readCurve_cons, List.headD_cons, List.length_cons]
    omega

/-- The bytes of a curve that has been read are the ones it was read from. -/
theorem curveBytes_of_readCurve {bs : List Byte} {ps : List Point} (h : readCurve bs = some ps) : curveBytes ps = bs := by
  cases bs with
  | nil => cases h
  | cons n bs =>
    obtain ⟨qs, hqs, hcount⟩ := Option.bind_eq_some_iff.mp ((readCurve_cons n bs).symm.trans h)
    split at hcount
    next hlen =>
      cases hcount
      rw [curveBytes_eq, flatMap_of_readPoints hqs, hlen, byte_toNat]
    next => cases hcount

end Sys2Proof.Machine
end

section
/-!
PROOFS. The Profile Store: which settings a write takes, what it leaves of the others, and the write and store requests: O58.
-/
namespace Sys2Proof.Machine

/-! ### A setting of a number (R200) -/

/-- R200: the width of a setting that holds a number. -/
def settingWidth (n : Nat) : Nat := if n ∈ [5, 7, 8, 9, 10, 15, 27, 28] then 1 else 2

/-- The settings that hold a number, each with its range; the first list those that any value of the range may stand in. -/
def numberRanges : List (Nat × Nat × Nat) :=
  [(1, 0, 1000), (2, 0, 500), (3, 0, 1000), (4, 100, 5000), (5, 0, 30), (6, 0, 1200), (9, 0, 50),
   (10, 1, 60), (11, 0, 200), (12, 1, 800), (13, 1, 1023), (14, 0, 1023), (15, 0, 16), (16, 1, 1023), (17, 1, 1023),
   (19, 100, 900), (20, 500, 1000), (21, 1000, 2000), (22, 1500, 16000), (23, 2000, 24000), (24, 4, 400), (25, 40, 4000),
   (26, 50, 2000)]

/-- The settings that choose one of two. -/
def choiceRanges : List (Nat × Nat × Nat) := [(7, 0, 1), (8, 0, 1), (27, 0, 1), (28, 0, 1)]

/-- R140, R200: what a value of a setting has to keep with the settings it is bound to. -/
def Binds (p : Profile) (n v : Nat) : Prop :=
  (n = 11 → v ≤ p.pfull) ∧ (n = 12 → p.p0 ≤ v) ∧ (n = 19 → v < p.quietFloor) ∧
  (n = 20 → p.lowThreshold < v ∧ v ≤ p.quietCeiling) ∧ (n = 21 → p.quietFloor ≤ v ∧ v < p.lightThreshold) ∧
  (n = 22 → p.quietCeiling < v ∧ v < p.hardThreshold) ∧ (n = 23 → p.lightThreshold < v)

theorem consistent_iff (p : Profile) : p.consistent = true ↔ p.p0 ≤ p.pfull ∧ p.lowThreshold < p.quietFloor ∧
    p.quietFloor ≤ p.quietCeiling ∧ p.quietCeiling < p.lightThreshold ∧ p.lightThreshold < p.hardThreshold := by
  simp [Profile.consistent, and_assoc]

/-- R200: a setting is put as the bound of its range and the constraints of the others have it. -/
theorem putNumber_within {p : Profile} (hp : p.consistent = true) {x : Nat × Nat × Nat} (hx : x ∈ numberRanges) (v : Nat) :
    ∃ q, putNumber x.1 v p = within x.2.1 x.2.2 v q ∧ (q.consistent = true ↔ Binds p x.1 v) := by
  rw [consistent_iff] at hp
  simp only [numberRanges, List.mem_cons, List.not_mem_nil, or_false] at hx
  rcases hx with rfl | rfl | rfl | rfl | rfl | rfl | rfl | rfl | rfl | rfl | rfl | rfl | rfl | rfl | rfl | rfl | rfl | rfl | rfl | rfl | rfl |
    rfl | rfl
  all_goals
    refine ⟨_, rfl, ?_⟩
    rw [consistent_iff]
    dsimp only [Binds]
    omega

theorem readPolicy_eq (v : Nat) {α : Type} (f : Policy → α) :
    (readPolicy v).map f = if 0 ≤ v ∧ v ≤ 1 then some (f (if v = 0 then .act else .refer)) else none := by
  match v with
  | 0 | 1 => rfl
  | v + 2 => simp [readPolicy]

theorem readMode_eq (v : Nat) {α : Type} (f : ProtectionMode → α) :
    (readMode v).map f = if 0 ≤ v ∧ v ≤ 1 then some (f (if v = 0 then .auto else .hold)) else none := by
  match v with
  | 0 | 1 => rfl
  | v + 2 => simp [readMode]

theorem readYesNo_eq (v : Nat) {α : Type} (f : Bool → α) :
    (readYesNo v).map f = if 0 ≤ v ∧ v ≤ 1 then some (f (if v = 0 then false else true)) else none := by
  match v with
  | 0 | 1 => rfl
  | v + 2 => simp [readYesNo]

/-- R200: a choice is put as its range has it, and nothing binds it. -/
theorem putNumber_choice {p : Profile} (hp : p.consistent = true) {x : Nat × Nat × Nat} (hx : x ∈ choiceRanges) (v : Nat) :
    ∃ q, putNumber x.1 v p = within x.2.1 x.2.2 v q ∧ (q.consistent = true ↔ Binds p x.1 v) := by
  simp only [choiceRanges, List.mem_cons, List.not_mem_nil, or_false] at hx
  rcases hx with rfl | rfl | rfl | rfl
  · exact ⟨_, readPolicy_eq v _, iff_of_true hp (by simp [Binds])⟩
  · exact ⟨_, readPolicy_eq v _, iff_of_true hp (by simp [Binds])⟩
  · exact ⟨_, readMode_eq v _, iff_of_true hp (by simp [Binds])⟩
  · exact ⟨_, readYesNo_eq v _, iff_of_true hp (by simp [Binds])⟩

theorem putSetting_of_number {n : Nat} (hc : n ≠ 18) (hm : n ≠ 29) (value : List Byte) (p : Profile) :
    putSetting n value p = putChecked n value p := by rw [putSetting, if_neg hc, if_neg hm]

theorem putChecked_of_within {n v low high : Nat} {value : List Byte} {p q : Profile} {binds : Prop} (hv : fromLE value = v)
    (h : putNumber n v p = within low high v q) (hq : q.consistent = true ↔ binds) :
    (¬(low ≤ v ∧ v ≤ high ∧ binds) → putChecked n value p = .error .badArgument) ∧
    (low ≤ v → v ≤ high → binds → putChecked n value p = .ok q) := by
  rw [putChecked, hv, h, within, ← hq]
  by_cases hr : low ≤ v ∧ v ≤ high
  · cases hc : q.consistent <;> simp [hr, hc]
  · rw [if_neg hr]
    exact ⟨fun _ => rfl, fun hl hh => absurd ⟨hl, hh⟩ hr⟩

theorem settingFills_leBytes {n : Nat} (hc : n ≠ 18) (hm : n ≠ 29) (v : Nat) :
    settingFills n (leBytes (settingWidth n) v) = true := by
  rw [settingFills, if_neg hc, if_neg hm, length_leBytes, settingWidth]
  simp only [List.mem_cons, List.not_mem_nil, or_false]
  split <;> rfl

/-! ### What a write leaves of the settings (R201) -/

/-- A profile holds one setting at a value and the others as another profile has them. -/
def SetOnly (n : Nat) (bytes : List Byte) (p q : Profile) : Prop :=
  settingBytes q n = some bytes ∧ ∀ k, k ≠ n → settingBytes q k = settingBytes p k

theorem within_eq_some {low high v : Nat} {p q : Profile} (h : within low high v p = some q) : p = q := by
  unfold within at h
  split at h
  · exact Option.some.inj h
  · cases h

theorem policyCode_of_read {v : Nat} {x : Policy} (h : readPolicy v = some x) : policyCode x = v := by
  match v, h with
  | 0, h | 1, h => cases h; rfl
  | v + 2, h => simp [readPolicy] at h

theorem modeCode_of_read {v : Nat} {x : ProtectionMode} (h : readMode v = some x) : x.code = v := by
  match v, h with
  | 0, h | 1, h => cases h; rfl
  | v + 2, h => simp [readMode] at h

theorem flagByte_of_read {v : Nat} {x : Bool} (h : readYesNo v = some x) : flagByte x = byte v := by
  match v, h with
  | 0, h | 1, h => cases h; rfl
  | v + 2, h => simp [readYesNo] at h

/-- R200, R201: a number put leaves its setting at the value and no other one touched. -/
theorem setOnly_of_putNumber {n v : Nat} {p q : Profile} (h : putNumber n v p = some q) :
    SetOnly n (leBytes (settingWidth n) v) p q := by
  unfold putNumber at h
  split at h
  case h_7 | h_8 =>
    obtain ⟨x, hx, rfl⟩ := Option.map_eq_some_iff.mp h
    refine ⟨?_, fun k hk => ?_⟩
    · rw [← policyCode_of_read hx]
      rfl
    · unfold settingBytes
      split <;> simp_all only [ne_eq, not_true_eq_false]
  case h_26 =>
    obtain ⟨x, hx, rfl⟩ := Option.map_eq_some_iff.mp h
    refine ⟨?_, fun k hk => ?_⟩
    · rw [← modeCode_of_read hx]
      rfl
    · unfold settingBytes
      split <;> simp_all only [ne_eq, not_true_eq_false]
  case h_27 =>
    obtain ⟨x, hx, rfl⟩ := Option.map_eq_some_iff.mp h
    refine ⟨congrArg (fun b => some [b]) (flagByte_of_read hx), fun k hk => ?_⟩
    unfold settingBytes
    split <;> simp_all only [ne_eq, not_true_eq_false]
  case h_28 => cases h
  all_goals
    obtain rfl := within_eq_some h
    refine ⟨rfl, fun k hk => ?_⟩
    unfold settingBytes
    split <;> simp_all only [ne_eq, not_true_eq_false]

theorem leBytes_of_fills {n : Nat} (hc : n ≠ 18) (hm : n ≠ 29) {value : List Byte} (h : settingFills n value = true) :
    leBytes (settingWidth n) (fromLE value) = value := by
  have hlen : value.length = settingWidth n := by
    rw [settingFills, if_neg hc, if_neg hm] at h
    simp only [settingWidth, List.mem_cons, List.not_mem_nil, or_false]
    split at h
    · rw [if_pos ‹_›]
      exact eq_of_beq h
    · rw [if_neg ‹_›]
      exact eq_of_beq h
  rw [← hlen, leBytes_fromLE]

theorem putCurve_of_range {ps : List Point} {p : Profile} (h : ¬∀ q ∈ ps, q.lux ≤ 131071 ∧ q.level ≤ 1023) :
    putCurve ps p = .error .badArgument := by
  rw [putCurve, if_pos]
  simpa [pointInRange] using h

theorem all_pointInRange {ps : List Point} (h : ∀ q ∈ ps, q.lux ≤ 131071 ∧ q.level ≤ 1023) : ps.all pointInRange = true := by
  simpa [pointInRange] using h

theorem putCurve_of_full {ps : List Point} {p : Profile} (h : ps.all pointInRange = true) (hn : 12 < ps.length) :
    putCurve ps p = .error .curveFull := by simp [putCurve, h, curveLimit, hn]

theorem putCurve_of_fits {ps : List Point} {p : Profile} (h : ps.all pointInRange = true) (hn : ps.length ≤ 12) :
    putCurve ps p = if curveOrdered ps = true then .ok { p with defaultCurve := ps } else .error .curveOrder := by
  cases ho : curveOrdered ps <;> simp [putCurve, h, curveLimit, Nat.not_lt.mpr hn, ho]

theorem putCurve_eq_ok {ps : List Point} {p q : Profile} (h : putCurve ps p = .ok q) : q = { p with defaultCurve := ps } := by
  unfold putCurve at h
  repeat' split at h
  all_goals cases h
  rfl

theorem putMasks_eq_ok {m : MaskBytes} {p q : Profile} (h : putMasks m p = .ok q) : q = { p with masks := m } := by
  unfold putMasks at h
  split at h
  · cases h
    rfl
  · cases h

theorem putSetting_curve (value : List Byte) (p : Profile) : putSetting 18 value p =
    match readCurve value with
    | some points => putCurve points p
    | none => .error .badLength := rfl

theorem putSetting_masks (value : List Byte) (p : Profile) : putSetting 29 value p =
    match readMasks value with
    | some m => putMasks m p
    | none => .error .badLength := rfl

theorem maskList_of_readMasks {bs : List Byte} {m : MaskBytes} (h : readMasks bs = some m) : maskList m = bs := by
  unfold readMasks at h
  split at h
  · cases h
    rfl
  · cases h

/-- R201: a write that is taken sets its one setting to the bytes it was given. -/
theorem setOnly_of_putSetting {n : Nat} {value : List Byte} {p q : Profile} (hf : settingFills n value = true)
    (h : putSetting n value p = .ok q) : SetOnly n value p q := by
  by_cases hc : n = 18
  · subst hc
    rw [putSetting_curve] at h
    cases hr : readCurve value with
    | none => simp [hr] at h
    | some ps =>
      rw [hr] at h
      obtain rfl := putCurve_eq_ok h
      refine ⟨congrArg some (curveBytes_of_readCurve hr), fun k hk => ?_⟩
      unfold settingBytes
      split <;> simp_all only [ne_eq, not_true_eq_false]
  by_cases hm : n = 29
  · subst hm
    rw [putSetting_masks] at h
    cases hr : readMasks value with
    | none => simp [hr] at h
    | some m =>
      rw [hr] at h
      obtain rfl := putMasks_eq_ok h
      refine ⟨congrArg some (maskList_of_readMasks hr), fun k hk => ?_⟩
      unfold settingBytes
      split <;> simp_all only [ne_eq, not_true_eq_false]
  · rw [putSetting_of_number hc hm, putChecked] at h
    cases hput : putNumber n (fromLE value) p with
    | none => simp [hput] at h
    | some r =>
      rw [hput] at h
      dsimp only at h
      split at h
      · cases h
        have hset := setOnly_of_putNumber hput
        rwa [leBytes_of_fills hc hm hf] at hset
      · cases h

/-! ### The requests (R201, R202) -/

theorem settingExists_iff (n : Nat) : settingExists n = true ↔ 1 ≤ n ∧ n ≤ 29 := by simp [settingExists]

theorem settingFills_iff {n : Nat} (value : List Byte) : settingFills n value = true ↔
    if n = 18 then 5 * (value.headD 0).toNat + 1 = value.length
    else value.length = if n ∈ [5, 7, 8, 9, 10, 15, 27, 28] then 1 else if n = 29 then 6 else 2 := by
  by_cases hc : n = 18
  · rw [settingFills, if_pos hc, if_pos hc, isSome_readCurve]
  · rw [settingFills, if_neg hc, if_neg hc]
    by_cases hm : n = 29
    · subst hm
      simp
    · simp only [if_neg hm, List.mem_cons, List.not_mem_nil, or_false]
      split <;> exact beq_iff_eq

theorem settingClaims_eq (n : Nat) (q : Profile) : settingClaims n q =
    if n ∈ [1, 2, 6, 10] then [.supplyProfileChange] else if n = 7 then [.policyChange .bayA q.policyA]
    else if n = 8 then [.policyChange .bayB q.policyB] else if 11 ≤ n ∧ n ≤ 18 then [.backlightProfileChange n] else [] := by
  simp only [settingClaims, List.mem_cons, List.not_mem_nil, or_false]

theorem settingTests_eq (n : Nat) : settingTests n = if n ∈ [1, 2, 6, 10] then [n == 10] else [] := by
  simp only [settingTests, List.mem_cons, List.not_mem_nil, or_false]

theorem profileWrite_of_error {n : Nat} {value : List Byte} {s : State} {st : Status} (he : settingExists n = true)
    (hf : settingFills n value = true) (hs : s.store.storing = none) (hput : putSetting n value s.store.working = .error st) :
    profileWriteRequest n value s = refuse st s := by
  have hput' : putSetting n value s.profile = .error st := hput
  rw [profileWriteRequest, require_of_true he, require_of_true hf, require_of_true (by rw [hs]; rfl), hput']

theorem profileWrite_of_ok {n : Nat} {value : List Byte} {s : State} {q : Profile} (he : settingExists n = true)
    (hf : settingFills n value = true) (hs : s.store.storing = none) (hput : putSetting n value s.store.working = .ok q) :
    profileWriteRequest n value s = (writeProfile n q s, okReply []) := by
  have hput' : putSetting n value s.profile = .ok q := hput
  rw [profileWriteRequest, require_of_true he, require_of_true hf, require_of_true (by rw [hs]; rfl), hput']

theorem profileWrite_of_busy {n : Nat} {value : List Byte} {s : State} (he : settingExists n = true) (hf : settingFills n value = true)
    (hs : s.store.storing ≠ none) : profileWriteRequest n value s = refuse .busy s := by
  rw [profileWriteRequest, require_of_true he, require_of_true hf,
    require_of_false (by rw [Option.isNone_eq_false_iff]; exact isSome_of_ne_none hs)]

theorem writeProfile_of_new {n : Nat} {q : Profile} {s : State} (h : q ≠ s.store.working) : writeProfile n q s =
    ({ s with store := { s.store with working := q }, bridgeTests := s.bridgeTests ++ settingTests n }).handAll (settingClaims n q) := if_neg h

theorem endStore_of_storing {x : Storing} {s : State} (h : s.store.storing = some x) (passes : Bool) : endStore passes s =
    ({ s with store := { s.store with stored := x.snapshot, storedOk := passes, storing := none } }).raise
      (.part (if passes then .storeDone else .storeFail)) := by simp [endStore, h]

/-- Settles O58: the checks of a write in their order, the range and the bounds of each setting, and what a write leaves of the others. -/
theorem profileIsWrittenAndStored : Obligations.ProfileIsWrittenAndStored := by
  refine ⟨fun s ha => ⟨fun n value hn => ?_, fun n value h1 h29 => ?_, fun hs => ?_, fun hs => ?_, fun hs passes => ?_, fun x passes hs => ?_⟩,
    fun p hpow hlow hquiet hlight hhard => ⟨fun x hx v => ?_, fun ps hlen hps => ?_, fun m => ?_⟩, fun n value p q hf h => setOnly_of_putSetting hf h⟩
  · have hno : settingExists n = false := by
      rw [← Bool.not_eq_true, settingExists_iff]
      omega
    exact exec_plain_refused ha rfl (require_of_false hno)
  · intro width fills told
    have he : settingExists n = true := (settingExists_iff n).mpr ⟨h1, h29⟩
    have hfills : settingFills n value = true ↔ fills := settingFills_iff value
    refine ⟨fun hnf => ?_, fun hf => ⟨fun hs => ?_, fun hs => ⟨fun st hput => ?_, fun hput => ?_, fun q hput hq => ?_⟩⟩⟩
    · refine exec_plain_refused ha rfl ((require_of_true he).trans (require_of_false ?_))
      rw [← Bool.not_eq_true, hfills]
      exact hnf
    · exact exec_plain_refused ha rfl (profileWrite_of_busy he (hfills.mpr hf) hs)
    · exact exec_plain_refused ha rfl (profileWrite_of_error he (hfills.mpr hf) hs hput)
    · exact exec_plain_eq ha rfl ((profileWrite_of_ok he (hfills.mpr hf) hs hput).trans (congrArg (·, okReply []) (if_pos rfl)))
    · refine exec_plain_eq ha rfl ((profileWrite_of_ok he (hfills.mpr hf) hs hput).trans ?_)
      rw [writeProfile_of_new hq, settingClaims_eq, settingTests_eq]
  · exact exec_plain_refused ha rfl (require_of_false (by rw [Option.isNone_eq_false_iff]; exact isSome_of_ne_none hs))
  · exact exec_plain_eq ha rfl (require_of_true (by rw [hs]; rfl))
  · exact exec_own_nothing ha rfl (by show endStore passes s = s; simp [endStore, hs])
  · exact exec_own_eq ha rfl (endStore_of_storing hs passes)
  · intro n value binds hv
    have hp : p.consistent = true := (consistent_iff p).mpr ⟨hpow, hlow, hquiet, hlight, hhard⟩
    have hrange : ∀ y ∈ [(1, 0, 1000), (2, 0, 500), (3, 0, 1000), (4, 100, 5000), (5, 0, 30), (6, 0, 1200), (7, 0, 1), (8, 0, 1), (9, 0, 50),
       (10, 1, 60), (11, 0, 200), (12, 1, 800), (13, 1, 1023), (14, 0, 1023), (15, 0, 16), (16, 1, 1023), (17, 1, 1023),
       (19, 100, 900), (20, 500, 1000), (21, 1000, 2000), (22, 1500, 16000), (23, 2000, 24000), (24, 4, 400), (25, 40, 4000),
       (26, 50, 2000), (27, 0, 1), (28, 0, 1)], (y ∈ numberRanges ∨ y ∈ choiceRanges) ∧ y.1 ≠ 18 ∧ y.1 ≠ 29 := by decide
    obtain ⟨hmem, hc, hm⟩ := hrange x hx
    have hvalue : fromLE value = v := by
      refine fromLE_leBytes (lt_of_lt_of_eq hv ?_)
      split <;> rfl
    obtain ⟨q, hput, hq⟩ := hmem.elim (putNumber_within hp · v) (putNumber_choice hp · v)
    obtain ⟨hout, hin⟩ := putChecked_of_within hvalue hput hq
    rw [← putSetting_of_number hc hm] at hout hin
    exact ⟨hout, fun hl hh hb => ⟨q, hin hl hh hb, (setOnly_of_putSetting (settingFills_leBytes hc hm v) (hin hl hh hb)).1⟩⟩
  · intro inRange ordered
    have hput : putSetting 18 (curveBytes ps) p = putCurve ps p := by rw [putSetting_curve, readCurve_curveBytes hlen hps]
    rw [hput]
    refine ⟨putCurve_of_range, fun hr => putCurve_of_full (all_pointInRange hr), fun hr hn ho => ?_, fun hr hn ho => ?_⟩
    · rw [putCurve_of_fits (all_pointInRange hr) hn, if_neg (mt (curveOrdered_iff ps).mp ho)]
    · rw [putCurve_of_fits (all_pointInRange hr) hn, if_pos ((curveOrdered_iff ps).mpr ho)]
  · intro legal
    have hput : putSetting 29 (maskList m) p = if masksValid m = true then .ok { p with masks := m } else .error .badArgument := rfl
    rw [hput]
    exact ⟨fun h => if_pos ((masksValid_iff m).mpr h), fun h => if_neg (mt (masksValid_iff m).mp h)⟩

end Sys2Proof.Machine
end

section
/-!
PROOFS. The request port: the layouts of 9.4, the frames it refuses and the ones that carry their request, long requests and read transfers, and
the round trip of every request: O13, O14 and O15.
-/
namespace Sys2Proof.Machine

/-! ### Layouts that are not filled (9.4) -/

theorem readAdmit_eq_none {args : List Byte} (h : args.length ≠ 12) : readAdmit args = none := by
  unfold readAdmit
  split
  · exact absurd rfl h
  · rfl

theorem readRevise_eq_none {args : List Byte} (h : args.length ≠ 14) : readRevise args = none := by
  unfold readRevise
  split
  · exact absurd rfl h
  · rfl

theorem readHandle_eq_none {args : List Byte} (h : args.length ≠ 2) : readHandle args = none := by
  unfold readHandle
  split
  · exact absurd rfl h
  · rfl

theorem readByte_eq_none {args : List Byte} (h : args.length ≠ 1) : readByte args = none := by
  unfold readByte
  split
  · exact absurd rfl h
  · rfl

theorem readWord_eq_none {args : List Byte} (h : args.length ≠ 2) : readWord args = none := by
  unfold readWord
  split
  · exact absurd rfl h
  · rfl

theorem readNothing_eq_none {args : List Byte} (h : args.length ≠ 0) : readNothing args = none := by
  unfold readNothing
  split
  · exact absurd rfl h
  · rfl

theorem readPoint_eq_none {args : List Byte} (h : args.length ≠ 5) : readPoint args = none := by
  unfold readPoint
  split
  · exact absurd rfl h
  · rfl

theorem readLux_eq_none {args : List Byte} (h : args.length ≠ 3) : readLux args = none := by
  unfold readLux
  split
  · exact absurd rfl h
  · rfl

theorem readPin_eq_none {args : List Byte} (h : args.length ≠ 4) : readPin args = none := by
  unfold readPin
  split
  · exact absurd rfl h
  · rfl

theorem readAcknowledge_eq_none {args : List Byte} (h : args.length ≠ 2) : readAcknowledge args = none := by
  unfold readAcknowledge
  split
  · exact absurd rfl h
  · rfl

theorem readMaskRequest_eq_none {args : List Byte} (h0 : args.length ≠ 0) (h6 : args.length ≠ 6) : readMaskRequest args = none := by
  unfold readMaskRequest
  split
  · exact absurd rfl h0
  · unfold readMasks
    split
    · exact absurd rfl h6
    · rfl

theorem readCurve_eq_none {n : Byte} {points : List Byte} (h : points.length ≠ 5 * n.toNat) : readCurve (n :: points) = none := by
  rw [← Option.not_isSome_iff_eq_none, isSome_readCurve_cons]
  exact h

/-- Arguments that do not fill the layout of a code are refused. -/
def Sized (n : Nat) (code : Byte) : Prop := ∀ args : List Byte, args.length ≠ n → decodeRequest code args = .error .badLength

/-- A code whose arguments are read by a layout of one length. -/
theorem sized_of_layout {α : Type} {read : List Byte → Option α} {n : Nat} (hread : ∀ {args}, args.length ≠ n → read args = none)
    {code : Byte} {f : α → Instr} (h : ∀ args, decodeRequest code args = filled (read args) f) : Sized n code := fun args hn => by
  rw [h, hread hn]
  rfl

/-- A code that the catalog does not have spells nothing, whatever follows it. -/
theorem decodeRequest_of_unknown {code : Byte} (h : catalogHas code = false) (args : List Byte) :
    decodeRequest code args = .error .unknownRequest := by
  have hcode : ∀ n < 256, catalogHas (BitVec.ofNat 8 n) = true → code.toNat ≠ n := fun n hn hk he => by
    have hc : code = BitVec.ofNat 8 n := BitVec.eq_of_toNat_eq (by rw [he, BitVec.toNat_ofNat]; omega)
    rw [hc, hk] at h
    cases h
  unfold decodeRequest
  split
  case h_42 => rfl
  all_goals
    rename_i he
    exact absurd he (hcode _ (by decide) (by decide))

theorem decodeProfileWrite_of_no_setting {n : Byte} (h : settingExists n.toNat = false) (value : List Byte) :
    decodeProfileWrite (n :: value) = .error .badArgument := by simp [decodeProfileWrite, h]

theorem decodeProfileWrite_of_short {n : Byte} {value : List Byte} (h : settingExists n.toNat = true)
    (hf : settingFills n.toNat value = false) : decodeProfileWrite (n :: value) = .error .badLength := by simp [decodeProfileWrite, h, hf]

theorem decodeProfileWrite_of_fills {n : Byte} {value : List Byte} (h : settingExists n.toNat = true)
    (hf : settingFills n.toNat value = true) : decodeProfileWrite (n :: value) = .ok (.profileWrite n.toNat value) := by
  simp [decodeProfileWrite, h, hf]

/-! ### The catalog (9.4) -/

/-- The codes whose arguments fill one length, each with that length. -/
def sizedCodes : List (Byte × Nat) :=
  [(0x10, 12), (0x90, 12), (0x11, 14), (0x91, 14), (0x12, 2), (0x92, 2), (0x13, 2), (0x14, 2), (0x15, 1), (0x16, 0), (0x17, 2),
   (0x18, 2), (0x20, 0), (0x21, 0), (0x22, 0), (0x30, 1), (0x31, 1), (0x32, 1), (0x33, 0), (0x34, 2), (0x40, 1), (0x42, 5),
   (0x43, 3), (0x44, 1), (0x45, 4), (0x46, 0), (0x50, 0), (0x51, 0), (0x52, 0), (0x53, 0), (0x54, 0), (0x60, 0), (0x61, 0),
   (0x62, 0), (0x63, 1), (0x65, 0), (0x70, 0), (0x71, 2)]

theorem catalogHas_iff (code : Byte) : catalogHas code = true ↔ code ∈ sizedCodes.map Prod.fst ∨ code ∈ [(0x41 : Byte), 0x64, 0x72] := by
  revert code
  decide

theorem sized_sizedCodes : ∀ x ∈ sizedCodes, Sized x.2 x.1 := by
  have nothing : ∀ {code : Byte} {f : Unit → Instr}, (∀ args, decodeRequest code args = filled (readNothing args) f) → Sized 0 code :=
    sized_of_layout readNothing_eq_none
  have oneByte : ∀ {code : Byte} {f : Nat → Instr}, (∀ args, decodeRequest code args = filled (readByte args) f) → Sized 1 code :=
    sized_of_layout readByte_eq_none
  have oneWord : ∀ {code : Byte} {f : Nat → Instr}, (∀ args, decodeRequest code args = filled (readWord args) f) → Sized 2 code :=
    sized_of_layout readWord_eq_none
  have handle : ∀ {code : Byte} {f : Handle → Instr}, (∀ args, decodeRequest code args = filled (readHandle args) f) → Sized 2 code :=
    sized_of_layout readHandle_eq_none
  have admitArgs : ∀ {code : Byte} {f : AdmitArgs → Instr}, (∀ args, decodeRequest code args = filled (readAdmit args) f) → Sized 12 code :=
    sized_of_layout readAdmit_eq_none
  have revise : ∀ {code : Byte} {f : ReviseArgs → Instr}, (∀ args, decodeRequest code args = filled (readRevise args) f) → Sized 14 code :=
    sized_of_layout readRevise_eq_none
  simp only [sizedCodes, List.forall_mem_cons, List.not_mem_nil, false_implies, implies_true, and_true]
  exact ⟨admitArgs fun _ => rfl, admitArgs fun _ => rfl, revise fun _ => rfl, revise fun _ => rfl, handle fun _ => rfl, handle fun _ => rfl,
    handle fun _ => rfl, oneWord fun _ => rfl, oneByte fun _ => rfl, nothing fun _ => rfl, handle fun _ => rfl, handle fun _ => rfl,
    nothing fun _ => rfl, nothing fun _ => rfl, nothing fun _ => rfl, oneByte fun _ => rfl, oneByte fun _ => rfl, oneByte fun _ => rfl,
    nothing fun _ => rfl, oneWord fun _ => rfl, oneByte fun _ => rfl, sized_of_layout readPoint_eq_none fun _ => rfl,
    sized_of_layout readLux_eq_none fun _ => rfl, oneByte fun _ => rfl, sized_of_layout readPin_eq_none fun _ => rfl, nothing fun _ => rfl,
    nothing fun _ => rfl, nothing fun _ => rfl, nothing fun _ => rfl, nothing fun _ => rfl, nothing fun _ => rfl, nothing fun _ => rfl,
    nothing fun _ => rfl, nothing fun _ => rfl, oneByte fun _ => rfl, nothing fun _ => rfl, nothing fun _ => rfl,
    sized_of_layout readAcknowledge_eq_none fun _ => rfl⟩

/-! ### Taking a frame (R176 to R178, R187) -/

theorem acknowledges_iff (address : Nat) (s : State) : acknowledges address s = true ↔ Alive s ∧ address = portAddress s.port := by
  simp [acknowledges, Alive]

theorem acknowledges_eq_false {address : Nat} {s : State} (h : s.power = .stopped ∨ address ≠ portAddress s.port) :
    acknowledges address s = false := by
  rw [← Bool.not_eq_true, acknowledges_iff]
  rintro ⟨ha, he⟩
  exact h.elim ha fun hne => hne he

theorem exec_frame_eq {s : State} (ha : Alive s) (bytes : List Byte) : exec (.frame bytes) s = takeFrame bytes s :=
  if_pos ((acknowledges_iff _ s).mpr ⟨ha, rfl⟩)

theorem exec_frame_of_stopped {s : State} (h : s.power = .stopped) (bytes : List Byte) : exec (.frame bytes) s = .next s :=
  if_neg (by simp [acknowledges_eq_false (.inl h)])

theorem takeSized_of_undefined {len : Byte} (h : readLength len = none) (code : Byte) (args : List Byte) (s : State) :
    takeSized code len args s = portRefusal .badLength s := by rw [takeSized, h]

theorem takeSized_of_other {len : Byte} {n : Nat} {more : Bool} (h : readLength len = some (n, more)) {args : List Byte} (hn : args.length ≠ n)
    (code : Byte) (s : State) : takeSized code len args s = portRefusal .badLength s := by
  rw [takeSized, h]
  exact if_pos hn

theorem takeSized_of_length {len : Byte} {args : List Byte} {more : Bool} (h : readLength len = some (args.length, more)) (code : Byte)
    (s : State) : takeSized code len args s = if more then takeMoreFollows code args s else takeFinal code args s := by
  rw [takeSized, h]
  exact if_neg (fun hne => hne rfl)

theorem takeMoreFollows_of_unknown {code : Byte} (h : catalogHas code = false) (args : List Byte) (s : State) :
    takeMoreFollows code args s = portRefusal .unknownRequest s := if_pos (by simp [h])

theorem takeFinal_of_unknown {code : Byte} (h : catalogHas code = false) (args : List Byte) (s : State) :
    takeFinal code args s = portRefusal .unknownRequest s := if_pos (by simp [h])

theorem takeMoreFollows_of_long {code : Byte} (h : catalogHas code = true) {args : List Byte} {s : State}
    (hl : 96 < (heldArgs code s.port ++ args).length) : takeMoreFollows code args s = portRefusal .badLength s :=
  (if_neg (by simp [h])).trans (if_pos hl)

theorem takeFinal_of_long {code : Byte} (h : catalogHas code = true) {args : List Byte} {s : State}
    (hl : 96 < (heldArgs code s.port ++ args).length) : takeFinal code args s = portRefusal .badLength s :=
  (if_neg (by simp [h])).trans (if_pos hl)

theorem takeMoreFollows_of_fits {code : Byte} (h : catalogHas code = true) {args : List Byte} {s : State}
    (hl : (heldArgs code s.port ++ args).length ≤ 96) : takeMoreFollows code args s =
      event s fun s => { s with port := assemble code (heldArgs code s.port ++ args) s.port } :=
  (if_neg (by simp [h])).trans (if_neg (Nat.not_lt.mpr hl))

theorem takeFinal_of_fits {code : Byte} (h : catalogHas code = true) {args : List Byte} {s : State}
    (hl : (heldArgs code s.port ++ args).length ≤ 96) : takeFinal code args s = takeRequest code (heldArgs code s.port ++ args) s :=
  (if_neg (by simp [h])).trans (if_neg (Nat.not_lt.mpr hl))

theorem readLength_of_final {len : Byte} (h : len.toNat ≤ 40) : readLength len = some (len.toNat, false) := if_pos h

theorem readLength_of_more {len : Byte} (h : 0x80 ≤ len.toNat) (h' : len.toNat ≤ 0xA8) : readLength len = some (len.toNat - 0x80, true) :=
  (if_neg (by omega)).trans (if_pos ⟨h, h'⟩)

theorem readLength_of_undefined {len : Byte} (h : 41 ≤ len.toNat) (h' : len.toNat ≤ 127 ∨ 0xA9 ≤ len.toNat) : readLength len = none :=
  (if_neg (by omega)).trans (if_neg (by omega))

/-- R112: a part that has stopped takes no request. -/
theorem exec_request_of_stopped {c : Instr} (h : isPlainRequest c = true ∨ isLoadRequest c = true) {s : State} (hs : s.power = .stopped) :
    exec c s = .next s := by
  rcases h with h | h
  · rw [exec_plainRequest h, request_of_stopped hs]
  · rw [exec_loadRequest h, loadRequest_of_stopped hs]

theorem exec_isNext (c : Instr) (s : State) : ∃ t, exec c s = .next t := by
  obtain ⟨t, ht, -⟩ := everyCommandAnswersNext c s
  exact ⟨t, ht⟩

/-- R177 step 5: a final frame does what the request does that it spells. -/
theorem exec_frame_of_request {s : State} {code : Byte} {args : List Byte} {c : Instr} (hn : args.length ≤ 40)
    (hl : (heldArgs code s.port ++ args).length ≤ 96) (hc : decodeRequest code (heldArgs code s.port ++ args) = .ok c) :
    exec (.frame (code :: byte args.length :: args)) s = exec c s := by
  have hreq := isRequest_of_decodeRequest hc
  by_cases hs : s.power = .stopped
  · rw [exec_frame_of_stopped hs, exec_request_of_stopped hreq hs]
  · have hcat : catalogHas code = true := by
      refine Classical.byContradiction fun hno => ?_
      rw [decodeRequest_of_unknown (Bool.not_eq_true _ ▸ hno)] at hc
      cases hc
    have hlen : (byte args.length).toNat = args.length := toNat_byte (by omega)
    have hread : readLength (byte args.length) = some (args.length, false) := by
      rw [readLength_of_final (by omega), hlen]
    rw [exec_frame_eq hs, takeFrame, takeSized_of_length hread, if_neg (by decide), takeFinal_of_fits hcat hl, takeRequest, hc]
    exact runRequest_eq_exec hreq s

/-- Settles O13: the port's checks in their order, the catalog by its layouts, and the frame that passes them all. -/
theorem framesAreRefusedOrCarryTheirRequest : Obligations.FramesAreRefusedOrCarryTheirRequest := by
  refine ⟨fun s ha code len args => ?_, fun len => ⟨readLength_of_final, fun h h' => readLength_of_undefined h (.inl h'),
    readLength_of_more, fun h => readLength_of_undefined (by omega) (.inr h)⟩, fun code p => rfl,
    ⟨catalogHas_iff, sized_sizedCodes, rfl, fun n points h => ?_, fun args h0 h6 => ?_, rfl, fun n value => ?_⟩,
    fun s code args c hn hl hc => ?_, fun s => ?_⟩
  · have hframe : exec (.frame (code :: len :: args)) s = takeSized code len args s := exec_frame_eq ha _
    have refused : ∀ {st}, takeSized code len args s = portRefusal st s → exec (.frame (code :: len :: args)) s = .next (refusedWith st s) :=
      fun h => hframe.trans (h.trans (portRefusal_of_alive ha _))
    refine ⟨(exec_frame_eq ha _).trans (portRefusal_of_alive ha _), fun h => refused (takeSized_of_undefined h code args s),
      fun n more h hn => refused (takeSized_of_other h hn code s), fun more h => ⟨fun hc => ?_, fun hc hl => ?_⟩, fun h hc hl st hst => ?_⟩
    · refine refused ((takeSized_of_length h code s).trans ?_)
      rw [takeMoreFollows_of_unknown hc, takeFinal_of_unknown hc, ite_self]
    · refine refused ((takeSized_of_length h code s).trans ?_)
      rw [takeMoreFollows_of_long hc hl, takeFinal_of_long hc hl, ite_self]
    · refine refused ((takeSized_of_length h code s).trans ?_)
      rw [if_neg (by decide), takeFinal_of_fits hc hl, takeRequest, hst]
  · show filled (readCurve (n :: points)) .curveSet = _
    rw [readCurve_eq_none h]
    rfl
  · show filled (readMaskRequest args) .mask = _
    rw [readMaskRequest_eq_none h0 h6]
    rfl
  · intro width fills
    have hfills : settingFills n.toNat value = true ↔ fills := settingFills_iff value
    refine ⟨fun hn => decodeProfileWrite_of_no_setting ?_ value, fun h1 h29 hnf =>
      decodeProfileWrite_of_short ((settingExists_iff _).mpr ⟨h1, h29⟩) ?_⟩
    · rw [← Bool.not_eq_true, settingExists_iff]
      omega
    · rw [← Bool.not_eq_true, hfills]
      exact hnf
  · obtain ⟨t, ht⟩ := exec_isNext c s
    exact ⟨t, (exec_frame_of_request hn hl hc).trans ht, ht⟩
  · show (if acknowledges (portAddress s.port) s then takeFrame [] s else .next s) = _
    exact ite_self _

end Sys2Proof.Machine
end

section
/-!
PROOFS. Long requests, read transfers and the round trip of every request: O14 and O15.
-/
namespace Sys2Proof.Machine

/-! ### Long requests (R178) -/

theorem exec_moreFollowsFrame_of_length {args : List Byte} (h : args.length ≤ 40) (code : Byte) (s : State) :
    exec (.moreFollowsFrame code args) s = takeMoreFollows code args s := if_neg (Nat.not_lt.mpr h)

/-- R178: what is held once a frame has been joined to the assembly of its code. -/
theorem heldArgs_append (code : Byte) (p : PortRec) (args : List Byte) : heldArgs code p ++ args =
    match p.assembly with
    | some a => if a.code = code then a.args ++ args else args
    | none => args := by
  unfold heldArgs
  cases p.assembly with
  | none => rfl
  | some a =>
    dsimp only
    split <;> rfl

/-- R112: the part stopped, a frame with the mark does nothing either way it is sent. -/
theorem exec_frame_of_more {args : List Byte} (h : args.length ≤ 40) {s : State} (ha : Alive s) (code : Byte) :
    exec (.frame (code :: byte (0x80 + args.length) :: args)) s = exec (.moreFollowsFrame code args) s := by
  have hlen : (byte (0x80 + args.length)).toNat = 0x80 + args.length := toNat_byte (by omega)
  have hread : readLength (byte (0x80 + args.length)) = some (args.length, true) := by
    rw [readLength_of_more (by omega) (by omega), hlen, Nat.add_sub_cancel_left]
  rw [exec_frame_eq ha, takeFrame, takeSized_of_length hread, if_pos rfl, exec_moreFollowsFrame_of_length h]

/-! ### Read transfers (R176, R179) -/

/-- The bytes of a list read position by position, the fill behind them. -/
theorem map_getD_range {α : Type} (xs : List α) (fill : α) (n : Nat) :
    ((List.range (xs.length + n)).map fun i => xs.getD i fill) = xs ++ List.replicate n fill := by
  refine List.ext_getElem (by simp) fun i h1 _ => ?_
  rw [List.getElem_map, List.getElem_range]
  by_cases hi : i < xs.length
  · rw [List.getElem_append_left hi, List.getD_eq_getElem?_getD, List.getElem?_eq_getElem hi, Option.getD_some]
  · rw [List.getElem_append_right (Nat.not_lt.mp hi), List.getElem_replicate, List.getD_eq_getElem?_getD,
      List.getElem?_eq_none (Nat.not_lt.mp hi), Option.getD_none]

theorem readTransfer_eq (p : PortRec) {bs : List Byte} (h : replyBytes (heldReply p) = bs) (n : Nat) :
    readTransfer p (bs.length + n) = bs ++ List.replicate n 0xFF := by
  have hbyte : readByteAt p = fun i => bs.getD i 0xFF := funext fun i => by rw [readByteAt, h]
  rw [readTransfer, hbyte]
  exact map_getD_range bs 0xFF n

/-- Settles O14: the assembly by the frame that joins it, the transfers by the address, a read by its reply. -/
theorem longRequestsAndReadTransfers : Obligations.LongRequestsAndReadTransfers := by
  refine ⟨fun s code args ha hn hc => ?_, fun p => rfl, fun s address length bytes => ⟨?_, rfl, fun ha he => ?_, fun h => ?_⟩,
    fun p r n hr => ?_, fun p n hr => ?_⟩
  · intro held
    have hheld : heldArgs code s.port ++ args = held := heldArgs_append code s.port args
    refine ⟨fun hl => ?_, fun hl => ?_, exec_frame_of_more hn ha code⟩
    · rw [exec_moreFollowsFrame_of_length hn, takeMoreFollows_of_fits hc (hheld.symm ▸ hl), event_of_alive ha]
      dsimp only
      rw [hheld]
      rfl
    · rw [exec_moreFollowsFrame_of_length hn, takeMoreFollows_of_long hc (hheld.symm ▸ hl), portRefusal_of_alive ha]
  · refine acknowledges_eq_false (.inr ?_)
    unfold portAddress
    split <;> decide
  · have hack : acknowledges address s = true := (acknowledges_iff address s).mpr ⟨ha, he⟩
    refine ⟨hack, ?_, ?_, if_pos hack⟩
    · rw [writeAcknowledges, hack, List.map_const']
    · rw [exec_frame_eq ha]
      exact if_pos hack
  · have hack : acknowledges address s = false := acknowledges_eq_false h
    refine ⟨hack, ?_, if_neg (by simp [hack]), if_neg (by simp [hack])⟩
    rw [writeAcknowledges, hack, List.map_const']
  · have hheld : replyBytes (heldReply p) = r.status.code :: byte r.payload.length :: r.payload := by simp [heldReply, hr, replyBytes]
    have hread := readTransfer_eq p hheld n
    rwa [List.length_cons, List.length_cons, show r.payload.length + 1 + 1 = 2 + r.payload.length by omega] at hread
  · have hheld : replyBytes (heldReply p) = [0xFE, 0x00] := by
      rw [heldReply, hr]
      rfl
    exact readTransfer_eq p hheld n

/-! ### What a layout reads of the bytes that spell it (9.4) -/

theorem readHandle_handleBytes {h : Handle} (hw : h.wellFormed = true) : readHandle (handleBytes h) = some h := by
  simp only [Handle.wellFormed, Bool.and_eq_true, fitsByte_iff] at hw
  show some (⟨(byte h.slot).toNat, (byte h.generation).toNat⟩ : Handle) = some h
  rw [toNat_byte hw.1, toNat_byte hw.2]

theorem readAdmit_admitBytes {a : AdmitArgs} (hw : a.wellFormed = true) : readAdmit (admitBytes a) = some a := by
  simp only [AdmitArgs.wellFormed, Bool.and_eq_true, fitsByte_iff, fitsWord_iff] at hw
  obtain ⟨⟨⟨⟨⟨⟨⟨hkind, hrank⟩, hreq⟩, htag⟩, hrail⟩, hmin⟩, hfall⟩, hlease⟩ := hw
  show some ({ kind := (byte a.kind).toNat, rank := (byte a.rank).toNat, requested := fromLE (word a.requested), tag := fromLE (word a.tag),
               rail := (byte a.rail).toNat, minimum := fromLE (word a.minimum), fallAction := (byte a.fallAction).toNat,
               leasePeriod := fromLE (word a.leasePeriod) } : AdmitArgs) = some a
  rw [toNat_byte hkind, toNat_byte hrank, fromLE_word hreq, fromLE_word htag, toNat_byte hrail, fromLE_word hmin, toNat_byte hfall,
    fromLE_word hlease]

theorem readRevise_reviseBytes {a : ReviseArgs} (hw : a.wellFormed = true) : readRevise (reviseBytes a) = some a := by
  simp only [ReviseArgs.wellFormed, Handle.wellFormed, Bool.and_eq_true, fitsByte_iff, fitsWord_iff] at hw
  obtain ⟨⟨⟨⟨⟨⟨⟨⟨hslot, hgen⟩, hrank⟩, hreq⟩, hmin⟩, htag⟩, hfall⟩, hlease⟩, hrail⟩ := hw
  show some ({ handle := ⟨(byte a.handle.slot).toNat, (byte a.handle.generation).toNat⟩, named := a.named, rank := (byte a.rank).toNat,
               requested := fromLE (word a.requested), minimum := fromLE (word a.minimum), tag := fromLE (word a.tag),
               fallAction := (byte a.fallAction).toNat, leasePeriod := fromLE (word a.leasePeriod), rail := (byte a.rail).toNat } : ReviseArgs) =
    some a
  rw [toNat_byte hslot, toNat_byte hgen, toNat_byte hrank, fromLE_word hreq, fromLE_word hmin, fromLE_word htag, toNat_byte hfall,
    fromLE_word hlease, toNat_byte hrail]

theorem readByte_byte {n : Nat} (h : fitsByte n = true) : readByte [byte n] = some n :=
  congrArg some (toNat_byte ((fitsByte_iff n).mp h))

theorem readWord_word {n : Nat} (h : fitsWord n = true) : readWord (word n) = some n :=
  congrArg some (fromLE_word ((fitsWord_iff n).mp h))

theorem readLux_lux {n : Nat} (h : fitsLux n = true) : readLux (leBytes 3 n) = some n :=
  congrArg some (fromLE_leBytes (width := 3) (lt_of_lt_of_eq ((fitsLux_iff n).mp h) (by decide)))

theorem readPin_words {level duration : Nat} (hl : fitsWord level = true) (hd : fitsWord duration = true) :
    readPin (word level ++ word duration) = some (level, duration) := by
  show some (fromLE (word level), fromLE (word duration)) = _
  rw [fromLE_word ((fitsWord_iff level).mp hl), fromLE_word ((fitsWord_iff duration).mp hd)]

theorem readAcknowledge_bytes {source : Nat} (h : fitsByte source = true) (reasons : Byte) :
    readAcknowledge [byte source, reasons] = some (source, reasons) := by
  show some ((byte source).toNat, reasons) = _
  rw [toNat_byte ((fitsByte_iff source).mp h)]

theorem length_curveBytes (ps : List Point) : (curveBytes ps).length = 1 + 5 * ps.length := by
  rw [curveBytes_eq, List.length_cons, length_flatMap_pointBytes, Nat.add_comm]

/-- What a request spells is read back, and fits an assembly. -/
def ReadBack (c : Instr) (code : Byte) (args : List Byte) : Prop := decodeRequest code args = .ok c ∧ args.length ≤ 96

/-- A layout that reads its own bytes back gives its request. -/
theorem readBack_of_layout {α : Type} {read : List Byte → Option α} {f : α → Instr} {code : Byte} {args : List Byte} {x : α} {c : Instr}
    (hcode : decodeRequest code args = filled (read args) f) (hread : read args = some x) (hc : f x = c) (hlen : args.length ≤ 96) :
    ReadBack c code args := ⟨by rw [hcode, hread, ← hc]; rfl, hlen⟩

theorem readBack_profileWrite {n : Nat} {value : List Byte} (hn : fitsByte n = true) (hlen : 1 + value.length ≤ 96)
    (he : settingExists n = true) (hf : settingFills n value = true) : ReadBack (.profileWrite n value) 0x64 (byte n :: value) := by
  have hnat : (byte n).toNat = n := toNat_byte ((fitsByte_iff n).mp hn)
  have hwrite : decodeProfileWrite (byte n :: value) = .ok (.profileWrite (byte n).toNat value) :=
    decodeProfileWrite_of_fills (by rwa [hnat]) (by rwa [hnat])
  rw [hnat] at hwrite
  exact ⟨hwrite, by rw [List.length_cons]; omega⟩

/-- 9.4: every well-formed request that its frame spells is read back. -/
theorem readBack_of_frame {c : Instr} {code : Byte} {args : List Byte} (hw : c.wellFormed = true) (h : requestFrame c = some (code, args)) :
    ReadBack c code args := by
  have hword : ∀ n, (word n).length ≤ 96 := fun n => by rw [word, length_leBytes]; decide
  cases c
  case profileWrite n value =>
    simp only [Instr.wellFormed, Bool.and_eq_true, decide_eq_true_eq] at hw
    obtain ⟨hn, hlen⟩ := hw
    simp only [requestFrame] at h
    split at h
    next hset =>
      rw [Bool.and_eq_true] at hset
      obtain ⟨rfl, rfl⟩ := Prod.mk.inj (Option.some.inj h)
      exact readBack_profileWrite hn hlen hset.1 hset.2
    next => cases h
  case mask m =>
    cases m <;> obtain ⟨rfl, rfl⟩ := Prod.mk.inj (Option.some.inj h)
    · exact ⟨rfl, by decide⟩
    · exact ⟨rfl, by simp [maskList]⟩
  all_goals try (cases h; done)
  all_goals obtain ⟨rfl, rfl⟩ := Prod.mk.inj (Option.some.inj h)
  case admitEntry a | stagedAdmit a => exact readBack_of_layout rfl (readAdmit_admitBytes hw) rfl (by simp [admitBytes, word, length_leBytes])
  case revise a | stagedRevise a =>
    exact readBack_of_layout rfl (readRevise_reviseBytes hw) rfl (by simp [reviseBytes, handleBytes, word, length_leBytes])
  case release a | stagedRelease a | query a | confirm a | renew a =>
    exact readBack_of_layout rfl (readHandle_handleBytes hw) rfl (by simp [handleBytes])
  case findTag n | setInlet n => exact readBack_of_layout rfl (readWord_word hw) rfl (hword n)
  case findRail n | bayStatus n | reprobe n | eject n | lightStatus n | panel n | profileRead n =>
    exact readBack_of_layout rfl (readByte_byte hw) rfl (by simp)
  case curveSet ps =>
    simp only [Instr.wellFormed, Bool.and_eq_true, decide_eq_true_eq] at hw
    obtain ⟨hlen, hps⟩ := hw
    exact readBack_of_layout rfl (readCurve_curveBytes (by omega) hps) rfl (by rw [length_curveBytes]; exact hlen)
  case curveAdd p => exact readBack_of_layout rfl (readPoint_pointBytes hw) rfl (by simp [word, length_leBytes])
  case curveRemove lux => exact readBack_of_layout rfl (readLux_lux hw) rfl (by simp [length_leBytes])
  case pin level duration =>
    rw [Instr.wellFormed, Bool.and_eq_true] at hw
    exact readBack_of_layout (f := fun x => .pin x.1 x.2) rfl (readPin_words hw.1 hw.2) rfl (by simp [word, length_leBytes])
  case acknowledge source reasons =>
    exact readBack_of_layout (f := fun x => .acknowledge x.1 x.2) rfl (readAcknowledge_bytes hw reasons) rfl (by simp)
  all_goals exact ⟨rfl, by decide⟩

/-- Settles O15: request by request, each by its layout. -/
theorem requestsRoundTrip : Obligations.RequestsRoundTrip := fun _ _ _ hw h => readBack_of_frame hw h

end Sys2Proof.Machine
end

section
/-!
PROOFS. The requests that read a record, byte for byte: O16.
-/
namespace Sys2Proof.Machine

/-! ### The items of a record (R188, R190, R191) -/

theorem optByte_eq (o : Option Nat) : optByte o = o.elim 0xFF byte := by cases o <;> rfl

theorem optWord_eq (o : Option Nat) : optWord o = o.elim [0xFF, 0xFF] (leBytes 2) := by cases o <;> rfl

theorem optLux_eq (o : Option Nat) : optLux o = o.elim [0xFF, 0xFF, 0xFF] (leBytes 3) := by cases o <;> rfl

theorem optTimer_eq (o : Option Nat) : optTimer o = o.elim [0xFF, 0xFF, 0xFF, 0xFF] fun t => leBytes 4 (t / 2) := by cases o <;> rfl

theorem optCode_eq {α : Type} (code : α → Nat) (o : Option α) : optCode code o = (o.map code).elim 0xFF byte := by cases o <;> rfl

theorem conditionBytes_eq (o : Option Condition) : conditionBytes o =
    o.elim [0, 0, 0, 0] fun c => [byte c.state.code] ++ leBytes 2 c.capability ++ [byte c.request.code] := by cases o <;> rfl

theorem pinBytes_eq (o : Option Pin) : pinBytes o = o.elim [0xFF, 0xFF, 0xFF, 0xFF, 0xFF, 0xFF] fun pin =>
    leBytes 2 pin.level ++ pin.remaining.elim [0xFE, 0xFF, 0xFF, 0xFF] fun t => leBytes 4 (t / 2) := by
  cases o with
  | none => rfl
  | some pin => cases h : pin.remaining <;> simp [pinBytes, optWord, word, h]

theorem pathClosed_eq (r : BayRec) : r.pathClosed = decide (r.state = .online ∨ r.state = .withdrawing) := by
  cases h : r.state <;> simp [BayRec.pathClosed, h]

theorem lampOn_eq (r : BayRec) : r.lampOn = decide (r.state = .released ∨ r.state = .faulted) := by
  cases h : r.state <;> simp [BayRec.lampOn, h]

theorem lines_toList_map {α : Type} (lines : Vector LineRec 4) (f : LineRec → α) :
    lines.toList.map f = (List.finRange 4).map fun n => f lines[n] := by
  refine List.ext_getElem (by simp) fun i h1 _ => ?_
  simp

theorem readBay_bayCode (b : Bay) : readBay (bayCode b) = some b := by cases b <;> rfl

theorem readBay_eq_none {n : Nat} (h : 2 ≤ n) : readBay n = none := by
  match n, h with
  | n + 2, _ => rfl

theorem bayStatus_of_bay (b : Bay) (s : State) : bayStatusRequest (bayCode b) s = (s, okReply (bayStatusBytes b s)) := by
  rw [bayStatusRequest, readBay_bayCode]

theorem bayStatus_of_none {n : Nat} (h : 2 ≤ n) (s : State) : bayStatusRequest n s = refuse .badArgument s := by
  rw [bayStatusRequest, readBay_eq_none h]

theorem lightStatus_of_none {n : Nat} (h : 2 ≤ n) (s : State) : lightStatusRequest n s = refuse .badArgument s := by
  rw [lightStatusRequest, if_neg (by omega), if_neg (by omega)]

theorem alertLow_iff (a : AttentionRec) : a.alertLow = true ↔ ∃ i : Fin 30, a.sets[i] &&& ~~~(maskAt a.masks i) ≠ 0 := by
  simp [AttentionRec.alertLow]

theorem flagByte_alertLow (a : AttentionRec) :
    flagByte a.alertLow = flagByte (decide (∃ i : Fin 30, a.sets[i] &&& ~~~(maskAt a.masks i) ≠ 0)) :=
  congrArg flagByte (Bool.eq_iff_iff.mpr ((alertLow_iff a).trans decide_eq_true_iff.symm))

theorem pendingSources_eq (a : AttentionRec) :
    a.pendingSources = ((List.finRange 30).filter fun i => a.sets[i] != 0).map fun i => (i, a.sets[i]) := by
  rw [AttentionRec.pendingSources, List.filter_map]
  rfl

theorem profileRead_of_bytes {n : Nat} {s : State} {bytes : List Byte} (h : settingBytes s.store.working n = some bytes) :
    profileReadRequest n s = (s, okReply bytes) := by
  rw [profileReadRequest, show s.profile = s.store.working from rfl, h]

theorem settingBytes_eq_none {p : Profile} {n : Nat} (h : n = 0 ∨ 29 < n) : settingBytes p n = none := by
  unfold settingBytes
  split
  case h_30 => rfl
  all_goals omega

theorem profileRead_of_none {n : Nat} (h : n = 0 ∨ 29 < n) (s : State) : profileReadRequest n s = refuse .badArgument s := by
  rw [profileReadRequest, settingBytes_eq_none h]

/-- Settles O16: each record item by item. -/
theorem statusReadsChangeNothing : Obligations.StatusReadsChangeNothing := by
  refine ⟨fun s ha => ?_, by decide⟩
  intro answers flag opt1 opt2 opt3 time condition sensor curve
  have reads : ∀ {c bytes bytes'}, isPlainRequest c = true → requestChange c s = (s, okReply bytes) → bytes = bytes' →
      exec c s = answers bytes' := fun hc h hb => hb ▸ exec_plain_eq ha hc h
  refine ⟨fun b => ?_, fun n h => exec_plain_refused ha rfl (bayStatus_of_none h s), ?_, ?_, exec_plain_eq ha rfl rfl,
    fun n h => exec_plain_refused ha rfl (lightStatus_of_none h s), ?_, ?_, ?_⟩
  · refine reads rfl (bayStatus_of_bay b s) ?_
    simp only [bayStatusBytes, optCode_eq, conditionBytes_eq, optByte_eq, optTimer_eq, requalifyBytes, optWord_eq, pathClosed_eq, lampOn_eq,
      List.append_assoc]
    rfl
  · refine reads rfl rfl ?_
    simp only [supplyStatusBytes, optCode_eq, optTimer_eq]
    rfl
  · refine reads rfl rfl ?_
    simp only [lightStatusBytes, sensorBytes, optLux_eq, pinBytes_eq]
    rfl
  · refine reads rfl rfl ?_
    simp only [fallStatusBytes, optWord_eq, lines_toList_map]
    rfl
  · refine reads rfl rfl ?_
    rw [summaryBytes, flagByte_alertLow, pendingSources_eq, List.flatMap_map, List.length_map]
    rfl
  · intro p settings
    refine ⟨fun k bytes hk => exec_plain_eq ha rfl (profileRead_of_bytes ?_), fun n h => exec_plain_refused ha rfl (profileRead_of_none h s)⟩
    have hlist : ∀ k, settings[k]? = settingBytes s.store.working (k + 1) := fun k => by
      match k with
      | 0 | 1 | 2 | 3 | 4 | 5 | 6 | 7 | 8 | 9 | 10 | 11 | 12 | 13 | 14 | 15 | 16 | 17 | 18 | 19 | 20 | 21 | 22 | 23 | 24 | 25 | 26 | 27 | 28 => rfl
      | k + 29 => rfl
    rw [← hlist]
    exact hk

end Sys2Proof.Machine
end

section
/-!
PROOFS. The load requests that read the table: what a handle names, the table as the Load Manager meets it, and each read: O17.
-/
namespace Sys2Proof.Machine

/-! ### The shape of a load request -/

/-- A load request, its change and its reply known at the table as the Load Manager meets it. -/
theorem exec_load_eq {c : Instr} {s u : State} {r : Reply} (ha : Alive (atLoadManager s)) (h : isLoadRequest c = true)
    (hu : requestChange c (atLoadManager s) = (u, r)) : exec c s = .next (answered r u) := by
  rw [exec_loadRequest h, loadRequest_of_alive ha, hu]

/-- A load request that the Load Manager refuses. -/
theorem exec_load_refused {c : Instr} {s : State} {st : Status} (ha : Alive (atLoadManager s)) (h : isLoadRequest c = true)
    (hu : requestChange c (atLoadManager s) = refuse st (atLoadManager s)) : exec c s = .next (refusedWith st (atLoadManager s)) :=
  exec_load_eq ha h hu

theorem running_eq_false {s : State} (h : s.system.state ≠ .run) : running s = false := by
  rw [← Bool.not_eq_true, running_iff]
  exact h

theorem isLoadReset_iff (c : Instr) : isLoadReset c = true ↔ c = .loadManagerPartReset ∨ c = .loadManagerSystemOffClear := by
  cases c <;> simp [isLoadReset, route]

/-! ### Handles (R5) -/

theorem lookup_iff (L : LoadRec) (h : Handle) (i : Slot) (e : Entry) :
    L.lookup h = some (i, e) ↔ h.slot = i.val ∧ L.entry i = some e ∧ L.slots[i].generation = h.generation := by
  constructor
  · intro hl
    unfold LoadRec.lookup at hl
    split at hl
    next hs =>
      split at hl
      next he =>
        split at hl
        next hg =>
          simp only [Option.some.injEq, Prod.mk.injEq] at hl
          obtain ⟨rfl, rfl⟩ := hl
          exact ⟨rfl, he, hg⟩
        next => cases hl
      next => cases hl
    next => cases hl
  · rintro ⟨hs, he, hg⟩
    obtain ⟨slot, generation⟩ := h
    obtain rfl : slot = i.val := hs
    have he' : L.slots[i.val].entry = some e := he
    have hg' : L.slots[i.val].generation = generation := hg
    simp [LoadRec.lookup, he', hg']

theorem lookup_handleOf {L : LoadRec} {i : Slot} {e : Entry} (h : L.entry i = some e) : L.lookup (L.handleOf i) = some (i, e) :=
  (lookup_iff L _ i e).mpr ⟨rfl, h, rfl⟩

/-! ### The Draft List behind a reset (R24, R25, R57) -/

/-- R37: a hand-over changes nothing of the table but the grant last handed over. -/
theorem exists_load_handLoadResults (before : LoadRec) (answer : Bool) (s : State) :
    ∃ g, (handLoadResults before answer s).load = { s.load with grantHanded := g } := by
  rcases load_handLoadResults before answer s with h | h
  · exact ⟨s.load.grantHanded, h⟩
  · exact ⟨_, h⟩

theorem draft_handLoadResults (before : LoadRec) (answer : Bool) (s : State) :
    (handLoadResults before answer s).load.draft = s.load.draft := by
  obtain ⟨g, h⟩ := exists_load_handLoadResults before answer s
  rw [h]

theorem draft_runWalk (s : State) : (runWalk s).load.draft = s.load.draft := by
  rw [load_runWalk]
  exact (LoadRec.walked_keeps s.profile s.load).2.2.2.1

theorem draft_modifyEntry (L : LoadRec) (i : Slot) (f : Entry → Entry) : (L.modifyEntry i f).draft = L.draft := by
  unfold LoadRec.modifyEntry
  split <;> rfl

theorem draft_loadChange (f : State → State) (s : State) : (loadChange f s).load.draft = (f s).load.draft := by
  rw [loadChange, draft_handLoadResults]

theorem draft_loadPartReset (s : State) : (loadPartReset s).load.draft = [] := by
  rw [loadPartReset, draft_loadChange]
  dsimp only
  rw [draft_runWalk]

theorem draft_loadSystemOffClear (s : State) : (loadSystemOffClear s).load.draft = [] := by
  rw [loadSystemOffClear, draft_loadChange]
  dsimp only
  rw [draft_runWalk, draft_modifyEntry]

theorem draft_loadResetTakes {c : Instr} (h : isLoadReset c = true) (s : State) : (loadResetTakes c s).load.draft = [] := by
  rcases (isLoadReset_iff c).mp h with rfl | rfl
  · have ht : loadResetTakes .loadManagerPartReset s = loadPartReset s := rfl
    rw [ht, draft_loadPartReset]
  · have ht : loadResetTakes .loadManagerSystemOffClear s = loadSystemOffClear s := rfl
    rw [ht, draft_loadSystemOffClear]

theorem draft_taken {c : Instr} (h : isLoadReset c = true) {s : State} (ha : Alive s) : (taken loadResetTakes s c).load.draft = [] := by
  rw [taken, eventState_of_alive ha]
  exact draft_loadResetTakes h _

/-- What has been taken by a part that still takes events was taken by one that did. -/
theorem alive_of_foldl_taken {takes : Instr → State → State} {cs : List Instr} {s : State} (h : Alive (cs.foldl (taken takes) s)) : Alive s :=
  fun hs => h (by rw [foldl_taken_of_stopped hs]; exact hs)

/-- Resets taken one after the other leave the Draft List empty, if there is one or the list was empty before. -/
theorem draft_foldl_taken {cs : List Instr} (hcs : ∀ c ∈ cs, isLoadReset c = true) {s : State} (ha : Alive (cs.foldl (taken loadResetTakes) s))
    (hd : s.load.draft = [] ∨ cs ≠ []) : (cs.foldl (taken loadResetTakes) s).load.draft = [] := by
  induction cs generalizing s with
  | nil => exact hd.resolve_right fun h => h rfl
  | cons c cs ih =>
    have hc := draft_taken (hcs c (by simp)) (alive_of_foldl_taken ha)
    exact ih (fun d hd => hcs d (by simp [hd])) ha (.inl hc)

/-- R57: the Draft List that a request finds in DARK and STARTING is empty. -/
theorem draft_atLoadManager {s : State} (ha : Alive (atLoadManager s)) (h : DraftLaw s)
    (hs : s.system.state = .dark ∨ s.system.state = .starting) : (atLoadManager s).load.draft = [] := by
  refine draft_foldl_taken (fun c hc => (List.mem_filter.mp hc).2) ha ?_
  rcases h with hd | hr | hr | hc
  · exact .inl hd
  · rcases hs with hs | hs <;> cases hs.symm.trans hr
  · rcases hs with hs | hs <;> cases hs.symm.trans hr
  · exact .inr (List.ne_nil_of_mem (List.mem_filter.mpr ⟨hc, rfl⟩))

/-! ### The reads (R19 to R22, R56) -/

theorem slotsWhere_eq (L : LoadRec) (p : Entry → Bool) : L.slotsWhere p = (List.finRange 24).filter fun i => (L.entry i).any p := by
  unfold LoadRec.slotsWhere
  refine List.filter_congr fun i _ => ?_
  cases L.entry i <;> rfl

theorem readRail_val (r : Fin 12) : readRail r.val = some r := by simp [readRail]

theorem readRail_eq_none {n : Nat} (h : 12 ≤ n) : readRail n = none := by simp [readRail, Nat.not_lt.mpr h]

/-- R11, R21: the one live entry that names a rail holds it. -/
theorem railHolder_of_unique {L : LoadRec} {r : Fin 12} {i : Slot} {e : Entry} (he : L.entry i = some e) (hr : e.rail = some r)
    (hu : ∀ j ej, L.entry j = some ej → ej.rail = some r → j = i) : L.railHolder r = some i := by
  have hmem : i ∈ L.slotsWhere fun e => e.rail == some r := LoadRec.mem_slotsWhere.mpr ⟨e, he, by simp [hr]⟩
  obtain ⟨j, hj⟩ := Option.isSome_iff_exists.mp (List.isSome_head?.mpr (List.ne_nil_of_mem hmem))
  obtain ⟨ej, hej, hejr⟩ := LoadRec.mem_slotsWhere.mp (List.mem_of_mem_head? hj)
  rw [LoadRec.railHolder, hj, hu j ej hej (eq_of_beq hejr)]

theorem findRail_of_holder {r : Fin 12} {i : Slot} {s : State} (h : s.load.railHolder r = some i) :
    findRailRequest r.val s = (s, okReply (handleBytes (s.load.handleOf i))) := by rw [findRailRequest, readRail_val]; dsimp only; rw [h]

theorem findRail_of_free {r : Fin 12} {s : State} (h : s.load.railHolder r = none) :
    findRailRequest r.val s = (s, okReply [0xFF, 0xFF]) := by rw [findRailRequest, readRail_val]; dsimp only; rw [h]

theorem findRail_of_range {n : Nat} (h : 12 ≤ n) (s : State) : findRailRequest n s = refuse .badArgument s := by
  rw [findRailRequest, readRail_eq_none h]

theorem query_of_stale {h : Handle} {s : State} (hl : s.load.lookup h = none) : queryRequest h s = refuse .staleHandle s := by
  rw [queryRequest, hl]

theorem query_of_live {h : Handle} {s : State} {i : Slot} {e : Entry} (hl : s.load.lookup h = some (i, e)) :
    queryRequest h s = (s, okReply (entryBytes i s.load.slots[i].generation e s.attention.sets[entrySource i])) := by
  rw [queryRequest, hl]

theorem draftBytes_eq (n : Nat) (cs : List Change) : draftBytes n cs = (cs.zipIdx n).flatMap fun x => byte x.2 :: changeBytes x.1 := by
  induction cs generalizing n with
  | nil => rfl
  | cons c cs ih => rw [draftBytes, ih, List.zipIdx_cons, List.flatMap_cons]

theorem optRail_eq (o : Option (Fin 12)) : optByte (o.map Fin.val) = o.elim 0xFF fun r => byte r.val := by cases o <;> rfl

theorem leasePeriod_eq (o : Option Lease) : (o.map Lease.period).getD 0 = o.elim 0 Lease.period := by cases o <;> rfl

/-- Settles O17: what a handle names, and each read at the table as the Load Manager meets it. -/
theorem handlesAndReadsOfTheTable : Obligations.HandlesAndReadsOfTheTable := by
  refine ⟨⟨lookup_iff, fun L i e h => lookup_handleOf h⟩, fun s => ?_, by decide⟩
  intro m opt2 handle handles change ha
  have reads : ∀ {c bytes bytes'}, isLoadRequest c = true → requestChange c m = (m, okReply bytes) → bytes = bytes' →
      exec c s = .next (answered (okReply bytes') m) := fun hc h hb => hb ▸ exec_load_eq ha hc h
  refine ⟨atLoadManager_of_none, fun h i e hl => ?_, fun h hl => exec_load_refused ha rfl (query_of_stale hl), fun tag => ?_,
    fun r i e he hr hu => exec_load_eq ha rfl (findRail_of_holder (railHolder_of_unique he hr hu)),
    fun r hr => exec_load_eq ha rfl (findRail_of_free (LoadRec.railHolder_eq_none.mpr hr)),
    fun n h => exec_load_refused ha rfl (findRail_of_range h m), exec_load_eq ha rfl rfl, ?_, fun hd hs => ?_⟩
  · refine reads rfl (query_of_live hl) ?_
    simp only [entryBytes, optRail_eq, leasePeriod_eq, optWord_eq]
    rfl
  · refine reads rfl rfl ?_
    rw [slotsWhere_eq]
    rfl
  · have hchange : ∀ c : Change, changeBytes c = change c := fun c => by cases c <;> rfl
    refine reads rfl rfl ?_
    simp only [draftBytes_eq, hchange]
  · refine reads rfl rfl ?_
    rw [draft_atLoadManager ha hd hs]
    rfl

end Sys2Proof.Machine
end

section
/-!
PROOFS. ADMIT: the record that the arguments give, the number and the place it takes, and the request: O18 and O19.
-/
namespace Sys2Proof.Machine

/-! ### The arguments (R16, R188) -/

theorem readFallAction_iff (n : Nat) (f : Option FallAction) : readFallAction n = some f ↔ n = fallActionCode f := by
  unfold readFallAction
  constructor
  · intro h
    split at h
    · cases h
      assumption
    split at h
    next hr =>
      cases h
      show n = 0x10 + (n - 0x10)
      omega
    next =>
      split at h
      · cases h
        assumption
      · cases h
  · rintro rfl
    match f with
    | none => rfl
    | some .cut => rfl
    | some (.park l) =>
      have hl := l.isLt
      rw [if_neg (by show ¬(0x10 + l.val = 0); omega), dif_pos (by show 0x10 ≤ 0x10 + l.val ∧ 0x10 + l.val < 0x14; omega)]
      simp [fallActionCode]

theorem readRail_iff (n : Nat) (r : Fin 12) : readRail n = some r ↔ n = r.val := by
  constructor
  · intro h
    unfold readRail at h
    split at h
    · cases h
      rfl
    · cases h
  · rintro rfl
    exact readRail_val r

theorem leasePeriodOk_iff (n : Nat) : leasePeriodOk n = true ↔ n ≤ 600 := by simp [leasePeriodOk]

/-- R16: the record of a SWITCHED entry. -/
theorem admitRecord_switched {a : AdmitArgs} {r : Fin 12} {fall : Option FallAction} (hk : a.kind = 1) (hrank : a.rank ≤ 7)
    (hlow : 1 ≤ a.requested) (hhigh : a.requested ≤ 800) (hrail : a.rail = r.val) (hmin : a.minimum = 0xFFFF ∨ a.minimum = a.requested)
    (hfall : a.fallAction = fallActionCode fall) (hlease : a.leasePeriod ≤ 600) : admitRecord a = some {
      tag := a.tag, kind := .switched, rail := some r, rank := a.rank, requested := a.requested, minimum := a.requested,
      granted := 0, counted := 0, state := .pending, sequence := 0, fallAction := fall, mark := .clear,
      lease := newLease a.leasePeriod, holdoff := none, grace := none } := by
  have hkind : readHostKind a.kind = some .switched := by rw [hk]; rfl
  rw [admitRecord, if_pos ⟨hrank, hlow, hhigh, (leasePeriodOk_iff _).mpr hlease⟩, hkind, (readFallAction_iff _ _).mpr hfall]
  dsimp only
  rw [(readRail_iff _ _).mpr hrail]
  exact if_pos hmin

/-- R16: the record of a THROTTLED entry. -/
theorem admitRecord_throttled {a : AdmitArgs} {fall : Option FallAction} (hk : a.kind = 2) (hrank : a.rank ≤ 7)
    (hlow : 1 ≤ a.requested) (hhigh : a.requested ≤ 800) (hrail : a.rail = 0xFF) (hmin : 1 ≤ a.minimum) (hmax : a.minimum ≤ a.requested)
    (hfall : a.fallAction = fallActionCode fall) (hcut : fall ≠ some .cut) (hlease : a.leasePeriod ≤ 600) : admitRecord a = some {
      tag := a.tag, kind := .throttled, rail := none, rank := a.rank, requested := a.requested, minimum := a.minimum,
      granted := 0, counted := 0, state := .pending, sequence := 0, fallAction := fall, mark := .clear,
      lease := newLease a.leasePeriod, holdoff := none, grace := none } := by
  have hkind : readHostKind a.kind = some .throttled := by rw [hk]; rfl
  rw [admitRecord, if_pos ⟨hrank, hlow, hhigh, (leasePeriodOk_iff _).mpr hlease⟩, hkind, (readFallAction_iff _ _).mpr hfall]
  exact if_pos ⟨hrail, hmin, hmax, hcut⟩

theorem readHostKind_eq_some {n : Nat} {k : Kind} (h : readHostKind n = some k) : (n = 1 ∧ k = .switched) ∨ (n = 2 ∧ k = .throttled) := by
  unfold readHostKind at h
  split at h
  next hn => exact .inl ⟨hn, (Option.some.inj h).symm⟩
  next =>
    split at h
    next hn => exact .inr ⟨hn, (Option.some.inj h).symm⟩
    next => cases h

/-- R16: what the arguments of an ADMIT keep when they give a record. -/
theorem arguments_of_admitRecord {a : AdmitArgs} (h : (admitRecord a).isSome = true) :
    a.rank ≤ 7 ∧ 1 ≤ a.requested ∧ a.requested ≤ 800 ∧ a.leasePeriod ≤ 600 ∧
    ∃ fall : Option FallAction, a.fallAction = fallActionCode fall ∧
      ((a.kind = 1 ∧ a.rail < 12 ∧ (a.minimum = 0xFFFF ∨ a.minimum = a.requested)) ∨
       (a.kind = 2 ∧ a.rail = 0xFF ∧ 1 ≤ a.minimum ∧ a.minimum ≤ a.requested ∧ fall ≠ some .cut)) := by
  unfold admitRecord at h
  split at h
  case isFalse => cases h
  next hranges =>
    obtain ⟨hrank, hlow, hhigh, hlease⟩ := hranges
    refine ⟨hrank, hlow, hhigh, (leasePeriodOk_iff _).mp hlease, ?_⟩
    split at h
    next fall hkind hfall =>
      refine ⟨fall, (readFallAction_iff _ _).mp hfall, .inl ?_⟩
      have hk : a.kind = 1 := (readHostKind_eq_some hkind).elim And.left fun hx => by cases hx.2
      split at h
      next r hr =>
        have hrail := (readRail_iff _ _).mp hr
        split at h
        next hmin => exact ⟨hk, hrail ▸ r.isLt, hmin⟩
        next => cases h
      next => cases h
    next fall hkind hfall =>
      refine ⟨fall, (readFallAction_iff _ _).mp hfall, .inr ?_⟩
      have hk : a.kind = 2 := (readHostKind_eq_some hkind).elim (fun hx => by cases hx.2) And.left
      split at h
      next hmin => exact ⟨hk, hmin⟩
      next => cases h
    next => cases h

/-! ### The place in the Grant Order (R10) -/

theorem before_iff (L : LoadRec) (i j : Slot) : Before L i j ↔ ∃ ei ej, L.entry i = some ei ∧ L.entry j = some ej ∧
    (ei.rank < ej.rank ∨ (ei.rank = ej.rank ∧ ei.sequence < ej.sequence)) := by simp only [Before, precedes_iff]

/-- R10: an insertion keeps the others as they stand. -/
theorem filter_insertBefore (L : LoadRec) (i : Slot) (e : Entry) (l : List Slot) :
    ((insertBefore L i e l).filter fun j => j != i) = l.filter fun j => j != i := by
  induction l with
  | nil => simp [insertBefore]
  | cons j js ih =>
    unfold insertBefore
    split
    · split
      · rw [List.filter_cons_of_neg (by simp)]
      · rw [List.filter_cons, List.filter_cons, ih]
    · rw [List.filter_cons, List.filter_cons, ih]

theorem erase_insertBefore (L : LoadRec) {i : Slot} (e : Entry) {l : List Slot} (h : i ∉ l) : (insertBefore L i e l).erase i = l := by
  induction l with
  | nil => simp [insertBefore]
  | cons j js ih =>
    rw [List.mem_cons, not_or] at h
    have hji : (j == i) = false := beq_false_of_ne (Ne.symm h.1)
    unfold insertBefore
    split
    · split
      · rw [List.erase_cons_head]
      · rw [List.erase_cons_tail (by simp [hji]), ih h.2]
    · rw [List.erase_cons_tail (by simp [hji]), ih h.2]

/-- R10: a slot that joins stands where its rank and sequence place it. -/
theorem OrderWithout.sorted_join {L : LoadRec} {i : Slot} (h : OrderWithout i L) {e : Entry} (he : L.entry i = some e) :
    (L.join i e).order.Pairwise (Before (L.join i e)) := by
  refine pairwise_insertBefore (L := L) he h.sorted fun j hj => ?_
  obtain ⟨hji, d, hd, -⟩ := (h.members j).mp hj
  exact ⟨d, hd, fun hseq => hji (h.unique j i d e hd he hseq)⟩

/-! ### The number (R13, R14) -/

theorem entry_place_self (L : LoadRec) (i : Slot) (e : Entry) : (L.place i e).entry i = some { e with sequence := L.readyCounter.counter } :=
  LoadRec.entry_setEntry_self _ _ _

theorem entry_place_ne (L : LoadRec) {i j : Slot} (e : Entry) (h : j ≠ i) : (L.place i e).entry j = L.readyCounter.entry j :=
  LoadRec.entry_setEntry_ne _ _ h

theorem counter_place (L : LoadRec) (i : Slot) (e : Entry) : (L.place i e).counter = L.readyCounter.counter + 1 := rfl

theorem order_place (L : LoadRec) (i : Slot) (e : Entry) :
    ∃ M d, (L.place i e).order = insertBefore M i d L.readyCounter.order := ⟨_, _, rfl⟩

theorem readyCounter_of_room {L : LoadRec} (h : L.counter ≠ 4294967295) : L.readyCounter = L := if_neg h

theorem readyCounter_of_full {L : LoadRec} (h : L.counter = 4294967295) : L.readyCounter = L.renumber := if_pos h

theorem order_readyCounter (L : LoadRec) : L.readyCounter.order = L.order := by
  unfold LoadRec.readyCounter
  split
  · exact L.order_renumber
  · rfl

theorem generation_readyCounter (L : LoadRec) (j : Slot) : L.readyCounter.slots[j].generation = L.slots[j].generation := by
  unfold LoadRec.readyCounter
  split
  · simp [LoadRec.renumber, LoadRec.mapEntries]
  · rfl

theorem generation_place (L : LoadRec) (i : Slot) (e : Entry) (j : Slot) : (L.place i e).slots[j].generation = L.slots[j].generation :=
  (LoadRec.generation_setEntry _ i j _).trans (generation_readyCounter L j)

theorem hostSlots_eq (L : LoadRec) : L.hostSlots = (List.finRange 24).filter fun j => j != 0 && (L.entry j).isSome := by
  rw [LoadRec.hostSlots, slotsWhere_eq, List.filter_filter]
  refine List.filter_congr fun j _ => ?_
  cases L.entry j <;> rfl

theorem hostsBelow_eq (L : LoadRec) (n : Nat) :
    L.hostsBelow n = L.hostSlots.filter fun k => (L.entry k).any fun ek => decide (ek.sequence < n) := by
  rw [LoadRec.hostsBelow, slotsWhere_eq, hostSlots_eq, List.filter_filter, List.filter_filter]
  refine List.filter_congr fun j _ => ?_
  cases L.entry j <;> simp [Bool.and_comm]

/-- R10, R13: the entry admitted stands in the Grant Order where its rank and its new sequence place it. -/
theorem sorted_place {L : LoadRec} (hL : GrantOrderLaw L) {i : Slot} {e : Entry} (hi : L.entry i = none) :
    (L.place i e).order.Pairwise (Before (L.place i e)) := by
  have hready : GrantOrderLaw L.readyCounter ∧ L.readyCounter.counter < counterLimit := by
    by_cases hc : L.counter = 4294967295
    · have hlen := L.length_hostSlots
      rw [readyCounter_of_full hc, L.counter_renumber, counterLimit]
      exact ⟨grantOrderLaw_renumber hL, by omega⟩
    · have hmax := hL.counter.2
      rw [readyCounter_of_room hc]
      exact ⟨hL, by unfold counterLimit at *; omega⟩
  have hi1 : L.readyCounter.entry i = none := by simpa [hi] using L.entry_readyCounter_isSome i
  exact (orderWithout_admitted hready.1 hready.2 hi1 (e := { e with sequence := L.readyCounter.counter }) rfl).sorted_join
    (LoadRec.entry_setEntry_self _ _ _)

/-- Settles O18: the record by its kind, the number by the counter, the place by the insertion. -/
theorem admittedRecordAndItsNumber : Obligations.AdmittedRecordAndItsNumber := by
  refine ⟨⟨fun a r fall => admitRecord_switched, fun a fall => admitRecord_throttled, fun a => arguments_of_admitRecord⟩,
    fun L i e hi0 hfree hout => ?_⟩
  intro live
  have hlive : live = L.hostSlots := (hostSlots_eq L).symm
  have herase : (L.place i e).order.erase i = L.order ∧ i ∈ (L.place i e).order := by
    obtain ⟨M, d, ho⟩ := order_place L i e
    rw [ho, order_readyCounter]
    exact ⟨erase_insertBefore M d hout, (mem_insertBefore M i d _ i).mpr (.inl rfl)⟩
  refine ⟨fun hc => ?_, fun hc => ?_, herase.1, herase.2, fun hL => ?_, generation_place L i e⟩
  · rw [counter_place, entry_place_self, readyCounter_of_room hc]
    exact ⟨rfl, rfl, fun j hj => (entry_place_ne L e hj).trans (by rw [readyCounter_of_room hc])⟩
  · rw [counter_place, entry_place_self, entry_place_ne L e (Ne.symm hi0), readyCounter_of_full hc, L.counter_renumber, hlive]
    refine ⟨rfl, rfl, fun j ej hj hj0 hej => ?_, ?_⟩
    · rw [entry_place_ne L e hj, readyCounter_of_full hc, L.entry_renumber, hej, Option.map_some, renumberedEntry, newSequence, if_neg hj0,
        renumbered_eq, hostsBelow_eq]
    · rw [L.entry_renumber]
      cases L.entry 0 <;> rfl
  · exact (sorted_place hL hfree).imp (before_iff _ _ _).mp

/-! ### The request (R15, R16) -/

theorem applyAdmit_of_full {a : AdmitArgs} {e : Entry} {s : State} (h : admitRecord a = some e) (hs : s.load.freeSlot = none) :
    applyAdmit a s = .error .tableFull := by simp only [applyAdmit, h, hs]

theorem applyAdmit_of_free {a : AdmitArgs} {e : Entry} {s : State} {i : Slot} (h : admitRecord a = some e) (hs : s.load.freeSlot = some i) :
    applyAdmit a s = if (e.rail.bind s.load.railHolder).isSome then .error .railTaken
      else .ok ({ s with load := s.load.place i e }, s.load.handleOf i) := by simp only [applyAdmit, h, hs]

theorem freeSlot_eq_none {L : LoadRec} (h : ∀ i : Slot, i ≠ 0 → (L.entry i).isSome = true) : L.freeSlot = none := by
  rw [LoadRec.freeSlot, List.find?_eq_none]
  intro i _ hi
  rw [Bool.and_eq_true, bne_iff_ne, Option.isNone_iff_eq_none] at hi
  have hs := h i hi.1
  rw [hi.2] at hs
  cases hs

/-- R16: the lowest FREE slot from 1 upward. -/
theorem freeSlot_of_lowest {L : LoadRec} {i : Slot} (hi : i ≠ 0) (hfree : L.entry i = none)
    (hlow : ∀ j : Slot, j ≠ 0 → j < i → (L.entry j).isSome = true) : L.freeSlot = some i := by
  have hpi : (i != 0 && (L.entry i).isNone) = true := by simp [hi, hfree]
  rw [LoadRec.freeSlot, List.find?_eq_some_iff_getElem]
  refine ⟨hpi, i.val, by simp, by simp, fun j hj => ?_⟩
  rw [Bool.not_eq_true', ← Bool.not_eq_true, Bool.and_eq_true, bne_iff_ne, Option.isNone_iff_eq_none]
  rintro ⟨hj0, hjn⟩
  have hlt : (List.finRange 24)[j]'(by simp; omega) < i := by simpa [Fin.lt_def] using hj
  have hs := hlow _ hj0 hlt
  rw [hjn] at hs
  cases hs

theorem railHolder_isSome_iff (L : LoadRec) (o : Option (Fin 12)) : (o.bind L.railHolder).isSome = true ↔
    ∃ j ej, L.entry j = some ej ∧ o.isSome = true ∧ ej.rail = o := by
  cases o with
  | none => simp
  | some r =>
    rw [Option.bind_some, ← Decidable.not_iff_not, Bool.not_eq_true, Option.isSome_eq_false_iff, Option.isNone_iff_eq_none, LoadRec.railHolder_eq_none]
    simp

theorem admitRequest_of_not_run {s : State} (h : s.system.state ≠ .run) (a : AdmitArgs) : admitRequest a s = refuse .notRunning s :=
  require_of_false (running_eq_false h)

theorem admitRequest_of_error {s : State} (h : s.system.state = .run) {a : AdmitArgs} {st : Status} (ha : applyAdmit a s = .error st) :
    admitRequest a s = refuse st s := by rw [admitRequest, require_of_true ((running_iff s).mpr h), ha]

theorem admitRequest_of_ok {s u : State} (h : s.system.state = .run) {a : AdmitArgs} {hd : Handle} (ha : applyAdmit a s = .ok (u, hd)) :
    admitRequest a s = (walkedEvent s u, okReply (handleBytes hd)) := by
  rw [admitRequest, require_of_true ((running_iff s).mpr h), ha]
  rfl

/-- Settles O19: the checks of R15 in their order, and the lowest FREE slot. -/
theorem admitTakesTheLowestFreeSlot : Obligations.AdmitTakesTheLowestFreeSlot := by
  intro s a m ha
  refine ⟨fun hs => exec_load_refused ha rfl (admitRequest_of_not_run hs a), fun hs => ⟨fun hr => ?_, fun e hr => ⟨fun hfull => ?_,
    fun i hi hfree hlow => ?_⟩⟩⟩
  · exact exec_load_refused ha rfl (admitRequest_of_error hs (by rw [applyAdmit, hr]))
  · exact exec_load_refused ha rfl (admitRequest_of_error hs (applyAdmit_of_full hr (freeSlot_eq_none hfull)))
  · have happly := applyAdmit_of_free hr (freeSlot_of_lowest hi hfree hlow)
    refine ⟨fun htaken => exec_load_refused ha rfl (admitRequest_of_error hs (happly.trans (if_pos ?_))),
      fun hnone => exec_load_eq ha rfl (admitRequest_of_ok hs (happly.trans (if_neg ?_)))⟩
    · exact (railHolder_isSome_iff _ _).mpr htaken
    · rw [railHolder_isSome_iff]
      rintro ⟨j, ej, hej, hsome, hrail⟩
      exact hnone j ej hej hsome hrail

end Sys2Proof.Machine
end

section
/-!
PROOFS. REVISE: its checks, the record it leaves, and the request: O20.
-/
namespace Sys2Proof.Machine

/-! ### The checks (R17) -/

/-- R17: a named value is in its range. -/
structure RevisesInRange (a : ReviseArgs) : Prop where
  some : a.named ≠ 0
  known : ¬a.named.getLsbD 7 = true
  rank : a.named.getLsbD 0 = true → a.rank ≤ 7
  requested : a.named.getLsbD 1 = true → 1 ≤ a.requested ∧ a.requested ≤ 800
  minimum : a.named.getLsbD 2 = true → 1 ≤ a.minimum ∧ a.minimum ≤ 800
  fallAction : a.named.getLsbD 4 = true → ∃ fall : Option FallAction, a.fallAction = fallActionCode fall
  lease : a.named.getLsbD 5 = true → a.leasePeriod ≤ 600
  rail : a.named.getLsbD 6 = true → a.rail < 12

theorem isSome_readFallAction_iff (n : Nat) : (readFallAction n).isSome = true ↔ ∃ fall : Option FallAction, n = fallActionCode fall := by
  rw [Option.isSome_iff_exists]
  exact exists_congr fun fall => readFallAction_iff n fall

theorem isSome_readRail_iff (n : Nat) : (readRail n).isSome = true ↔ n < 12 := by
  unfold readRail
  split <;> simp_all

theorem implied_iff (b c : Bool) : (!b || c) = true ↔ (b = true → c = true) := by cases b <;> simp

theorem reviseRangesOk_iff (a : ReviseArgs) : reviseRangesOk a = true ↔ RevisesInRange a := by
  simp only [reviseRangesOk, ReviseNamed, Bool.and_eq_true, implied_iff, decide_eq_true_eq, leasePeriodOk_iff, isSome_readFallAction_iff,
    isSome_readRail_iff, bne_iff_ne, Bool.not_eq_true']
  constructor
  · rintro ⟨⟨⟨⟨⟨⟨⟨hsome, hknown⟩, hrank⟩, hreq⟩, hmin⟩, hfall⟩, hlease⟩, hrail⟩
    exact ⟨hsome, by rw [hknown]; decide, hrank, hreq, hmin, hfall, hlease, hrail⟩
  · rintro ⟨hsome, hknown, hrank, hreq, hmin, hfall, hlease, hrail⟩
    exact ⟨⟨⟨⟨⟨⟨⟨hsome, by rwa [Bool.not_eq_true] at hknown⟩, hrank⟩, hreq⟩, hmin⟩, hfall⟩, hlease⟩, hrail⟩

theorem revisesInRange_iff (a : ReviseArgs) : RevisesInRange a ↔
    a.named ≠ 0 ∧ ¬a.named.getLsbD 7 = true ∧ (a.named.getLsbD 0 = true → a.rank ≤ 7) ∧
      (a.named.getLsbD 1 = true → 1 ≤ a.requested ∧ a.requested ≤ 800) ∧
      (a.named.getLsbD 2 = true → 1 ≤ a.minimum ∧ a.minimum ≤ 800) ∧
      (a.named.getLsbD 4 = true → ∃ fall : Option FallAction, a.fallAction = fallActionCode fall) ∧
      (a.named.getLsbD 5 = true → a.leasePeriod ≤ 600) ∧ (a.named.getLsbD 6 = true → a.rail < 12) :=
  ⟨fun ⟨h0, h7, hrank, hreq, hmin, hfall, hlease, hrail⟩ => ⟨h0, h7, hrank, hreq, hmin, hfall, hlease, hrail⟩,
    fun ⟨h0, h7, hrank, hreq, hmin, hfall, hlease, hrail⟩ => ⟨h0, h7, hrank, hreq, hmin, hfall, hlease, hrail⟩⟩

/-- R3, R6, R17: the kind of an entry allows what a revision names. -/
def KindTakes (a : ReviseArgs) (e : Entry) : Prop :=
  (e.kind = .switched → revisedMinimum a e = revisedRequested a e) ∧
  (e.kind = .throttled → ¬a.named.getLsbD 6 = true ∧ revisedMinimum a e ≤ revisedRequested a e ∧
    ¬(a.named.getLsbD 4 = true ∧ a.fallAction = fallActionCode (some .cut))) ∧
  (e.kind = .backlight → ¬a.named.getLsbD 1 = true ∧ ¬a.named.getLsbD 2 = true ∧ ¬a.named.getLsbD 4 = true ∧ ¬a.named.getLsbD 6 = true)

theorem reviseKindOk_iff (a : ReviseArgs) (e : Entry) : reviseKindOk a e = true ↔ KindTakes a e := by
  cases hk : e.kind with
  | switched => simp [reviseKindOk, KindTakes, hk]
  | throttled =>
    have hcut : (!(a.named.getLsbD 4 && readFallAction a.fallAction == some (some .cut))) = true ↔
        ¬(a.named.getLsbD 4 = true ∧ a.fallAction = fallActionCode (some .cut)) := by
      rw [Bool.not_eq_true', ← Bool.not_eq_true, Bool.and_eq_true, beq_iff_eq, readFallAction_iff]
    simp only [reviseKindOk, KindTakes, hk, ReviseNamed, Bool.and_eq_true, hcut, Bool.not_eq_true', Bool.not_eq_true, decide_eq_true_eq,
      reduceCtorEq, false_implies, true_implies, true_and, and_true, and_assoc]
  | backlight => simp [reviseKindOk, KindTakes, hk, ReviseNamed, and_assoc]

theorem reviseStateOk_eq_false_iff (a : ReviseArgs) (e : Entry) : reviseStateOk a e = false ↔
    ((a.named.getLsbD 1 = true ∨ a.named.getLsbD 2 = true) ∧ e.grace.isSome = true) ∨ (a.named.getLsbD 4 = true ∧ e.mark ≠ .clear) ∨
      (a.named.getLsbD 5 = true ∧ a.leasePeriod = 0 ∧ e.state = .lapsed) := by
  simp only [reviseStateOk, ReviseNamed, Bool.and_eq_false_iff, Bool.not_eq_false', Bool.and_eq_true, Bool.or_eq_true, bne_iff_ne,
    beq_iff_eq, or_assoc, and_assoc]

theorem reviseRailTaken_iff (L : LoadRec) (i : Slot) (a : ReviseArgs) : reviseRailTaken L i a = true ↔
    a.named.getLsbD 6 = true ∧ ∃ (r : Fin 12) (j : Slot) (ej : Entry), a.rail = r.val ∧ L.entry j = some ej ∧ ej.rail = some r ∧ j ≠ i := by
  simp only [reviseRailTaken, ReviseNamed, Bool.and_eq_true, List.any_eq_true, LoadRec.mem_slotsWhere, bne_iff_ne, beq_iff_eq]
  refine and_congr_right fun _ => ⟨?_, ?_⟩
  · rintro ⟨j, ⟨ej, hej, hrail, hsome⟩, hji⟩
    obtain ⟨r, hr⟩ := Option.isSome_iff_exists.mp hsome
    exact ⟨r, j, ej, (readRail_iff _ _).mp hr, hej, hrail.trans hr, hji⟩
  · rintro ⟨r, j, ej, ha, hej, hrail, hji⟩
    have hr : readRail a.rail = some r := (readRail_iff _ _).mpr ha
    exact ⟨j, ⟨ej, hej, hrail.trans hr.symm, by rw [hr]; rfl⟩, hji⟩

/-! ### The request (R15, R17) -/

theorem applyRevise_of_stale {a : ReviseArgs} {s : State} (h : s.load.lookup a.handle = none) : applyRevise a s = .error .staleHandle := by
  rw [applyRevise, h]

section
variable {a : ReviseArgs} {s : State} {i : Slot} {e : Entry} (h : s.load.lookup a.handle = some (i, e))
include h

theorem applyRevise_of_argument (hk : ¬(RevisesInRange a ∧ KindTakes a e)) : applyRevise a s = .error .badArgument := by
  rw [← reviseRangesOk_iff, ← reviseKindOk_iff, ← Bool.and_eq_true, Bool.not_eq_true] at hk
  rw [applyRevise, h]
  exact if_pos (by rw [hk]; rfl)

theorem applyRevise_of_known (hr : RevisesInRange a) (hk : KindTakes a e) : applyRevise a s =
    if !reviseStateOk a e then .error .wrongState
    else if reviseRailTaken s.load i a then .error .railTaken
    else .ok ({ s with load := s.load.revise i a e }, reviseWalks a e) := by
  have hok : (reviseRangesOk a && reviseKindOk a e) = true := by
    rw [Bool.and_eq_true, reviseRangesOk_iff, reviseKindOk_iff]
    exact ⟨hr, hk⟩
  rw [applyRevise, h]
  exact if_neg (by simp [hok])

theorem applyRevise_of_held (hr : RevisesInRange a) (hk : KindTakes a e) (hs : reviseStateOk a e = false) :
    applyRevise a s = .error .wrongState := (applyRevise_of_known h hr hk).trans (if_pos (by rw [hs]; rfl))

theorem applyRevise_of_taken (hr : RevisesInRange a) (hk : KindTakes a e) (hs : reviseStateOk a e = true)
    (ht : reviseRailTaken s.load i a = true) : applyRevise a s = .error .railTaken :=
  (applyRevise_of_known h hr hk).trans ((if_neg (by simp [hs])).trans (if_pos ht))

theorem applyRevise_of_free (hr : RevisesInRange a) (hk : KindTakes a e) (hs : reviseStateOk a e = true)
    (ht : reviseRailTaken s.load i a = false) : applyRevise a s = .ok ({ s with load := s.load.revise i a e }, reviseWalks a e) :=
  (applyRevise_of_known h hr hk).trans ((if_neg (by simp [hs])).trans (if_neg (by simp [ht])))

end

theorem reviseRequest_of_not_run {s : State} (h : s.system.state ≠ .run) (a : ReviseArgs) : reviseRequest a s = refuse .notRunning s :=
  require_of_false (running_eq_false h)

theorem reviseRequest_of_error {s : State} (h : s.system.state = .run) {a : ReviseArgs} {st : Status} (ha : applyRevise a s = .error st) :
    reviseRequest a s = refuse st s := by rw [reviseRequest, require_of_true ((running_iff s).mpr h), ha]

theorem reviseRequest_of_ok {s u : State} (h : s.system.state = .run) {a : ReviseArgs} {walks : Bool} (ha : applyRevise a s = .ok (u, walks)) :
    reviseRequest a s = (handLoadResults s.load false (if walks then runWalk u else u), okReply []) := by
  rw [reviseRequest, require_of_true ((running_iff s).mpr h), ha]

theorem reviseWalks_iff (a : ReviseArgs) (e : Entry) : reviseWalks a e = true ↔ e.state.isMember = true ∧
    (a.named.getLsbD 0 = true ∨ a.named.getLsbD 1 = true ∨ a.named.getLsbD 2 = true) := by
  simp only [reviseWalks, ReviseNamed, Bool.and_eq_true, Bool.or_eq_true, or_assoc]
  exact and_comm

/-! ### The record (R17) -/

theorem entry_revise_ne (L : LoadRec) {i j : Slot} (a : ReviseArgs) (e : Entry) (h : j ≠ i) : (L.revise i a e).entry j = L.entry j :=
  (replaces_revise L i a e).other j h

theorem entry_revise_self (L : LoadRec) (i : Slot) (a : ReviseArgs) (e : Entry) : (L.revise i a e).entry i = some (revisedEntry a e) :=
  (replaces_revise L i a e).self

/-- R10: a revision moves its own slot at most. -/
theorem order_revise (L : LoadRec) (i : Slot) (a : ReviseArgs) (e : Entry) : (L.revise i a e).order = L.order ∨
    e.state.isMember = true ∧ ∃ M, (L.revise i a e).order = insertBefore M i (revisedEntry a e) (L.order.filter fun j => j != i) := by
  unfold LoadRec.revise
  dsimp only
  split
  next h =>
    rw [Bool.and_eq_true] at h
    exact .inr ⟨h.2, _, rfl⟩
  next => exact .inl rfl

theorem filter_order_revise (L : LoadRec) (i : Slot) (a : ReviseArgs) (e : Entry) :
    ((L.revise i a e).order.filter fun j => j != i) = L.order.filter fun j => j != i := by
  rcases order_revise L i a e with h | ⟨-, M, h⟩
  · rw [h]
  · rw [h, filter_insertBefore, List.filter_filter]
    simp only [Bool.and_self]

theorem mem_order_revise {L : LoadRec} (hL : GrantOrderLaw L) {i : Slot} {a : ReviseArgs} {e : Entry} (he : L.entry i = some e) (j : Slot) :
    j ∈ (L.revise i a e).order ↔ j ∈ L.order := by
  rcases order_revise L i a e with h | ⟨hm, M, h⟩
  · rw [h]
  · have hi : i ∈ L.order := (hL.members i).mpr ⟨e, he, hm⟩
    rw [h, mem_insertBefore, List.mem_filter, bne_iff_ne]
    exact ⟨fun hj => hj.elim (fun hj => hj ▸ hi) And.left, fun hj => (Decidable.em (j = i)).imp id fun hne => ⟨hj, hne⟩⟩

theorem revisedLease_of_named {a : ReviseArgs} {e : Entry} (h : a.named.getLsbD 5 = true) :
    revisedLease a e = if e.state = .lapsed then some { period := a.leasePeriod, remaining := 0 } else newLease a.leasePeriod := if_pos h

/-- Settles O20: the checks in their order, the order by the insertion, the record field by field. -/
theorem reviseIsCheckedAndSetsItsFields : Obligations.ReviseIsCheckedAndSetsItsFields := by
  refine ⟨fun s a => ?_, fun L i a e he => ⟨fun j hj => entry_revise_ne L a e hj, filter_order_revise L i a e,
    fun hL => ⟨mem_order_revise hL he, (grantOrderLaw_revise hL he).sorted.imp (before_iff _ _ _).mp⟩, revisedEntry a e,
    entry_revise_self L i a e, rfl, rfl, fun h => if_pos h, fun h => ?_, rfl, fun h => if_neg (by simpa [ReviseNamed] using h),
    fun fall h hf => ?_, fun h => if_neg (by simpa [ReviseNamed] using h), fun h hs => ?_, fun h hs => ?_,
    fun h => if_neg (by simpa [ReviseNamed] using h), fun r h hr => (if_pos h).trans ((readRail_iff _ _).mpr hr),
    rfl, rfl, rfl, rfl, rfl, rfl, rfl, rfl⟩⟩
  · intro m names inRange ha
    have hrange : inRange ↔ RevisesInRange a := (revisesInRange_iff a).symm
    refine ⟨fun hs => exec_load_refused ha rfl (reviseRequest_of_not_run hs a), fun hs => ⟨fun hl =>
      exec_load_refused ha rfl (reviseRequest_of_error hs (applyRevise_of_stale hl)), fun i e hl => ?_⟩⟩
    intro q k fits held taken
    have hfits : fits ↔ KindTakes a e := Iff.rfl
    have hheld : held ↔ reviseStateOk a e = false := (reviseStateOk_eq_false_iff a e).symm
    have htaken : taken ↔ reviseRailTaken m.load i a = true := (reviseRailTaken_iff m.load i a).symm
    rw [hrange, hfits, hheld, htaken, Bool.not_eq_false, Bool.not_eq_true]
    refine ⟨fun hno => exec_load_refused ha rfl (reviseRequest_of_error hs (applyRevise_of_argument hl hno)),
      fun hr hk hst => exec_load_refused ha rfl (reviseRequest_of_error hs (applyRevise_of_held hl hr hk hst)),
      fun hr hk hst ht => exec_load_refused ha rfl (reviseRequest_of_error hs (applyRevise_of_taken hl hr hk hst ht)),
      fun hr hk hst ht => ?_⟩
    intro u
    have hwalk : (if reviseWalks a e = true then runWalk u else u) =
        if e.state.isMember = true ∧ (a.named.getLsbD 0 = true ∨ a.named.getLsbD 1 = true ∨ a.named.getLsbD 2 = true) then runWalk u
        else u := ite_of_iff (reviseWalks_iff a e)
    rw [← hwalk]
    exact exec_load_eq ha rfl (reviseRequest_of_ok hs (applyRevise_of_free hl hr hk hst ht))
  · exact if_neg (by simpa [ReviseNamed] using h)
  · have hf' : readFallAction a.fallAction = some fall := (readFallAction_iff _ _).mpr hf
    exact (if_pos h).trans (by rw [hf']; rfl)
  · exact (revisedLease_of_named h).trans (if_neg hs)
  · exact (revisedLease_of_named h).trans (if_pos hs)

end Sys2Proof.Machine
end

section
/-!
PROOFS. The Draft List: staged requests, DISCARD and COMMIT: O24 and O25.
-/
namespace Sys2Proof.Machine

/-! ### Staging (R51) -/

theorem stage_of_not_run {s : State} (h : s.system.state ≠ .run) (ok : Bool) (c : Change) : stage ok c s = refuse .notRunning s :=
  require_of_false (running_eq_false h)

theorem stage_of_argument {s : State} (h : s.system.state = .run) (c : Change) : stage false c s = refuse .badArgument s := by
  rw [stage, require_of_true ((running_iff s).mpr h), require_of_false rfl]

theorem stage_of_full {s : State} (h : s.system.state = .run) (c : Change) (hn : 8 ≤ s.load.draft.length) :
    stage true c s = refuse .draftFull s := by
  rw [stage, require_of_true ((running_iff s).mpr h), require_of_true rfl,
    require_of_false (decide_eq_false (by unfold draftLimit; omega))]

theorem stage_of_room {s : State} (h : s.system.state = .run) (c : Change) (hn : s.load.draft.length < 8) : stage true c s =
    ({ s with load := { s.load with draft := s.load.draft ++ [c] } }, okReply [byte (s.load.draft.length + 1)]) := by
  rw [stage, require_of_true ((running_iff s).mpr h), require_of_true rfl, require_of_true (decide_eq_true (by unfold draftLimit; omega))]

/-- Settles O24: each staged request is the staging of its change. -/
theorem draftTakesStagedRequestsAndDiscard : Obligations.DraftTakesStagedRequestsAndDiscard := by
  refine ⟨fun s x c ok => ?_, fun s => ?_⟩
  · intro m ha hx
    obtain ⟨hload, hstage⟩ : isLoadRequest x = true ∧ requestChange x m = stage ok c m := by
      rcases hx with ⟨a, rfl, rfl, rfl⟩ | ⟨a, rfl, rfl, hok⟩ | ⟨h, rfl, rfl, rfl⟩
      · exact ⟨rfl, rfl⟩
      · have hranges : ok = reviseRangesOk a :=
          Bool.eq_iff_iff.mpr (hok.trans ((revisesInRange_iff a).symm.trans (reviseRangesOk_iff a).symm))
        rw [hranges]
        exact ⟨rfl, rfl⟩
      · exact ⟨rfl, rfl⟩
    refine ⟨fun hs => exec_load_refused ha hload (hstage.trans (stage_of_not_run hs ok c)), fun hs => ⟨fun hok => ?_, fun hok =>
      ⟨fun hn => ?_, fun hn => ?_⟩⟩⟩
    · exact exec_load_refused ha hload (hstage.trans (hok ▸ stage_of_argument hs c))
    · exact exec_load_refused ha hload (hstage.trans (hok ▸ stage_of_full hs c hn))
    · exact exec_load_eq ha hload (hstage.trans (hok ▸ stage_of_room hs c hn))
  · intro m ha
    exact ⟨atLoadManager_of_none, exec_load_eq ha rfl rfl⟩

/-! ### The changes of a commit (R52, R53) -/

theorem commitChanges_of_error {c : Change} {s : State} {st : Status} (h : applyChange c s = .error st) (cs : List Change) :
    commitChanges (c :: cs) s = { state := s, applied := 0, handles := [], rest := c :: cs, stop := some st } := by
  simp only [commitChanges, h]

theorem commitChanges_of_ok {c : Change} {s u : State} {hs : List Handle} (h : applyChange c s = .ok (u, hs)) (cs : List Change) :
    commitChanges (c :: cs) s = { commitChanges cs u with
      applied := (commitChanges cs u).applied + 1, handles := hs ++ (commitChanges cs u).handles } := by
  simp only [commitChanges, h]

/-- R53: what is left is what stands behind the changes applied, and a commit stops exactly when something is left. -/
theorem rest_commitChanges (cs : List Change) (s : State) :
    (commitChanges cs s).rest = cs.drop (commitChanges cs s).applied ∧
      ((commitChanges cs s).stop = none ↔ (commitChanges cs s).rest = []) := by
  induction cs generalizing s with
  | nil => simp [commitChanges]
  | cons c cs ih =>
    cases h : applyChange c s with
    | error st =>
      rw [commitChanges_of_error h]
      simp
    | ok x =>
      rw [commitChanges_of_ok h]
      exact ih x.1

/-! ### COMMIT (R52 to R54) -/

theorem commitRequest_of_not_run {s : State} (h : s.system.state ≠ .run) : commitRequest s = refuse .notRunning s :=
  require_of_false (running_eq_false h)

theorem commitRequest_of_empty {s : State} (h : s.system.state = .run) (hd : s.load.draft = []) : commitRequest s = refuse .draftEmpty s := by
  rw [commitRequest, require_of_true ((running_iff s).mpr h), require_of_false (by rw [hd]; rfl)]

theorem commitRequest_of_draft {s : State} (h : s.system.state = .run) (hd : s.load.draft ≠ []) : commitRequest s =
    (if (commitChanges s.load.draft s).applied = 0 then committed (commitChanges s.load.draft s)
      else handLoadResults s.load false (committed (commitChanges s.load.draft s)),
      { status := if (commitChanges s.load.draft s).stop.isSome then .partialDone else .ok
        payload := commitPayload (commitChanges s.load.draft s) }) := by
  rw [commitRequest, require_of_true ((running_iff s).mpr h), require_of_true (by simpa using hd)]

/-- R53: a commit whose first change fails has changed nothing. -/
theorem commitRequest_of_none_applied {s : State} (h : s.system.state = .run) (hd : s.load.draft ≠ [])
    (h0 : (commitChanges s.load.draft s).applied = 0) : ∃ st, (commitChanges s.load.draft s).stop = some st ∧
      commitRequest s = (s, { status := .partialDone, payload := [0, 0, 1, st.code] }) := by
  obtain ⟨c, cs, hcs⟩ := List.exists_cons_of_ne_nil hd
  cases hc : applyChange c s with
  | ok x =>
    rw [hcs, commitChanges_of_ok hc] at h0
    cases h0
  | error st =>
    have hr : commitChanges s.load.draft s = { state := s, applied := 0, handles := [], rest := s.load.draft, stop := some st } := by
      rw [hcs]
      exact commitChanges_of_error hc cs
    refine ⟨st, by rw [hr], ?_⟩
    rw [commitRequest_of_draft h hd, hr]
    rfl

theorem commitRequest_of_applied {s : State} (h : s.system.state = .run) (hd : s.load.draft ≠ [])
    (h0 : 0 < (commitChanges s.load.draft s).applied) : commitRequest s =
      (walkedEvent s { (commitChanges s.load.draft s).state with
        load := { (commitChanges s.load.draft s).state.load with draft := (commitChanges s.load.draft s).rest } },
        { status := if (commitChanges s.load.draft s).stop.isSome then .partialDone else .ok
          payload := commitPayload (commitChanges s.load.draft s) }) := by
  rw [commitRequest_of_draft h hd, if_neg (Nat.ne_of_gt h0), committed]
  dsimp only
  rw [if_neg (Nat.ne_of_gt h0)]
  rfl

/-! ### A change applied is the request sent alone (R52) -/

/-- The request that does alone what a change does. -/
def aloneOf : Change → Instr
  | .admitEntry a => .admitEntry a
  | .revise a => .revise a
  | .release h => .release h

theorem isLoadRequest_aloneOf (c : Change) : isLoadRequest (aloneOf c) = true := by cases c <;> rfl

theorem alone_of_error {c : Change} {s : State} {st : Status} (h : s.system.state = .run) (hc : applyChange c s = .error st) :
    requestChange (aloneOf c) s = refuse st s := by
  cases c with
  | admitEntry a =>
    cases he : applyAdmit a s with
    | ok x => simp [applyChange, he] at hc
    | error st' =>
      obtain rfl : st' = st := by simpa [applyChange, he] using hc
      exact admitRequest_of_error h he
  | revise a =>
    cases he : applyRevise a s with
    | ok x => simp [applyChange, he] at hc
    | error st' =>
      obtain rfl : st' = st := by simpa [applyChange, he] using hc
      exact reviseRequest_of_error h he
  | release hd =>
    cases he : applyRelease hd s with
    | ok x => simp [applyChange, he] at hc
    | error st' =>
      obtain rfl : st' = st := by simpa [applyChange, he] using hc
      exact releaseRequest_of_error h he

/-- Whether the walk runs behind a change. -/
def Change.walks : Change → State → Prop
  | .revise a, s => ∃ x, s.load.lookup a.handle = some x ∧ x.2.state.isMember = true ∧
      (a.named.getLsbD 0 = true ∨ a.named.getLsbD 1 = true ∨ a.named.getLsbD 2 = true)
  | _, _ => True

/-- R17: a REVISE that has been applied walks as its record and the fields it names have it. -/
theorem walks_of_applyRevise {a : ReviseArgs} {s u : State} {w : Bool} (h : applyRevise a s = .ok (u, w)) :
    w = true ↔ Change.walks (.revise a) s := by
  obtain ⟨i, e, hl, -, -, -, rfl⟩ := applyRevise_eq_ok h
  rw [reviseWalks_iff]
  refine ⟨fun hw => ⟨(i, e), hl, hw⟩, ?_⟩
  rintro ⟨x, hx, hw⟩
  obtain rfl := Option.some.inj (hl.symm.trans hx)
  exact hw

theorem alone_of_ok {c : Change} {s u : State} {hs : List Handle} (h : s.system.state = .run) (hc : applyChange c s = .ok (u, hs)) :
    (c.walks s → requestChange (aloneOf c) s = (walkedEvent s u, okReply (hs.flatMap handleBytes))) ∧
    (¬c.walks s → requestChange (aloneOf c) s = (handLoadResults s.load false u, okReply (hs.flatMap handleBytes))) := by
  cases c with
  | admitEntry a =>
    cases he : applyAdmit a s with
    | error st => simp [applyChange, he] at hc
    | ok x =>
      obtain ⟨rfl, rfl⟩ : x.1 = u ∧ [x.2] = hs := by simpa [applyChange, he] using hc
      refine ⟨fun _ => (admitRequest_of_ok h he).trans ?_, fun hn => absurd trivial hn⟩
      rw [List.flatMap_cons, List.flatMap_nil, List.append_nil]
  | revise a =>
    cases he : applyRevise a s with
    | error st => simp [applyChange, he] at hc
    | ok x =>
      obtain ⟨rfl, rfl⟩ : x.1 = u ∧ [] = hs := by simpa [applyChange, he] using hc
      have hw := walks_of_applyRevise he
      refine ⟨fun hx => (reviseRequest_of_ok h he).trans ?_, fun hx => (reviseRequest_of_ok h he).trans ?_⟩
      · rw [if_pos (hw.mpr hx)]
        rfl
      · rw [if_neg (mt hw.mp hx)]
        rfl
  | release hd =>
    cases he : applyRelease hd s with
    | error st => simp [applyChange, he] at hc
    | ok x =>
      obtain ⟨rfl, rfl⟩ : x = u ∧ [] = hs := by simpa [applyChange, he] using hc
      exact ⟨fun _ => releaseRequest_of_ok h he, fun hn => absurd trivial hn⟩

/-- Settles O25: the list by the changes it holds, the request by what it applied, each change by the request that does it alone. -/
theorem commitAppliesUpToTheFirstFailure : Obligations.CommitAppliesUpToTheFirstFailure := by
  refine ⟨fun s => ?_, fun cs s => ⟨(rest_commitChanges cs s).1, (rest_commitChanges cs s).2, ?_, fun c u hs hc => ?_, fun c st hc => ?_⟩,
    fun c s => ?_⟩
  · intro m ha
    refine ⟨fun hs => exec_load_refused ha rfl (commitRequest_of_not_run hs), fun hs => ⟨fun hd =>
      exec_load_refused ha rfl (commitRequest_of_empty hs hd), fun hd => ?_⟩⟩
    intro r
    refine ⟨fun h0 => ?_, fun h0 => ?_⟩
    · obtain ⟨st, hst, hreq⟩ := commitRequest_of_none_applied hs hd h0
      exact ⟨st, hst, exec_load_eq ha rfl hreq⟩
    · intro u done
      have hreq := commitRequest_of_applied hs hd h0
      refine ⟨fun hstop => exec_load_eq ha rfl (hreq.trans ?_), fun st hstop => exec_load_eq ha rfl (hreq.trans ?_)⟩
      · have hpay : commitPayload r = done := by
          rw [commitPayload, hstop]
          exact List.append_nil _
        show (u, ({ status := if r.stop.isSome then .partialDone else .ok, payload := commitPayload r } : Reply)) = _
        rw [hpay, hstop]
        rfl
      · have hpay : commitPayload r = done ++ [byte (r.applied + 1), st.code] := by
          rw [commitPayload, hstop]
        show (u, ({ status := if r.stop.isSome then .partialDone else .ok, payload := commitPayload r } : Reply)) = _
        rw [hpay, hstop]
        rfl
  · rintro rfl
    exact ⟨rfl, rfl, rfl⟩
  · rw [commitChanges_of_ok hc]
    exact ⟨rfl, rfl, rfl⟩
  · rw [commitChanges_of_error hc]
    exact ⟨rfl, rfl, rfl, rfl⟩
  · intro m alone walks ha hs
    have halone : alone = aloneOf c := by cases c <;> rfl
    have hwalks : walks ↔ c.walks m := by
      cases c with
      | admitEntry a => exact ⟨fun _ => trivial, fun _ b hb => by cases hb⟩
      | revise a => exact ⟨fun hw => hw a rfl, fun hw b hb => by cases hb; exact hw⟩
      | release h => exact ⟨fun _ => trivial, fun _ b hb => by cases hb⟩
    rw [halone, hwalks]
    refine ⟨fun st hc => exec_load_refused ha (isLoadRequest_aloneOf c) (alone_of_error hs hc), fun u hds hc => ?_⟩
    obtain ⟨hw, hn⟩ := alone_of_ok hs hc
    exact ⟨fun hx => exec_load_eq ha (isLoadRequest_aloneOf c) (hw hx), fun hx => exec_load_eq ha (isLoadRequest_aloneOf c) (hn hx)⟩

end Sys2Proof.Machine
end

section
/-!
PROOFS. The Load Manager's events: what the walk, the hand-overs, a cut and a return leave of each record, and what they add; the statements about
the ceiling, the claim of slot 0 and the expiries: O26.
-/
namespace Sys2Proof.Machine

/-! ### What the operations add -/

theorem Grows.raiseAll (as : List Attention) (s : State) : Grows s (s.raiseAll as) :=
  ⟨⟨[], by rw [List.append_nil, State.raiseAll_handed]⟩, as, State.raiseAll_attention as s⟩

theorem Grows.load (L : LoadRec) (s : State) : Grows s { s with load := L } := .same rfl rfl

theorem grows_runWalk (s : State) : Grows s (runWalk s) := (Grows.load _ s).trans (.raiseAll _ _)

theorem grows_walkWhenAny (is : List Slot) (s : State) : Grows s (walkWhenAny is s) := .ite (.refl s) (grows_runWalk s)

theorem grows_handLoadResults (before : LoadRec) (answer : Bool) (s : State) : Grows s (handLoadResults before answer s) := by
  have h1 : Grows s (if s.load.countedTotal = before.countedTotal then s else s.hand (.countedTotalHandover s.load.countedTotal)) :=
    .ite (.refl s) (.hand _ s)
  exact .ite ((h1.trans (.load _ _)).trans (.hand _ _)) h1

theorem grows_loadChange {f : State → State} {s : State} (h : Grows s (f s)) : Grows s (loadChange f s) :=
  h.trans (grows_handLoadResults _ _ _)

theorem grows_cutSlots (is : List Slot) (s : State) : Grows s (cutSlots is s) := by
  induction is generalizing s with
  | nil => exact .refl s
  | cons i is ih => exact ((Grows.load _ s).trans (.raise _ _)).trans (ih _)

theorem grows_returnSlots (is : List Slot) (s : State) : Grows s (returnSlots is s) := by
  induction is generalizing s with
  | nil => exact .refl s
  | cons i is ih =>
    refine Grows.trans ?_ (ih _)
    dsimp only
    split
    · exact .load _ s
    · exact .refl s

/-! ### The table under a hand-over and a walk -/

theorem entry_handLoadResults (before : LoadRec) (answer : Bool) (s : State) (i : Slot) :
    (handLoadResults before answer s).load.entry i = s.load.entry i := by
  obtain ⟨g, h⟩ := exists_load_handLoadResults before answer s
  rw [h]
  rfl

theorem order_handLoadResults (before : LoadRec) (answer : Bool) (s : State) : (handLoadResults before answer s).load.order = s.load.order := by
  obtain ⟨g, h⟩ := exists_load_handLoadResults before answer s
  rw [h]

theorem freeze_handLoadResults (before : LoadRec) (answer : Bool) (s : State) : (handLoadResults before answer s).load.freeze = s.load.freeze := by
  obtain ⟨g, h⟩ := exists_load_handLoadResults before answer s
  rw [h]

theorem order_runWalk (s : State) : (runWalk s).load.order = s.load.order := by
  rw [load_runWalk]
  exact (LoadRec.walked_keeps s.profile s.load).1

theorem freeze_runWalk (s : State) : (runWalk s).load.freeze = s.load.freeze := by
  rw [load_runWalk]
  exact (LoadRec.walked_keeps s.profile s.load).2.2.1

/-- R32, R34: what a walk leaves of a record: another grant at most, under the freeze no greater one, and none for a slot out of the order. -/
structure WalkedTo (s : State) (i : Slot) (e d : Entry) : Prop where
  regranted : Regranted e d
  frozen : s.load.freeze = true → d.granted ≤ e.granted
  outside : i ∉ s.load.order → d = e

theorem WalkedTo.mark {s : State} {i : Slot} {e d : Entry} (h : WalkedTo s i e d) : d.mark = e.mark := by
  have hre := h.regranted
  unfold Regranted at hre
  rw [hre]

theorem exists_entry_runWalk {s : State} {i : Slot} {e : Entry} (he : s.load.entry i = some e) :
    ∃ d, (runWalk s).load.entry i = some d ∧ WalkedTo s i e d := by
  have hsome : ((s.load.walked s.profile).entry i).isSome = true := by rw [LoadRec.isSome_entry_walked, he]; rfl
  obtain ⟨d, hd⟩ := Option.isSome_iff_exists.mp hsome
  obtain ⟨hre, hfrozen, -, hout⟩ := entry_of_walked he hd
  exact ⟨d, by rw [load_runWalk, hd], hre, hfrozen, hout⟩

theorem exists_entry_walkWhenAny (is : List Slot) {s : State} {i : Slot} {e : Entry} (he : s.load.entry i = some e) :
    ∃ d, (walkWhenAny is s).load.entry i = some d ∧ WalkedTo s i e d := by
  unfold walkWhenAny
  split
  · exact ⟨e, he, .refl e, fun _ => Nat.le_refl _, fun _ => rfl⟩
  · exact exists_entry_runWalk he

theorem order_walkWhenAny (is : List Slot) (s : State) : (walkWhenAny is s).load.order = s.load.order := by
  unfold walkWhenAny
  split
  · rfl
  · exact order_runWalk s

theorem freeze_walkWhenAny (is : List Slot) (s : State) : (walkWhenAny is s).load.freeze = s.load.freeze := by
  unfold walkWhenAny
  split
  · rfl
  · exact freeze_runWalk s

/-! ### Cuts and returns (R159, R169) -/

theorem LoadRec.modifyEntry_keeps (L : LoadRec) (i : Slot) (f : Entry → Entry) :
    (L.modifyEntry i f).order = L.order ∧ (L.modifyEntry i f).freeze = L.freeze := by
  unfold LoadRec.modifyEntry
  split <;> exact ⟨rfl, rfl⟩

/-- The state that the cut of one slot leaves. -/
def cutSlot (s : State) (i : Slot) : State := ({ s with load := (s.load.modifyEntry i heldEntry).leave i }).raise (.entry i .held)

theorem cutSlots_cons (i : Slot) (is : List Slot) (s : State) : cutSlots (i :: is) s = cutSlots is (cutSlot s i) := rfl

theorem entry_cutSlot {s : State} {i : Slot} {e : Entry} (he : s.load.entry i = some e) (j : Slot) :
    (cutSlot s j).load.entry i = some (if i = j then heldEntry e else e) := by
  by_cases h : i = j
  · subst h
    rw [cutSlot, State.raise_load, LoadRec.entry_leave, LoadRec.modifyEntry_of_live he, LoadRec.entry_setEntry_self, if_pos rfl]
  · rw [cutSlot, State.raise_load, LoadRec.entry_cut h, he, if_neg h]

theorem mem_order_cutSlot (s : State) (i j : Slot) : i ∈ (cutSlot s j).load.order ↔ i ∈ s.load.order ∧ i ≠ j := by
  rw [cutSlot, State.raise_load, LoadRec.mem_leave, (LoadRec.modifyEntry_keeps _ _ _).1]

/-- R41, R159: each slot of a set that is cut is HELD, out of the Grant Order, with HELD pending; the others are as they were. -/
theorem entry_cutSlots (is : List Slot) {s : State} {i : Slot} {e : Entry} (he : s.load.entry i = some e) :
    (cutSlots is s).load.entry i = some (if i ∈ is then heldEntry e else e) := by
  induction is generalizing s e with
  | nil => simpa [cutSlots] using he
  | cons j is ih =>
    rw [cutSlots_cons, ih (entry_cutSlot he j)]
    by_cases hj : i = j <;> by_cases hi : i ∈ is <;> simp [hj, hi, heldEntry]

theorem mem_order_cutSlots (is : List Slot) (s : State) (i : Slot) : i ∈ (cutSlots is s).load.order ↔ i ∈ s.load.order ∧ i ∉ is := by
  induction is generalizing s with
  | nil => simp [cutSlots]
  | cons j is ih =>
    rw [cutSlots_cons, ih, mem_order_cutSlot, List.mem_cons, not_or, and_assoc]

theorem freeze_cutSlots (is : List Slot) (s : State) : (cutSlots is s).load.freeze = s.load.freeze := by
  induction is generalizing s with
  | nil => rfl
  | cons j is ih =>
    rw [cutSlots_cons, ih, cutSlot, State.raise_load]
    exact (LoadRec.modifyEntry_keeps _ _ _).2

theorem pending_cutSlots {is : List Slot} {i : Slot} (hi : i ∈ is) (s : State) : Pending (.entry i .held) (cutSlots is s) := by
  induction is generalizing s with
  | nil => cases hi
  | cons j is ih =>
    rw [cutSlots_cons]
    rcases List.mem_cons.mp hi with rfl | hi
    · exact (grows_cutSlots is _).pending (pending_raise_self _ _)
    · exact ih hi _

/-- The state that the return of one slot leaves. -/
def returnSlot (s : State) (i : Slot) : State :=
  match s.load.entry i with
  | some e => { s with load := (s.load.setEntry i (some (returnedEntry e))).join i (returnedEntry e) }
  | none => s

theorem returnSlots_cons (i : Slot) (is : List Slot) (s : State) : returnSlots (i :: is) s = returnSlots is (returnSlot s i) := rfl

theorem returnSlot_of_live {s : State} {i : Slot} {e : Entry} (he : s.load.entry i = some e) :
    returnSlot s i = { s with load := (s.load.setEntry i (some (returnedEntry e))).join i (returnedEntry e) } := by simp only [returnSlot, he]

theorem returnSlot_of_free {s : State} {i : Slot} (he : s.load.entry i = none) : returnSlot s i = s := by simp only [returnSlot, he]

theorem entry_returnSlot {s : State} {i : Slot} {e : Entry} (he : s.load.entry i = some e) (j : Slot) :
    (returnSlot s j).load.entry i = some (if i = j then returnedEntry e else e) := by
  by_cases h : i = j
  · subst h
    rw [returnSlot_of_live he, if_pos rfl]
    exact LoadRec.entry_setEntry_self _ _ _
  · rw [if_neg h]
    cases hj : s.load.entry j with
    | none => rw [returnSlot_of_free hj, he]
    | some d =>
      rw [returnSlot_of_live hj]
      exact (LoadRec.entry_setEntry_ne _ _ h).trans he

theorem mem_order_returnSlot {s : State} {i : Slot} (j : Slot) (hi : (s.load.entry i).isSome = true) :
    i ∈ (returnSlot s j).load.order ↔ i = j ∨ i ∈ s.load.order := by
  cases hj : s.load.entry j with
  | none =>
    rw [returnSlot_of_free hj]
    refine ⟨.inr, fun h => h.resolve_left ?_⟩
    rintro rfl
    rw [hj] at hi
    cases hi
  | some d =>
    rw [returnSlot_of_live hj]
    exact LoadRec.mem_join _ _ _ _

/-- R169: each slot of a set that returns stands SHED in the Grant Order; the others are as they were. -/
theorem entry_returnSlots (is : List Slot) {s : State} {i : Slot} {e : Entry} (he : s.load.entry i = some e) :
    (returnSlots is s).load.entry i = some (if i ∈ is then returnedEntry e else e) ∧
    (i ∈ (returnSlots is s).load.order ↔ i ∈ is ∨ i ∈ s.load.order) := by
  induction is generalizing s e with
  | nil => simpa [returnSlots] using he
  | cons j is ih =>
    obtain ⟨hentry, horder⟩ := ih (entry_returnSlot he j)
    rw [returnSlots_cons]
    constructor
    · rw [hentry]
      by_cases hj : i = j <;> by_cases hi : i ∈ is <;> simp [hj, hi, returnedEntry]
    · rw [horder, mem_order_returnSlot j (by rw [he]; rfl), List.mem_cons]
      rw [or_left_comm, or_assoc]

theorem freeze_returnSlots (is : List Slot) (s : State) : (returnSlots is s).load.freeze = s.load.freeze := by
  induction is generalizing s with
  | nil => rfl
  | cons j is ih =>
    rw [returnSlots_cons, ih]
    cases hj : s.load.entry j with
    | none => rw [returnSlot_of_free hj]
    | some d =>
      rw [returnSlot_of_live hj]
      rfl

/-! ### The ceiling, slot 0 and the expiries (R7, R26, R38, R40, R61) -/

theorem takeCeiling_of_new {c : Nat} {s : State} (h : c ≠ s.load.ceiling) :
    takeCeiling c s = walkedEvent s { s with load := { s.load with ceiling := c } } := if_neg h

theorem loadTakes_slot0Claim {r k : Nat} {m v : State} (h : claimSlot0 r k m = v) :
    loadTakes (.slot0Claim r k) m = handLoadResults m.load true v := by
  rw [← h]
  rfl

theorem claimedEntry_eq (r k : Nat) (e : Entry) : claimedEntry r k e = { e with
      requested := min r 800
      minimum := min k (min r 800)
      holdoff := if min r 800 = 0 then none else e.holdoff
      state := if min r 800 = 0 ∧ e.state.isMember = true then .pending else e.state } := rfl

theorem claimSlot0_of_same {r k : Nat} {s : State} {e : Entry} (he : s.load.entry 0 = some e)
    (h : claimedRequested r = e.requested ∧ claimedMinimum r k = e.minimum) : claimSlot0 r k s = s := by
  rw [claimSlot0, he]
  exact if_pos h

theorem claimSlot0_of_new {r k : Nat} {s : State} {e : Entry} (he : s.load.entry 0 = some e)
    (h : ¬(claimedRequested r = e.requested ∧ claimedMinimum r k = e.minimum)) : claimSlot0 r k s =
      if e.state = .lapsed then { s with load := s.load.setEntry 0 (some (claimedEntry r k e)) }
      else runWalk { s with load := s.load.setEntry 0 (some (claimedEntry r k e)) } := by
  rw [claimSlot0, he]
  exact if_neg h

/-- R130: an event that answers a claim hands the slot 0 grant over. -/
theorem answer_handed (before : LoadRec) (s : State) :
    .slot0GrantHandoff (handLoadResults before true s).load.slot0Grant true ∈ (handLoadResults before true s).handed := by
  by_cases h : s.load.countedTotal = before.countedTotal
  · simp only [handLoadResults, if_pos h, Bool.true_or, if_true]
    exact List.mem_append_right _ (List.mem_singleton.mpr rfl)
  · simp only [handLoadResults, if_neg h, Bool.true_or, if_true]
    exact List.mem_append_right _ (List.mem_singleton.mpr rfl)

theorem expireHoldoff_of_none {i : Slot} {s : State} {e : Entry} (he : s.load.entry i = some e) (h : e.holdoff = none) :
    expireHoldoff i s = s := by simp [expireHoldoff, he, h]

theorem expireHoldoff_of_some {i : Slot} {s : State} {e : Entry} (he : s.load.entry i = some e) (h : e.holdoff ≠ none) :
    expireHoldoff i s = walkedEvent s { s with load := s.load.setEntry i (some { e with holdoff := none }) } := by
  simp [expireHoldoff, he, isSome_of_ne_none h, loadChange, walkedEvent]

theorem lapseEntry_of_none {i : Slot} {s : State} {e : Entry} (he : s.load.entry i = some e) (h : e.lease = none) : lapseEntry i s = s := by
  simp [lapseEntry, he, h]

theorem lapseEntry_of_stay {i : Slot} {s : State} {e : Entry} {l : Lease} (he : s.load.entry i = some e) (hl : e.lease = some l)
    (h : e.state = .lapsed ∨ l.remaining ≠ 0) : lapseEntry i s = s := by
  simp only [lapseEntry, he, hl]
  exact if_pos h

theorem lapseEntry_of_run_out {i : Slot} {s : State} {e : Entry} {l : Lease} (he : s.load.entry i = some e) (hl : e.lease = some l)
    (h : ¬(e.state = .lapsed ∨ l.remaining ≠ 0)) : lapseEntry i s =
      walkedEvent s (({ s with load := (s.load.setEntry i (some (lapsedEntry l e))).leave i }).raise (.entry i .lapsed)) := by
  simp only [lapseEntry, he, hl]
  exact if_neg h

/-- R61: a lapse leaves the lease as it is, its time over. -/
theorem lapsedEntry_eq {l : Lease} {e : Entry} (hl : e.lease = some l) (h0 : l.remaining = 0) :
    lapsedEntry l e = { e with grace := none, holdoff := none, granted := 0, counted := 0, state := .lapsed } := by
  have hlease : some { l with remaining := 0 } = e.lease := by rw [hl, ← h0]
  rw [lapsedEntry, hlease]

/-- Settles O26: the ceiling and the claim by what they change, the expiries by what has run out. -/
theorem ceilingClaimHoldoffAndLeaseRunTheWalk : Obligations.CeilingClaimHoldoffAndLeaseRunTheWalk := by
  refine ⟨⟨fun s c ha hf => ⟨fun h => exec_claim_eq ha hf rfl (if_pos h), fun h => exec_claim_eq ha hf rfl (takeCeiling_of_new h)⟩,
    fun s r k e ha hf he => ?_⟩, fun s i e ha he => ⟨fun h => ?_, fun h => ?_, fun h => ?_, fun l hl ht => ?_, fun l hl ht hs => ?_⟩⟩
  · intro m q e' u
    have hexec : ∀ {v}, claimSlot0 r k m = v → exec (.slot0Claim r k) s = .next (finish (handLoadResults m.load true v)) := fun hv =>
      exec_claim_eq ha hf rfl (loadTakes_slot0Claim hv)
    have hm : m.load.entry 0 = some e := he
    refine ⟨fun h => hexec (claimSlot0_of_same hm h), fun h hl => hexec ?_, fun h hl => hexec ?_, _, hexec rfl, ?_⟩
    · rw [claimSlot0_of_new hm h, if_pos hl, claimedEntry_eq]
    · rw [claimSlot0_of_new hm h, if_neg hl, claimedEntry_eq]
    · rw [finish_load, finish_handed]
      exact answer_handed m.load _
  · exact exec_own_nothing ha rfl (expireHoldoff_of_none he h)
  · exact exec_own_eq ha rfl (expireHoldoff_of_some he h)
  · refine exec_own_nothing ha rfl ?_
    cases hl : e.lease with
    | none => exact lapseEntry_of_none he hl
    | some l => exact lapseEntry_of_stay he hl (.inl (h.resolve_left (by rw [hl]; simp)))
  · exact exec_own_nothing ha rfl (lapseEntry_of_stay he hl (.inr (Nat.ne_of_gt ht)))
  · have hrun := lapseEntry_of_run_out he hl (not_or.mpr ⟨hs, fun h => h ht⟩)
    rw [lapsedEntry_eq hl ht] at hrun
    exact exec_own_eq ha rfl hrun

end Sys2Proof.Machine
end

section
/-!
PROOFS. The claims of the Protection Sequencer: the protect claim, the line claims, the late claim, the returns and the lift (R159, R164, R165, R169,
R33): O27, O28 and O29.
-/
namespace Sys2Proof.Machine

theorem mem_slotsWhere_of_entry {L : LoadRec} {i : Slot} {e : Entry} (he : L.entry i = some e) (p : Entry → Bool) :
    i ∈ L.slotsWhere p ↔ p e = true := by
  rw [LoadRec.mem_slotsWhere, he]
  simp

/-! ### A cut and the walk after it -/

/-- A cut of a set of slots, with the walk that follows one. -/
def cutWalk (is : List Slot) (s : State) : State := walkWhenAny is (cutSlots is s)

theorem grows_cutWalk (is : List Slot) (s : State) : Grows s (cutWalk is s) := (grows_cutSlots is s).trans (grows_walkWhenAny is _)

theorem freeze_cutWalk (is : List Slot) (s : State) : (cutWalk is s).load.freeze = s.load.freeze := by
  rw [cutWalk, freeze_walkWhenAny, freeze_cutSlots]

/-- R41: a slot that is cut stands HELD after the walk too, out of the order, with HELD pending. -/
theorem entry_cutWalk_of_mem {is : List Slot} {s : State} {i : Slot} {e : Entry} (he : s.load.entry i = some e) (hi : i ∈ is) :
    Pending (.entry i .held) (cutWalk is s) ∧ i ∉ (cutWalk is s).load.order ∧ (cutWalk is s).load.entry i = some (heldEntry e) := by
  have hcut := entry_cutSlots is he
  rw [if_pos hi] at hcut
  have hout : i ∉ (cutSlots is s).load.order := fun h => ((mem_order_cutSlots is s i).mp h).2 hi
  obtain ⟨d, hd, hw⟩ := exists_entry_walkWhenAny is hcut
  refine ⟨(grows_walkWhenAny is _).pending (pending_cutSlots hi s), ?_, ?_⟩
  · rw [cutWalk, order_walkWhenAny]
    exact hout
  · rw [cutWalk, hd, hw.outside hout]

/-- R34, R41: a cut and its walk leave the mark of every record, and under the freeze raise no grant. -/
theorem exists_entry_cutWalk (is : List Slot) {s : State} {i : Slot} {e : Entry} (he : s.load.entry i = some e) :
    ∃ d, (cutWalk is s).load.entry i = some d ∧ d.mark = e.mark ∧ (s.load.freeze = true → d.granted ≤ e.granted) := by
  obtain ⟨d, hd, hw⟩ := exists_entry_walkWhenAny is (entry_cutSlots is he)
  refine ⟨d, hd, ?_, fun hf => ?_⟩
  · rw [hw.mark]
    split <;> rfl
  · refine Nat.le_trans (hw.frozen (by rw [freeze_cutSlots, hf])) ?_
    split
    · exact Nat.zero_le _
    · exact Nat.le_refl _

/-! ### The protect claim (R159) -/

theorem markParking_granted (e : Entry) : (markParking e).granted = e.granted := by
  unfold markParking
  repeat' split
  all_goals rfl

theorem mark_markParking_of_park {e : Entry} {n : Line} (hg : 0 < e.granted) (hf : e.fallAction = some (.park n)) :
    (markParking e).mark = .parking := by simp [markParking, hf, hg]

theorem markParking_of_not {e : Entry} (h : e.granted = 0 ∨ ∀ n, e.fallAction ≠ some (.park n)) : markParking e = e := by
  unfold markParking
  split
  next n hn =>
    rcases h with h | h
    · exact if_neg (by omega)
    · exact absurd hn (h n)
  · rfl

/-- The state in which a protect claim makes its cuts: frozen, the granted PARK entries PARKING. -/
def frozenAndMarked (s : State) : State := { s with load := ({ s.load with freeze := true }).mapEntries fun _ e => markParking e }

theorem protect_eq (s : State) : protect s = cutWalk (s.load.slotsWhere isCut) (frozenAndMarked s) := rfl

theorem mapEntries_freeze (L : LoadRec) (f : Slot → Entry → Entry) : (L.mapEntries f).freeze = L.freeze := by
  rw [LoadRec.mapEntries]

theorem entry_of_map {s : State} {i : Slot} {e : Entry} (he : s.load.entry i = some e) (f : Entry → Entry) :
    (s.load.mapEntries fun _ => f).entry i = some (f e) := by rw [LoadRec.entry_mapEntries, he, Option.map_some]

theorem freeze_frozenAndMarked (s : State) : (frozenAndMarked s).load.freeze = true := by rw [frozenAndMarked, mapEntries_freeze]

theorem entry_frozenAndMarked {s : State} {i : Slot} {e : Entry} (he : s.load.entry i = some e) :
    (frozenAndMarked s).load.entry i = some (markParking e) := by
  rw [frozenAndMarked, LoadRec.entry_mapEntries]
  exact congrArg (Option.map markParking) he

theorem freeze_protect (s : State) : (protect s).load.freeze = true := by
  rw [protect_eq, freeze_cutWalk, freeze_frozenAndMarked]

/-- R159: what a protect claim makes of a granted entry that is cut. -/
theorem entry_protect_of_cut {s : State} {i : Slot} {e : Entry} (he : s.load.entry i = some e) (hg : 0 < e.granted)
    (hf : e.fallAction = some .cut) :
    Pending (.entry i .held) (protect s) ∧ i ∉ (protect s).load.order ∧ (protect s).load.entry i = some (heldEntry e) := by
  have hi : i ∈ s.load.slotsWhere isCut := (mem_slotsWhere_of_entry he isCut).mpr (by simp [isCut, hg, hf])
  have hm := entry_frozenAndMarked he
  rw [markParking_of_not (.inr fun n => by rw [hf]; simp)] at hm
  exact entry_cutWalk_of_mem hm hi

theorem exists_entry_protect {s : State} {i : Slot} {e : Entry} (he : s.load.entry i = some e) :
    ∃ d, (protect s).load.entry i = some d ∧ d.granted ≤ e.granted ∧ d.mark = (markParking e).mark := by
  obtain ⟨d, hd, hmark, hle⟩ := exists_entry_cutWalk (s.load.slotsWhere isCut) (entry_frozenAndMarked he)
  rw [protect_eq]
  exact ⟨d, hd, markParking_granted e ▸ hle (freeze_frozenAndMarked s), hmark⟩

/-- R159: the lines that the answer names are those of the granted PARK entries. -/
theorem namedLines_eq (L : LoadRec) : namedLines L = (List.finRange 4).filter fun n =>
    (List.finRange 24).any fun i => (L.entry i).any fun e => decide (0 < e.granted ∧ e.fallAction = some (.park n)) := by
  refine List.filter_congr fun n _ => ?_
  rw [slotsWhere_eq, Bool.eq_iff_iff]
  simp [parksOn, Option.any_eq_true, List.filter_eq_nil_iff, and_comm, and_assoc]

theorem pending_handLoadResults {a : Attention} {before : LoadRec} {answer : Bool} {s : State} (h : Pending a s) :
    Pending a (handLoadResults before answer s) := (grows_handLoadResults before answer s).pending h

theorem exec_protectClaim {s : State} (ha : Alive s) (hf : Foremost .protectClaim s) : exec .protectClaim s =
    .next (finish ((handLoadResults s.load false (protect (s.take .protectClaim))).hand (.protectAnswer (namedLines s.load)))) :=
  exec_claim_eq ha hf rfl rfl

/-- Settles O27: the marks and the cuts are `protect`'s, which the hand-overs and the answer leave as they are. -/
theorem protectClaimMarksAndCuts : Obligations.ProtectClaimMarksAndCuts := by
  intro s ha hf
  refine ⟨_, exec_protectClaim ha hf, ?freeze, ?answer, fun i e he => ?entries⟩
  case freeze => rw [finish_load, State.hand_load, freeze_handLoadResults, freeze_protect]
  case answer =>
    rw [finish_handed, ← namedLines_eq, State.hand_handed]
    exact List.mem_append_right _ (List.mem_singleton.mpr rfl)
  case entries =>
    have he' : (s.take .protectClaim).load.entry i = some e := he
    rw [finish_load, State.hand_load, order_handLoadResults, entry_handLoadResults]
    refine ⟨fun hg hc => ?_, ?_⟩
    · obtain ⟨hp, ho, hh⟩ := entry_protect_of_cut he' hg hc
      exact ⟨(pending_finish _ _).mpr ((Grows.hand _ _).pending (pending_handLoadResults hp)), ho, hh⟩
    · obtain ⟨d, hd, hle, hmark⟩ := exists_entry_protect he'
      exact ⟨d, hd, hle, fun n hg hn => hmark.trans (mark_markParking_of_park hg hn),
        fun h => hmark.trans (congrArg Entry.mark (markParking_of_not h))⟩

/-! ### The line claims and the late claim (R164, R165) -/

theorem onLine_iff (n : Line) (e : Entry) : onLine n e = true ↔ e.fallAction = some (.park n) ∧ e.mark = .parking := by simp [onLine]

theorem ite_onLine (n : Line) (e : Entry) (m : Mark) : (if onLine n e then { e with mark := m } else e) =
    if e.fallAction = some (.park n) ∧ e.mark = .parking then { e with mark := m } else e := ite_of_iff (onLine_iff n e)

/-- The state in which a failed line's entries are marked, with the reasons raised. -/
def failMarked (n : Line) (s : State) : State :=
  ({ s with load := s.load.mapEntries fun _ e => if onLine n e then { e with mark := .parkFailed } else e }).raiseAll
    ((s.load.slotsWhere (onLine n)).map fun i => .entry i .parkFailed)

theorem lineFailed_eq (n : Line) (s : State) : lineFailed n s = cutWalk (s.load.slotsWhere (failCuts n)) (failMarked n s) := rfl

theorem entry_failMarked (n : Line) {s : State} {i : Slot} {e : Entry} (he : s.load.entry i = some e) :
    (failMarked n s).load.entry i = some (if onLine n e then { e with mark := .parkFailed } else e) := by
  rw [failMarked, State.raiseAll_load]
  exact entry_of_map he _

/-- R164: a failed line's entry has its reason pending. -/
theorem pending_lineFailed {n : Line} {s : State} {i : Slot} {e : Entry} (he : s.load.entry i = some e) (hon : onLine n e = true) :
    Pending (.entry i .parkFailed) (lineFailed n s) := by
  rw [lineFailed_eq]
  refine (grows_cutWalk _ _).pending (pending_raiseAll ?_ _)
  exact List.mem_map.mpr ⟨i, (mem_slotsWhere_of_entry he _).mpr hon, rfl⟩

/-- R164: a failed line's SWITCHED entry that could have power is cut. -/
theorem entry_lineFailed_of_cut {n : Line} {s : State} {i : Slot} {e : Entry} (he : s.load.entry i = some e) (hon : onLine n e = true)
    (hcut : failCuts n e = true) : Pending (.entry i .held) (lineFailed n s) ∧ i ∉ (lineFailed n s).load.order ∧
      (lineFailed n s).load.entry i = some (heldEntry { e with mark := .parkFailed }) := by
  have hmarked := entry_failMarked n he
  rw [if_pos hon] at hmarked
  rw [lineFailed_eq]
  exact entry_cutWalk_of_mem hmarked ((mem_slotsWhere_of_entry he _).mpr hcut)

theorem exists_mark_lineFailed (n : Line) {s : State} {i : Slot} {e : Entry} (he : s.load.entry i = some e) :
    ∃ d, (lineFailed n s).load.entry i = some d ∧ d.mark = if onLine n e then .parkFailed else e.mark := by
  obtain ⟨d, hd, hmark, -⟩ := exists_entry_cutWalk (s.load.slotsWhere (failCuts n)) (entry_failMarked n he)
  rw [lineFailed_eq]
  refine ⟨d, hd, hmark.trans ?_⟩
  split <;> rfl

theorem exec_lineFailedClaim {n : Line} {s : State} (ha : Alive s) (hf : Foremost (.lineFailedClaim n) s) : exec (.lineFailedClaim n) s =
    .next (finish (handLoadResults s.load false (lineFailed n (s.take (.lineFailedClaim n))))) :=
  exec_claim_eq ha hf rfl rfl

/-- Settles O28: each claim by its marks; a failed line's cuts by those of a cut with its walk. -/
theorem lineClaimsMarkTheEntries : Obligations.LineClaimsMarkTheEntries := by
  refine ⟨fun s n ha hf => ?done, fun s n ha hf => ⟨_, exec_lineFailedClaim ha hf, fun i e he => ?failed⟩, fun s ha hf => ?late⟩
  case done =>
    intro m parked
    refine exec_claim_eq ha hf rfl (u := { m with load := m.load.mapEntries parked }) ?_
    have hparked : parked = fun _ e => if onLine n e then { e with mark := .parked } else e :=
      funext fun _ => funext fun e => (ite_onLine n e .parked).symm
    rw [hparked]
    rfl
  case failed =>
    have he' : (s.take (.lineFailedClaim n)).load.entry i = some e := he
    rw [finish_load, order_handLoadResults, entry_handLoadResults]
    refine ⟨fun hn hm => ?_, ?_⟩
    · have hon := (onLine_iff n e).mpr ⟨hn, hm⟩
      refine ⟨(pending_finish _ _).mpr (pending_handLoadResults (pending_lineFailed he' hon)), fun hk hs => ?_⟩
      have hcut : failCuts n e = true := by simp [failCuts, hon, hk, hs, or_assoc]
      obtain ⟨hp, ho, hh⟩ := entry_lineFailed_of_cut he' hon hcut
      exact ⟨(pending_finish _ _).mpr (pending_handLoadResults hp), ho, hh⟩
    · obtain ⟨d, hd, hmark⟩ := exists_mark_lineFailed n he'
      exact ⟨d, hd, hmark.trans (ite_of_iff (onLine_iff n e))⟩
  case late =>
    refine exec_claim_eq ha hf rfl ?_
    rw [← slotsWhere_eq]
    rfl

/-! ### The lift and the returns (R33, R169) -/

/-- R32: under the freeze a walk leaves an entry that stands SHED without holdoff, nothing granted or counted, as it is. -/
theorem entry_runWalk_of_shed {s : State} (hL : WalkableLaw s.load) (hfreeze : s.load.freeze = true) {i : Slot} {e : Entry}
    (he : s.load.entry i = some e) (hs : e.state = .shed) (hk : e.kind ≠ .backlight) (hh : e.holdoff = none)
    (hg : e.granted = 0) (hc : e.counted = 0) : (runWalk s).load.entry i = some e := by
  rw [load_runWalk]
  obtain ⟨xs, h⟩ := exists_walkGives s.load
  rcases h.entry_walked_cases hL.order s.profile he with ⟨x, hx, -, rfl, hw⟩ | ⟨-, hw⟩
  · rw [hw]
    have hfit := h.fits x hx
    have hgrant : x.grant = 0 := by
      have := GrantFits.le_granted (hfreeze ▸ hfit.grant)
      omega
    have hgrace : x.intoGrace = false := by
      cases hb : x.intoGrace with
      | false => rfl
      | true =>
        have := (hfit.grace hb).2
        omega
    have hstate : stateForGrant x.entry 0 = .shed := by simp [stateForGrant_eq, hk, hs]
    have hhold : holdoffForGrant s.profile x.entry 0 = none := by rw [holdoffForGrant_eq _ hh, hg]; simp
    unfold applyGrant EntryGrant.result
    dsimp only
    rw [hgrant, hgrace, hstate, hhold, ← hs, ← hh]
    conv => rhs; rw [show x.entry = { x.entry with granted := x.entry.granted, counted := x.entry.counted } from rfl, hg, hc]
    rfl
  · exact hw

/-- A return of a set of slots, with the walk that follows one. -/
def returnWalk (is : List Slot) (s : State) : State := walkWhenAny is (returnSlots is s)

section
variable {is : List Slot} {s : State} (hL : TableLaw s.load) (hnd : is.Nodup)
  (hheld : ∀ i ∈ is, ∃ e, s.load.entry i = some e ∧ e.state = .held) {i : Slot} {e : Entry} (he : s.load.entry i = some e)
include hL he

/-- R169: a HELD entry that is not returned is out of the walk. -/
theorem entry_returnWalk_of_not_mem (hi : i ∉ is) (hs : e.state = .held) : (returnWalk is s).load.entry i = some e := by
  obtain ⟨hentry, horder⟩ := entry_returnSlots is he
  rw [if_neg hi] at hentry
  have hout : i ∉ (returnSlots is s).load.order := fun h => by
    obtain ⟨d, hd, hm⟩ := (hL.order.members i).mp ((horder.mp h).resolve_left hi)
    rw [he, Option.some.injEq] at hd
    rw [← hd, hs] at hm
    cases hm
  obtain ⟨d, hd, hw⟩ := exists_entry_walkWhenAny is hentry
  rw [returnWalk, hd, hw.outside hout]

omit hL in
theorem exists_mark_returnWalk : ∃ d, (returnWalk is s).load.entry i = some d ∧ d.mark = e.mark := by
  obtain ⟨d, hd, hw⟩ := exists_entry_walkWhenAny is (entry_returnSlots is he).1
  refine ⟨d, hd, hw.mark.trans ?_⟩
  split <;> rfl

include hnd hheld

/-- R169: under the freeze a returned entry stands SHED in the order. -/
theorem entry_returnWalk_of_mem (hfreeze : s.load.freeze = true) (hi : i ∈ is) :
    i ∈ (returnWalk is s).load.order ∧ (returnWalk is s).load.entry i = some (returnedEntry e) := by
  obtain ⟨hentry, horder⟩ := entry_returnSlots is he
  rw [if_pos hi] at hentry
  obtain ⟨d, hd, hs⟩ := hheld i hi
  rw [he, Option.some.injEq] at hd
  subst hd
  obtain ⟨hlaw, hkind⟩ := hL.entries i e he
  have hwalk : (runWalk (returnSlots is s)).load.entry i = some (returnedEntry e) :=
    entry_runWalk_of_shed (walkableLaw_returnSlots hnd hL.walkable hheld) (by rw [freeze_returnSlots, hfreeze]) hentry rfl
      (fun hk => (hkind.slot0 hk).2.2 hs) rfl (hlaw.off (.inr (.inr (.inr hs)))) (hlaw.counted_of_not_member (by rw [hs]; rfl))
  have hne : is.isEmpty = false := by cases is with
    | nil => cases hi
    | cons _ _ => rfl
  have hrun : returnWalk is s = runWalk (returnSlots is s) := by rw [returnWalk, walkWhenAny, hne]; rfl
  rw [hrun, order_runWalk]
  exact ⟨horder.mpr (.inl hi), hwalk⟩

end

theorem cutReturn_eq (s : State) : cutReturn s = returnWalk (s.load.slotsWhere cutReturns) s := rfl

/-- The slots that a line return brings back. -/
def lineReturns (n : Line) (L : LoadRec) : List Slot := L.slotsWhere fun e => markedOn n e && e.state == .held

/-- The record of an entry after the marks of a line are cleared. -/
def clearMarkOn (n : Line) (e : Entry) : Entry := if markedOn n e then { e with mark := .clear } else e

/-- The state in which the marks of a line are cleared. -/
def marksCleared (n : Line) (s : State) : State := { s with load := s.load.mapEntries fun _ => clearMarkOn n }

theorem lineReturn_eq (n : Line) (s : State) : lineReturn n s = returnWalk (lineReturns n s.load) (marksCleared n s) := rfl

theorem entry_marksCleared (n : Line) {s : State} {i : Slot} {e : Entry} (he : s.load.entry i = some e) :
    (marksCleared n s).load.entry i = some (clearMarkOn n e) := by
  rw [marksCleared]
  exact entry_of_map he _

theorem freeze_marksCleared (n : Line) (s : State) : (marksCleared n s).load.freeze = s.load.freeze := by
  rw [marksCleared, mapEntries_freeze]

theorem tableLaw_marksCleared (n : Line) {s : State} (h : TableLaw s.load) : TableLaw (marksCleared n s).load := by
  rw [marksCleared]
  exact (marks_markedOn n).tableLaw h

theorem markedOn_iff (n : Line) (e : Entry) : markedOn n e = true ↔ e.fallAction = some (.park n) ∧ e.mark ≠ .clear := by
  simp [markedOn]

theorem clearMarkOn_of_not {n : Line} {e : Entry} (h : ¬(e.fallAction = some (.park n) ∧ e.mark ≠ .clear)) : clearMarkOn n e = e :=
  if_neg (mt (markedOn_iff n e).mp h)

theorem clearMarkOn_of_marked {n : Line} {e : Entry} (h : e.fallAction = some (.park n) ∧ e.mark ≠ .clear) :
    clearMarkOn n e = { e with mark := .clear } := if_pos ((markedOn_iff n e).mpr h)

theorem mark_clearMarkOn {n : Line} {e : Entry} (h : e.fallAction = some (.park n)) : (clearMarkOn n e).mark = .clear := by
  by_cases hm : e.mark = .clear
  · rw [clearMarkOn_of_not fun h => h.2 hm, hm]
  · rw [clearMarkOn_of_marked ⟨h, hm⟩]

theorem exec_cutReturnClaim {s : State} (ha : Alive s) (hf : Foremost .cutReturnClaim s) : exec .cutReturnClaim s =
    .next (finish (handLoadResults s.load false (cutReturn (s.take .cutReturnClaim)))) := exec_claim_eq ha hf rfl rfl

theorem exec_lineReturnClaim {n : Line} {s : State} (ha : Alive s) (hf : Foremost (.lineReturnClaim n) s) : exec (.lineReturnClaim n) s =
    .next (finish (handLoadResults s.load false (lineReturn n (s.take (.lineReturnClaim n))))) := exec_claim_eq ha hf rfl rfl

theorem loadTakes_liftClaim (m : State) : loadTakes .liftClaim m = handLoadResults m.load false (lift m) := rfl

theorem lift_of_frozen {c : Instr} {s : State} (h : s.load.freeze = true) :
    lift (s.take c) = runWalk { s.take c with load := { (s.take c).load with freeze := false } } := if_pos h

theorem lift_of_lifted {s : State} (h : s.load.freeze = false) : lift s = s := if_neg (by rw [h]; simp)

/-- Settles O29: the lift by its branches, the returns by what a return with its walk makes of a HELD entry. -/
theorem returnAndLiftClaims : Obligations.ReturnAndLiftClaims := by
  refine ⟨fun s ha hf => ⟨fun h => ?lift, fun h => ?lifted⟩, fun s ha hfreeze hL =>
    ⟨fun hf => ⟨_, exec_cutReturnClaim ha hf, fun i e he => ?cut⟩, fun n hf => ⟨_, exec_lineReturnClaim ha hf, fun i e he => ?line⟩⟩⟩
  case lift =>
    refine exec_claim_eq ha hf rfl ?_
    exact (loadTakes_liftClaim _).trans (by rw [walkedEvent, lift_of_frozen h])
  case lifted =>
    refine exec_claim_eq ha hf rfl ?_
    have hlift : lift (s.take .liftClaim) = s.take .liftClaim := lift_of_lifted h
    exact (loadTakes_liftClaim _).trans (by rw [hlift])
  case cut =>
    have hheld : ∀ j ∈ s.load.slotsWhere cutReturns, ∃ d, s.load.entry j = some d ∧ d.state = .held := fun j hj => by
      obtain ⟨d, hd, hc⟩ := LoadRec.mem_slotsWhere.mp hj
      simp only [cutReturns, Bool.and_eq_true, beq_iff_eq] at hc
      exact ⟨d, hd, hc.1⟩
    have hmem := mem_slotsWhere_of_entry he cutReturns
    rw [finish_load, order_handLoadResults, entry_handLoadResults, cutReturn_eq]
    refine ⟨fun hs hm => ?_, fun hs hm => ?_⟩
    · exact entry_returnWalk_of_mem (s := s.take .cutReturnClaim) hL (LoadRec.nodup_slotsWhere _ _) hheld he hfreeze
        (hmem.mpr (by simp [cutReturns, hs, hm]))
    · exact entry_returnWalk_of_not_mem (s := s.take .cutReturnClaim) hL he
        (fun hj => hm (by have := hmem.mp hj; simp [cutReturns] at this; exact this.2)) hs
  case line =>
    have he' := entry_marksCleared n (s := s.take (.lineReturnClaim n)) he
    have hL' := tableLaw_marksCleared n (s := s.take (.lineReturnClaim n)) hL
    have hfreeze' := (freeze_marksCleared n (s.take (.lineReturnClaim n))).trans hfreeze
    have hheld : ∀ j ∈ lineReturns n s.load, ∃ d, (marksCleared n (s.take (.lineReturnClaim n))).load.entry j = some d ∧ d.state = .held :=
      fun j hj => by
        obtain ⟨d, hd, hc⟩ := LoadRec.mem_slotsWhere.mp hj
        simp only [Bool.and_eq_true, beq_iff_eq] at hc
        exact ⟨_, entry_marksCleared n (s := s.take (.lineReturnClaim n)) hd, ((marks_markedOn n).entry d).2.trans hc.2⟩
    have hmem : i ∈ lineReturns n s.load ↔ _ := mem_slotsWhere_of_entry he _
    rw [finish_load, order_handLoadResults, entry_handLoadResults, lineReturn_eq]
    refine ⟨fun hn hm hs => ?_, fun hs hn => ?_, ?_⟩
    · rw [clearMarkOn_of_marked ⟨hn, hm⟩] at he'
      exact entry_returnWalk_of_mem hL' (LoadRec.nodup_slotsWhere _ _) hheld he' hfreeze'
        (hmem.mpr (by simp [(markedOn_iff n e).mpr ⟨hn, hm⟩, hs]))
    · rw [clearMarkOn_of_not hn] at he'
      refine entry_returnWalk_of_not_mem hL' he' (fun hj => hn ((markedOn_iff n e).mp ?_)) hs
      have := hmem.mp hj
      simp only [Bool.and_eq_true] at this
      exact this.1
    · obtain ⟨d, hd, hmark⟩ := exists_mark_returnWalk he'
      exact ⟨d, hd, fun hn => hmark.trans (mark_clearMarkOn hn)⟩

end Sys2Proof.Machine
end

section
/-!
PROOFS. The Load Manager's parts of the resets: the release of the host slots at once, and the walk over slot 0 alone (R24, R25): O30.
-/
namespace Sys2Proof.Machine

/-! ### The release of the host slots -/

/-- R18: a slot without its entry, its generation advanced. -/
def freedSlot (c : SlotRec) : SlotRec := { entry := none, generation := (c.generation + 1) % 256 }

/-- R18: the table without the slots of a set. -/
def LoadRec.without (goes : Slot → Bool) (L : LoadRec) : LoadRec := { L with
  slots := Vector.ofFn fun i => if goes i then freedSlot L.slots[i] else L.slots[i]
  order := L.order.filter fun i => !goes i }

/-- R18: the reasons without those of the slots of a set. -/
def AttentionRec.without (goes : Slot → Bool) (r : AttentionRec) : AttentionRec := { r with
  sets := Vector.ofFn fun n => if (List.finRange 24).any fun i => goes i && entrySource i == n then 0 else r.sets[n] }

theorem slots_without (goes : Slot → Bool) (L : LoadRec) (i : Slot) :
    (L.without goes).slots[i] = if goes i then freedSlot L.slots[i] else L.slots[i] := by
  simp [LoadRec.without]

theorem sets_without (goes : Slot → Bool) (r : AttentionRec) (n : Fin 30) :
    (r.without goes).sets[n] = if ∃ i, goes i = true ∧ entrySource i = n then 0 else r.sets[n] := by
  simp [AttentionRec.without]

theorem slots_releaseSlot (i j : Slot) (s : State) :
    (releaseSlot i s).load.slots[j] = if j = i then freedSlot s.load.slots[i] else s.load.slots[j] := by
  by_cases h : j = i
  · subst h
    simp [releaseSlot, freedSlot, nextGeneration]
  · have hv : i.val ≠ j.val := fun hv => h (Fin.ext hv.symm)
    simp [releaseSlot, Vector.getElem_set_ne, hv, h]

theorem sets_emptied (i j : Fin 30) (r : AttentionRec) : (r.empty i).sets[j] = if j = i then 0 else r.sets[j] := by
  by_cases h : j = i
  · subst h
    simp [AttentionRec.empty]
  · have hv : i.val ≠ j.val := fun hv => h (Fin.ext hv.symm)
    simp [AttentionRec.empty, Vector.getElem_set_ne, hv, h]

theorem without_releaseSlot_load {j : Slot} {is : List Slot} (hj : j ∉ is) (s : State) :
    (releaseSlot j s).load.without (fun i => decide (i ∈ is)) = s.load.without fun i => decide (i ∈ j :: is) := by
  have hslots : ((releaseSlot j s).load.without fun i => decide (i ∈ is)).slots = (s.load.without fun i => decide (i ∈ j :: is)).slots := by
    refine Vector.ext fun k hk => ?_
    have h1 := slots_without (fun i => decide (i ∈ is)) (releaseSlot j s).load ⟨k, hk⟩
    have h2 := slots_without (fun i => decide (i ∈ j :: is)) s.load ⟨k, hk⟩
    rw [slots_releaseSlot] at h1
    refine h1.trans (Eq.trans ?_ h2.symm)
    by_cases hkj : (⟨k, hk⟩ : Slot) = j
    · subst hkj
      simp [hj]
    · simp [hkj]
  have horder : ((releaseSlot j s).load.without fun i => decide (i ∈ is)).order = (s.load.without fun i => decide (i ∈ j :: is)).order := by
    show ((s.load.order.filter fun i => i != j).filter fun i => !decide (i ∈ is)) = s.load.order.filter fun i => !decide (i ∈ j :: is)
    rw [List.filter_filter]
    refine List.filter_congr fun i _ => ?_
    by_cases hij : i = j <;> simp [hij]
  unfold LoadRec.without at hslots horder ⊢
  rw [LoadRec.mk.injEq]
  exact ⟨hslots, horder, rfl, rfl, rfl, rfl, rfl, rfl⟩

theorem without_releaseSlot_attention (j : Slot) (is : List Slot) (s : State) :
    (releaseSlot j s).attention.without (fun i => decide (i ∈ is)) = s.attention.without fun i => decide (i ∈ j :: is) := by
  have hsets : ((releaseSlot j s).attention.without fun i => decide (i ∈ is)).sets =
      (s.attention.without fun i => decide (i ∈ j :: is)).sets := by
    refine Vector.ext fun k hk => ?_
    refine (sets_without _ _ ⟨k, hk⟩).trans (Eq.trans ?_ (sets_without _ _ ⟨k, hk⟩).symm)
    show (if _ then _ else (s.attention.empty (entrySource j)).sets[(⟨k, hk⟩ : Fin 30)]) = _
    rw [sets_emptied]
    by_cases hin : ∃ i, decide (i ∈ is) = true ∧ entrySource i = ⟨k, hk⟩
    · obtain ⟨i, hi, hik⟩ := hin
      rw [if_pos ⟨i, hi, hik⟩, if_pos ⟨i, decide_eq_true (List.mem_cons_of_mem j (of_decide_eq_true hi)), hik⟩]
    · rw [if_neg hin]
      refine ite_of_iff ?_
      constructor
      · rintro hk'
        exact ⟨j, by simp, hk'.symm⟩
      · rintro ⟨i, hi, hik⟩
        rcases List.mem_cons.mp (of_decide_eq_true hi) with rfl | hi
        · exact hik.symm
        · exact absurd ⟨i, decide_eq_true hi, hik⟩ hin
  unfold AttentionRec.without at hsets ⊢
  rw [AttentionRec.mk.injEq]
  exact ⟨hsets, rfl⟩

/-- R18: a release of distinct slots, one behind the other, is their release at once. -/
theorem releaseSlots_eq {is : List Slot} (hnd : is.Nodup) (s : State) : is.foldl (fun s i => releaseSlot i s) s =
    { s with load := s.load.without fun i => decide (i ∈ is), attention := s.attention.without fun i => decide (i ∈ is) } := by
  induction is generalizing s with
  | nil =>
    have horder : s.load.order.filter (fun i => !decide (i ∈ ([] : List Slot))) = s.load.order :=
      List.filter_eq_self.mpr fun i _ => by simp
    have hload : s.load.without (fun i => decide (i ∈ ([] : List Slot))) = s.load := by
      rw [LoadRec.without, horder]
      simp
    have hatt : s.attention.without (fun i => decide (i ∈ ([] : List Slot))) = s.attention := by simp [AttentionRec.without]
    rw [hload, hatt, List.foldl_nil]
  | cons j is ih =>
    obtain ⟨hj, hnd⟩ := List.nodup_cons.mp hnd
    have hload : (releaseSlot j s).load.without (fun i => decide (i ∈ is)) = s.load.without fun i => decide (i ∈ j :: is) :=
      without_releaseSlot_load hj s
    have hatt : (releaseSlot j s).attention.without (fun i => decide (i ∈ is)) = s.attention.without fun i => decide (i ∈ j :: is) :=
      without_releaseSlot_attention j is s
    rw [List.foldl_cons, ih hnd, hload, hatt]
    rfl

/-- R24, R25: the slots that a reset releases. -/
def hostLive (L : LoadRec) (i : Slot) : Bool := i != 0 && (L.entry i).isSome

/-- R24: the table after the releases of PART_RESET. -/
def LoadRec.hostsReleased (L : LoadRec) : LoadRec := { L.without (hostLive L) with draft := [] }

theorem releaseHostSlots_eq (s : State) : releaseHostSlots s =
    { s with load := s.load.without (hostLive s.load), attention := s.attention.without (hostLive s.load) } := by
  have hgoes : (fun i => decide (i ∈ (s.load.slotsWhere fun _ => true).filter fun i => i != 0)) = hostLive s.load := by
    funext i
    rw [Bool.eq_iff_iff, decide_eq_true_eq, List.mem_filter, LoadRec.mem_slotsWhere, hostLive]
    cases he : s.load.entry i <;> simp
  rw [releaseHostSlots, releaseSlots_eq ((LoadRec.nodup_slotsWhere _ _).filter _), hgoes]

theorem entry_hostsReleased_slot0 (L : LoadRec) : L.hostsReleased.entry 0 = L.entry 0 := by
  have h := slots_without (hostLive L) L 0
  have h0 : hostLive L 0 = false := by simp [hostLive]
  rw [h0, if_neg (by simp)] at h
  exact congrArg SlotRec.entry h

theorem slots_hostsReleased_slot0 (L : LoadRec) : L.hostsReleased.slots[(0 : Slot)] = L.slots[(0 : Slot)] := by
  have h := slots_without (hostLive L) L 0
  have h0 : hostLive L 0 = false := by simp [hostLive]
  rw [h0, if_neg (by simp)] at h
  exact h

theorem slots_hostsReleased (L : LoadRec) {i : Slot} (hi : i ≠ 0) : L.hostsReleased.slots[i] =
    { entry := none, generation := if (L.entry i).isSome then (L.slots[i].generation + 1) % 256 else L.slots[i].generation } := by
  have h := slots_without (hostLive L) L i
  refine Eq.trans h ?_
  cases he : L.entry i with
  | some e => simp [hostLive, hi, he, freedSlot]
  | none =>
    have hslot : L.slots[i].entry = none := he
    have heta : L.slots[i] = { entry := none, generation := L.slots[i].generation } := by rw [← hslot]
    simpa [hostLive, he] using heta

theorem entry_hostsReleased (L : LoadRec) {i : Slot} (hi : i ≠ 0) : L.hostsReleased.entry i = none :=
  congrArg SlotRec.entry (slots_hostsReleased L hi)

/-! ### The walk over slot 0 alone -/

/-- R28 to R30: what a walk gives an entry that is alone. -/
def soloGrant (freeze : Bool) (ceiling : Nat) (e : Entry) : Nat :=
  let limit := if freeze then min e.requested e.granted else e.requested
  let first := if freeze = true ∧ limit < e.minimum then 0 else if e.rank = 0 ∨ e.minimum ≤ ceiling then e.minimum else 0
  if 0 < first ∧ first < limit then min limit (max first ceiling) else first

theorem walkRound_single (freeze : Bool) (h : Int) (i : Slot) (e : Entry) : walkRound freeze h [(i, e)] =
    [(i, e, firstGrant freeze h e + secondRaise freeze (h - firstGrant freeze h e) e (firstGrant freeze h e))] := rfl

theorem soloGrant_eq (freeze : Bool) (ceiling : Nat) (e : Entry) :
    firstGrant freeze ceiling e + secondRaise freeze (ceiling - firstGrant freeze ceiling e) e (firstGrant freeze ceiling e) =
      soloGrant freeze ceiling e := by
  rw [secondRaise_of_firstGrant, firstGrant_eq, soloGrant]
  simp only [Int.ofNat_le]
  generalize (if freeze then min e.requested e.granted else e.requested) = limit
  generalize (if freeze = true ∧ limit < e.minimum then 0 else if e.rank = 0 ∨ e.minimum ≤ ceiling then e.minimum else 0) = first
  split <;> omega

section
variable {L : LoadRec} {e : Entry} (hL : GrantOrderLaw L) (hfree : ∀ i : Slot, i ≠ 0 → L.entry i = none) (he : L.entry 0 = some e)
include hL hfree he

theorem order_alone (hm : e.state.isMember = true) : L.order = [0] := by
  have hzero : ∀ i ∈ L.order, i = 0 := fun i hi => by
    refine Classical.byContradiction fun h => ?_
    obtain ⟨d, hd, -⟩ := (hL.members i).mp hi
    rw [hfree i h] at hd
    cases hd
  have hmem : (0 : Slot) ∈ L.order := (hL.members 0).mpr ⟨e, he, hm⟩
  rw [List.eq_replicate_of_mem hzero] at hmem ⊢
  have hnd := hL.nodup
  rw [List.eq_replicate_of_mem hzero, List.nodup_replicate] at hnd
  have hpos : L.order.length ≠ 0 := fun h => by
    rw [h] at hmem
    cases hmem
  rw [show L.order.length = 1 by omega]
  rfl

/-- R28 to R34: the record of slot 0, alone in the table, after a walk. -/
theorem entry_walked_alone (p : Profile) (hm : e.state.isMember = true) (hel : e.eligible = true) (hk : e.kind = .backlight) :
    (L.walked p).entry 0 = some (applyGrant p ⟨0, soloGrant L.freeze L.ceiling e, false⟩ e) := by
  have hmembers : L.members = [(0, e)] := by simp [LoadRec.members, order_alone hL hfree he hm, he]
  have hgrace : e.graceValue = 0 := by rw [graceValue_eq, ((eligible_iff e).mp hel).1]; rfl
  have hresults : walkResults L = [⟨0, soloGrant L.freeze L.ceiling e, false⟩] := by
    unfold walkResults
    dsimp only
    have heligible : [((0 : Slot), e)].filter (fun p => p.2.eligible) = [(0, e)] := by simp [hel]
    rw [hmembers, heligible, List.map_singleton, List.sum_singleton, hgrace, walkRounds_succ]
    rw [Int.natCast_zero, Int.sub_zero, walkRound_single, soloGrant_eq]
    simp [loweredThrottled_eq, hk]
  rw [LoadRec.entry_walked, hresults, List.foldl_cons, List.foldl_nil, LoadRec.entry_applyResult, if_pos rfl, he, Option.map_some]

end

/-! ### What a walk leaves of the slots -/

theorem generation_walked (p : Profile) (L : LoadRec) (i : Slot) : (L.walked p).slots[i].generation = L.slots[i].generation := by
  have hfold : ∀ (rs : List GrantResult) (M : LoadRec), (rs.foldl (LoadRec.applyResult p) M).slots[i].generation = M.slots[i].generation := by
    intro rs
    induction rs with
    | nil => exact fun M => rfl
    | cons r rs ih =>
      intro M
      rw [List.foldl_cons, ih]
      unfold LoadRec.applyResult
      split
      · exact LoadRec.generation_setEntry _ _ _ _
      · rfl
  exact hfold (walkResults L) L

theorem slots_walked_of_free (p : Profile) {L : LoadRec} {i : Slot} (h : L.entry i = none) : (L.walked p).slots[i] = L.slots[i] := by
  have hgen := generation_walked p L i
  have hentry : (L.walked p).slots[i].entry = L.slots[i].entry := by
    have hsome := LoadRec.isSome_entry_walked p L i
    rw [h, Option.isSome_none, Option.isSome_eq_false_iff, Option.isNone_iff_eq_none] at hsome
    exact hsome.trans h.symm
  cases hw : (L.walked p).slots[i]
  cases hl : L.slots[i]
  rw [hw, hl] at hgen hentry
  rw [SlotRec.mk.injEq]
  exact ⟨hgen, hentry⟩

theorem entry_walked_of_not_eligible (p : Profile) {L : LoadRec} (hL : GrantOrderLaw L) {i : Slot} {e : Entry} (he : L.entry i = some e)
    (h : ¬(e.state.isMember = true ∧ e.eligible = true)) : (L.walked p).entry i = some e := by
  obtain ⟨xs, hx⟩ := exists_walkGives L
  rcases hx.entry_walked_cases hL p he with ⟨x, hm, -, rfl, -⟩ | ⟨-, hw⟩
  · obtain ⟨d, hd, hmem⟩ := (hL.members _).mp (hx.mem_order hm)
    rw [hx.entry hm, Option.some.injEq] at hd
    exact absurd ⟨hd ▸ hmem, hx.eligible hm⟩ h
  · exact hw

theorem exists_entry_walked (p : Profile) {L : LoadRec} {i : Slot} {e : Entry} (he : L.entry i = some e) :
    ∃ d, (L.walked p).entry i = some d ∧ Regranted e d ∧ (i ∉ L.order → d = e) := by
  have hsome : ((L.walked p).entry i).isSome = true := by rw [LoadRec.isSome_entry_walked, he]; rfl
  obtain ⟨d, hd⟩ := Option.isSome_iff_exists.mp hsome
  obtain ⟨hre, -, -, hout⟩ := entry_of_walked he hd
  exact ⟨d, hd, hre, hout⟩

theorem countedTotal_alone {L : LoadRec} {e : Entry} (hfree : ∀ i : Slot, i ≠ 0 → L.entry i = none) (he : L.entry 0 = some e) :
    L.countedTotal = e.counted := by
  have hrest : (((List.finRange 23).map Fin.succ).map L.countedAt).sum = 0 := by
    refine sum_eq_zero_of_forall fun n hn => ?_
    simp only [List.map_map, List.mem_map] at hn
    obtain ⟨i, -, rfl⟩ := hn
    simp [LoadRec.countedAt, hfree i.succ (Fin.succ_ne_zero i)]
  have hzero : L.countedAt 0 = e.counted := by simp [LoadRec.countedAt, he]
  rw [LoadRec.countedTotal_eq, List.finRange_succ, List.map_cons, List.sum_cons, hrest, hzero, Nat.add_zero]

theorem overcommitSum_alone {L : LoadRec} {e : Entry} (hfree : ∀ i : Slot, i ≠ 0 → L.entry i = none) (he : L.entry 0 = some e)
    (hg : e.grace = none) (hm : e.minimum = 0) : L.overcommitSum = 0 := by
  rw [LoadRec.overcommitSum_eq]
  refine sum_eq_zero_of_forall fun n hn => ?_
  obtain ⟨⟨i, d⟩, hd, rfl⟩ := List.mem_map.mp hn
  have hd := (LoadRec.mem_members.mp hd).2
  have hi : i = 0 := by
    refine Classical.byContradiction fun h => ?_
    rw [hfree i h] at hd
    cases hd
  rw [hi, he, Option.some.injEq] at hd
  subst hd
  simp [overcommitShare_eq, hg, hm]

theorem countedTotal_handLoadResults (before : LoadRec) (answer : Bool) (s : State) :
    (handLoadResults before answer s).load.countedTotal = s.load.countedTotal :=
  countedTotal_congr fun i => by
    unfold LoadRec.countedAt
    rw [entry_handLoadResults]

/-- R4: a changed counted total is handed over. -/
theorem told_countedTotal {before : LoadRec} {answer : Bool} {s : State} (h : s.load.countedTotal ≠ before.countedTotal) :
    .countedTotalHandover s.load.countedTotal ∈ (handLoadResults before answer s).handed := by
  have hmem : .countedTotalHandover s.load.countedTotal ∈ (s.hand (.countedTotalHandover s.load.countedTotal)).handed :=
    List.mem_append_right _ (List.mem_singleton.mpr rfl)
  unfold handLoadResults
  rw [if_neg h]
  dsimp only
  split
  · exact List.mem_append_left _ hmem
  · exact hmem

/-! ### PART_RESET (R24) -/

theorem profile_of_store {s t : State} (h : s.store = t.store) : s.profile = t.profile := by
  unfold State.profile
  rw [h]

/-- R24: the state in which PART_RESET runs the walk. -/
def partResetReleased (s : State) : State :=
  { s with load := s.load.hostsReleased, attention := s.attention.without (hostLive s.load) }

theorem loadPartReset_eq (s : State) : loadPartReset s = walkedEvent s (partResetReleased s) := by
  unfold loadPartReset loadChange
  dsimp only
  rw [releaseHostSlots_eq]
  rfl

theorem hostsReleased_keeps (L : LoadRec) : L.hostsReleased.draft = [] ∧ L.hostsReleased.counter = L.counter ∧
    L.hostsReleased.ceiling = L.ceiling ∧ L.hostsReleased.freeze = L.freeze ∧
    L.hostsReleased.order = L.order.filter fun i => !hostLive L i := by
  unfold LoadRec.hostsReleased LoadRec.without
  exact ⟨rfl, rfl, rfl, rfl, rfl⟩

theorem WalkableLaw.dropDraft {L : LoadRec} (h : WalkableLaw L) : WalkableLaw { L with draft := [] } :=
  h.of_sameEntries rfl rfl (fun _ => rfl) (Nat.zero_le _)

theorem walkableLaw_hostsReleased {s : State} (hL : TableLaw s.load) : WalkableLaw s.load.hostsReleased := by
  have h := walkableLaw_releaseHostSlots hL.walkable
  rw [releaseHostSlots_eq] at h
  exact WalkableLaw.dropDraft h

theorem isMember_slot0 {L : LoadRec} (hL : TableLaw L) {e : Entry} (he : L.entry 0 = some e) (hs : e.state ≠ .lapsed) :
    e.state.isMember = true := by
  have hheld := ((hL.entries 0 e he).2.slot0 (kind_slot0 hL he)).2.2
  cases hst : e.state
  case lapsed => exact absurd hst hs
  case held => exact absurd hst hheld
  all_goals rfl

/-- What both resets leave of a table: the host slots free, the draft empty, and the rest as a walk over the released table leaves it. -/
structure ResetTo (L M T : LoadRec) (p : Profile) : Prop where
  table : ∃ g, T = { M.walked p with grantHanded := g }
  draft : M.draft = []
  counter : M.counter = L.counter
  ceiling : M.ceiling = L.ceiling
  freeze : M.freeze = L.freeze
  order : M.order = L.order.filter fun i => !hostLive L i
  slots : ∀ i : Slot, i ≠ 0 → M.slots[i] =
    { entry := none, generation := if (L.entry i).isSome then (L.slots[i].generation + 1) % 256 else L.slots[i].generation }
  generation : M.slots[(0 : Slot)].generation = L.slots[(0 : Slot)].generation

namespace ResetTo
variable {L M T : LoadRec} {p : Profile}

theorem free (h : ResetTo L M T p) (i : Slot) (hi : i ≠ 0) : M.entry i = none := congrArg SlotRec.entry (h.slots i hi)

theorem entry_eq (h : ResetTo L M T p) (i : Slot) : T.entry i = (M.walked p).entry i := by
  obtain ⟨g, rfl⟩ := h.table
  rfl

theorem slots_eq (h : ResetTo L M T p) (i : Slot) : T.slots[i] = (M.walked p).slots[i] := by
  obtain ⟨g, rfl⟩ := h.table
  rfl

/-- R24, R25: the fields beside the slots. -/
theorem fields (h : ResetTo L M T p) : T.draft = [] ∧ T.counter = L.counter ∧ T.ceiling = L.ceiling ∧ T.freeze = L.freeze := by
  obtain ⟨g, rfl⟩ := h.table
  obtain ⟨-, hceiling, hfreeze, hdraft, hcounter, -⟩ := LoadRec.walked_keeps p M
  exact ⟨hdraft.trans h.draft, hcounter.trans h.counter, hceiling.trans h.ceiling, hfreeze.trans h.freeze⟩

/-- R24, R25: every host slot is free, one that was live with its generation advanced. -/
theorem host (h : ResetTo L M T p) (i : Slot) (hi : i ≠ 0) : T.slots[i] =
    { entry := none, generation := if (L.entry i).isSome then (L.slots[i].generation + 1) % 256 else L.slots[i].generation } := by
  rw [h.slots_eq, slots_walked_of_free p (h.free i hi), h.slots i hi]

theorem freed (h : ResetTo L M T p) (i : Slot) (hi : i ≠ 0) : T.entry i = none := congrArg SlotRec.entry (h.host i hi)

theorem generation0 (h : ResetTo L M T p) : T.slots[(0 : Slot)].generation = L.slots[(0 : Slot)].generation := by
  rw [h.slots_eq, generation_walked, h.generation]

/-- R24, R25: slot 0 out of the Grant Order is out of the released one. -/
theorem outside (h : ResetTo L M T p) (h0 : (0 : Slot) ∉ L.order) : (0 : Slot) ∉ M.order := by
  rw [h.order]
  exact fun hm => h0 (List.mem_filter.mp hm).1

/-- R28 to R39: slot 0, alone, where it takes part in the walk. -/
theorem slot0 (h : ResetTo L M T p) (hM : WalkableLaw M) {e : Entry} (he : M.entry 0 = some e) (hm : e.state.isMember = true)
    (hel : e.eligible = true) : T.entry 0 = some (applyGrant p ⟨0, soloGrant L.freeze L.ceiling e, false⟩ e) := by
  rw [h.entry_eq, entry_walked_alone hM.order h.free he p hm hel ((hM.entries 0 e he).2.backlight.mpr rfl), h.freeze, h.ceiling]

theorem slot0_of_not_eligible (h : ResetTo L M T p) (hM : WalkableLaw M) {e : Entry} (he : M.entry 0 = some e)
    (hne : ¬(e.state.isMember = true ∧ e.eligible = true)) : T.entry 0 = some e := by
  rw [h.entry_eq]
  exact entry_walked_of_not_eligible p hM.order he hne

/-- R47: after a reset there is no overcommit where slot 0 asks for nothing. -/
theorem overcommit (h : ResetTo L M T p) {e : Entry} (he : T.entry 0 = some e) (hg : e.grace = none) (hm : e.minimum = 0) :
    T.overcommit = false := by
  have hsum : (M.walked p).overcommitSum = 0 :=
    overcommitSum_alone (fun i hi => (h.entry_eq i).symm.trans (h.freed i hi)) ((h.entry_eq 0).symm.trans he) hg hm
  obtain ⟨g, rfl⟩ := h.table
  show (M.walked p).overcommit = false
  rw [LoadRec.overcommit_walked, hsum]
  simp

end ResetTo

theorem resetTo_partReset (m : State) : ResetTo m.load m.load.hostsReleased (loadPartReset m).load m.profile := by
  obtain ⟨hdraft, hcounter, hceiling, hfreeze, horder⟩ := hostsReleased_keeps m.load
  refine ⟨?_, hdraft, hcounter, hceiling, hfreeze, horder, fun i hi => slots_hostsReleased _ hi,
    congrArg SlotRec.generation (slots_hostsReleased_slot0 _)⟩
  obtain ⟨g, hg⟩ := exists_load_handLoadResults m.load false (runWalk (partResetReleased m))
  refine ⟨g, ?_⟩
  have hload : (partResetReleased m).load = m.load.hostsReleased := by rw [partResetReleased]
  have hprofile : (partResetReleased m).profile = m.profile := profile_of_store (by rw [partResetReleased])
  rw [loadPartReset_eq, walkedEvent, hg, load_runWalk, hload, hprofile]

/-- R24: what PART_RESET makes of slot 0 in a lawful table. -/
theorem slot0_partReset {m : State} (hL : TableLaw m.load) {e d : Entry} (he : m.load.entry 0 = some e)
    (hd : (loadPartReset m).load.entry 0 = some d) :
    (e.state = .shed → e.holdoff ≠ none → d = e) ∧
    (e.state ≠ .lapsed → e.state ≠ .shed ∨ e.holdoff = none →
      d = applyGrant m.profile ⟨0, soloGrant m.load.freeze m.load.ceiling e, false⟩ e) := by
  have hreset := resetTo_partReset m
  have hM := walkableLaw_hostsReleased hL
  have he' : m.load.hostsReleased.entry 0 = some e := (entry_hostsReleased_slot0 _).trans he
  refine ⟨fun hs hh => ?_, fun hs hh => ?_⟩
  · have h := hreset.slot0_of_not_eligible hM he' fun hel => ((eligible_iff e).mp hel.2).2 ⟨hs, hh⟩
    exact Option.some.inj (hd.symm.trans h)
  · have hel : e.eligible = true := (eligible_iff e).mpr ⟨grace_slot0 hL he, fun h => hh.elim (fun hn => hn h.1) h.2⟩
    exact Option.some.inj (hd.symm.trans (hreset.slot0 hM he' (isMember_slot0 hL he hs) hel))

/-! ### The system-off clear (R25) -/

/-- R25: the table in which the system-off clear runs the walk. -/
def LoadRec.cleared (L : LoadRec) : LoadRec := L.hostsReleased.modifyEntry 0 clearSlot0

/-- R25: the state in which the system-off clear runs the walk. -/
def systemOffCleared (s : State) : State :=
  { s with load := s.load.cleared, attention := s.attention.without (hostLive s.load) }

/-- R25: the state after the walk of the system-off clear, without the reasons of the entry sources. -/
def systemOffWalked (s : State) : State :=
  { runWalk (systemOffCleared s) with attention := (runWalk (systemOffCleared s)).attention.emptyEntries }

theorem loadSystemOffClear_eq (s : State) : loadSystemOffClear s = handLoadResults s.load false (systemOffWalked s) := by
  unfold loadSystemOffClear loadChange
  dsimp only
  rw [releaseHostSlots_eq]
  rfl

theorem entry_cleared_slot0 {L : LoadRec} {e : Entry} (he : L.entry 0 = some e) : L.cleared.entry 0 = some (clearSlot0 e) := by
  have he' := (entry_hostsReleased_slot0 L).trans he
  rw [LoadRec.cleared, LoadRec.modifyEntry_of_live he', LoadRec.entry_setEntry_self]

theorem modifyEntry_slots (L : LoadRec) (i : Slot) (f : Entry → Entry) :
    ∃ v, L.modifyEntry i f = { L with slots := v } ∧ (∀ j : Slot, j ≠ i → v[j] = L.slots[j]) ∧ ∀ j : Slot, v[j].generation = L.slots[j].generation := by
  cases he : L.entry i with
  | none => exact ⟨L.slots, by simp [LoadRec.modifyEntry, he], fun j _ => rfl, fun j => rfl⟩
  | some e =>
    refine ⟨_, LoadRec.modifyEntry_of_live he f, fun j hj => ?_, fun j => LoadRec.generation_setEntry L i j _⟩
    have hv : i.val ≠ j.val := fun hv => hj (Fin.ext hv.symm)
    simp [Vector.getElem_set_ne, hv]

theorem resetTo_systemOffClear (m : State) : ResetTo m.load m.load.cleared (loadSystemOffClear m).load m.profile := by
  obtain ⟨hdraft, hcounter, hceiling, hfreeze, horder⟩ := hostsReleased_keeps m.load
  have hhost := fun i hi => slots_hostsReleased m.load (i := i) hi
  have hzero := slots_hostsReleased_slot0 m.load
  obtain ⟨v, hv, hother, hgen⟩ := modifyEntry_slots m.load.hostsReleased 0 clearSlot0
  have hcleared : m.load.cleared = { m.load.hostsReleased with slots := v } := hv
  obtain ⟨g, hg⟩ := exists_load_handLoadResults m.load false (systemOffWalked m)
  have htable : (loadSystemOffClear m).load = { m.load.cleared.walked m.profile with grantHanded := g } := by
    have hload : (systemOffCleared m).load = m.load.cleared := by rw [systemOffCleared]
    have hprofile : (systemOffCleared m).profile = m.profile := profile_of_store (by rw [systemOffCleared])
    rw [loadSystemOffClear_eq, hg, systemOffWalked, load_runWalk, hload, hprofile]
  clear hv hg
  generalize m.load.hostsReleased = H at *
  refine ⟨⟨g, htable⟩, ?_, ?_, ?_, ?_, ?_, fun i hi => ?_, ?_⟩
  all_goals rw [hcleared]
  · exact hdraft
  · exact hcounter
  · exact hceiling
  · exact hfreeze
  · exact horder
  · exact (hother i hi).trans (hhost i hi)
  · exact (hgen 0).trans (congrArg SlotRec.generation hzero)

theorem attention_handLoadResults (before : LoadRec) (answer : Bool) (s : State) :
    (handLoadResults before answer s).attention = s.attention := by
  unfold handLoadResults
  dsimp only
  repeat' split
  all_goals rfl

/-- R25: the reasons of the entry sources are gone. -/
theorem sets_systemOffClear (m : State) (i : Slot) : (loadSystemOffClear m).attention.sets[entrySource i] = 0 := by
  rw [loadSystemOffClear_eq, attention_handLoadResults]
  simp [systemOffWalked, AttentionRec.emptyEntries, entrySource]

theorem walkableLaw_cleared {s : State} (hL : TableLaw s.load) : WalkableLaw s.load.cleared := by
  obtain ⟨e, he, -⟩ := hL.order.backlight
  have he' := (entry_hostsReleased_slot0 s.load).trans he
  rw [LoadRec.cleared, LoadRec.modifyEntry_of_live he']
  exact (slot0Asks_clearSlot0 e).walkableLaw (walkableLaw_hostsReleased hL) he' (hL.entries 0 e he).1

theorem soloGrant_of_zero (freeze : Bool) (ceiling : Nat) {e : Entry} (hr : e.requested = 0) (hm : e.minimum = 0) :
    soloGrant freeze ceiling e = 0 := by simp [soloGrant, hr, hm]

/-- R25: what the system-off clear makes of slot 0 in a lawful table. -/
theorem slot0_systemOffClear {m : State} (hL : TableLaw m.load) {e d : Entry} (he : m.load.entry 0 = some e)
    (hd : (loadSystemOffClear m).load.entry 0 = some d) :
    d.granted = 0 ∧ d.counted = 0 ∧ d.holdoff = none ∧ d.grace = none ∧ (e.state ≠ .lapsed → d.state = .pending) := by
  have hreset := resetTo_systemOffClear m
  have hM := walkableLaw_cleared hL
  have he' := entry_cleared_slot0 he
  have hgrace : (clearSlot0 e).grace = none := grace_slot0 (e := e) hL he
  have hkind : (clearSlot0 e).kind = .backlight := kind_slot0 (e := e) hL he
  by_cases hs : e.state = .lapsed
  · have hstate : (clearSlot0 e).state = .lapsed := by simp [clearSlot0, hs, EntryState.isMember]
    have hlaw := (hL.entries 0 e he).1
    have h := hreset.slot0_of_not_eligible hM he' fun hel => by
      rw [hstate] at hel
      cases hel.1
    obtain rfl := Option.some.inj (hd.symm.trans h)
    exact ⟨hlaw.off (.inr (.inr (.inl hs))), hlaw.counted_of_not_member (by rw [hs]; rfl), rfl, hgrace, fun h => absurd hs h⟩
  · have hmem := isMember_slot0 hL he hs
    have hstate : (clearSlot0 e).state = .pending := by simp [clearSlot0, hmem]
    have hel : (clearSlot0 e).eligible = true := (eligible_iff _).mpr ⟨hgrace, fun h => h.2 rfl⟩
    have h := hreset.slot0 hM he' (by rw [hstate]; rfl) hel
    rw [soloGrant_of_zero _ _ rfl rfl] at h
    obtain rfl := Option.some.inj (hd.symm.trans h)
    have hpending : stateForGrant (clearSlot0 e) 0 = .pending := by rw [stateForGrant_eq, if_pos ⟨hkind, rfl⟩]
    refine ⟨rfl, rfl, ?_, hgrace, fun _ => hpending⟩
    show holdoffForGrant m.profile (clearSlot0 e) 0 = none
    rw [holdoffForGrant_eq _ rfl, hpending]
    simp

/-! ### The statement -/

/-- R4: an event that hands its results over tells a changed total. -/
theorem told_of_changed {before : LoadRec} {answer : Bool} {s : State}
    (h : (handLoadResults before answer s).load.countedTotal ≠ before.countedTotal) :
    .countedTotalHandover (handLoadResults before answer s).load.countedTotal ∈ (handLoadResults before answer s).handed := by
  rw [countedTotal_handLoadResults] at h ⊢
  exact told_countedTotal h

theorem loadTakes_partReset (m : State) : loadTakes .loadManagerPartReset m = loadPartReset m := rfl

theorem loadTakes_systemOffClear (m : State) : loadTakes .loadManagerSystemOffClear m = loadSystemOffClear m := rfl

/-- The record that a walk leaves has the descriptive fields of the one it meets. -/
theorem Regranted.keeps {e d : Entry} (h : Regranted e d) : d.rank = e.rank ∧ d.tag = e.tag ∧ d.lease = e.lease ∧ d.sequence = e.sequence ∧
    d.requested = e.requested ∧ d.minimum = e.minimum := by
  unfold Regranted at h
  rw [h]
  exact ⟨rfl, rfl, rfl, rfl, rfl, rfl⟩

theorem exists_slot0_of_resetTo {L M T : LoadRec} {p : Profile} (h : ResetTo L M T p) {e : Entry} (he : M.entry 0 = some e) :
    ∃ d, T.entry 0 = some d ∧ Regranted e d ∧ ((0 : Slot) ∉ L.order → d = e) := by
  obtain ⟨d, hd, hre, hout⟩ := exists_entry_walked p he
  exact ⟨d, (h.entry_eq 0).trans hd, hre, fun h0 => hout (h.outside h0)⟩

/-- Settles O30: each reset by the table its walk meets, where slot 0 stands alone. -/
theorem loadManagerResets : Obligations.LoadManagerResets := by
  intro s ha
  refine ⟨fun hf => ?part, fun hf => ?clear⟩
  case part =>
    intro m goes released sets
    have hreset := resetTo_partReset m
    refine ⟨_, exec_claim_eq ha hf rfl (loadTakes_partReset m), ?event, ?told, ?fields⟩
    case event =>
      rw [loadPartReset_eq]
      refine congrArg (fun u => finish (walkedEvent m u)) ?_
      unfold partResetReleased LoadRec.hostsReleased LoadRec.without AttentionRec.without freedSlot hostLive
      rfl
    case told =>
      rw [finish_load, finish_handed, loadPartReset_eq]
      exact told_of_changed (before := m.load)
    case fields =>
      rw [finish_load]
      obtain ⟨hdraft, hcounter, hceiling, hfreeze⟩ := hreset.fields
      refine ⟨hdraft, hcounter, hceiling, hfreeze, hreset.host, fun e he => ?_⟩
      obtain ⟨d, hd, hre, hout⟩ := exists_slot0_of_resetTo hreset ((entry_hostsReleased_slot0 m.load).trans he)
      obtain ⟨hrank, htag, hlease, hsequence, hrequested, hminimum⟩ := hre.keeps
      refine ⟨d, hd, hreset.generation0, hrank, htag, hlease, hsequence, hrequested, hminimum, fun hs h0 => by rw [hout h0, hs], fun hL => ?_⟩
      obtain ⟨hheld, hgiven⟩ := slot0_partReset (m := m) hL he hd
      refine ⟨countedTotal_alone hreset.freed hd, hheld, fun hs hh => ?_⟩
      intro limit first grant
      have hkind := kind_slot0 hL he
      have hgrace := grace_slot0 hL he
      rw [hgiven hs hh]
      refine ⟨rfl, rfl, hgrace, ?_⟩
      show stateForGrant e grant = _
      rw [stateForGrant_eq]
      exact ite_of_iff (and_iff_right hkind)
  case clear =>
    have hreset := resetTo_systemOffClear (s.take .loadManagerSystemOffClear)
    refine ⟨_, exec_claim_eq ha hf rfl (loadTakes_systemOffClear _), ?_⟩
    rw [finish_load, finish_handed, finish_attention]
    obtain ⟨hdraft, hcounter, hceiling, hfreeze⟩ := hreset.fields
    refine ⟨hdraft, hcounter, hceiling, hfreeze, sets_systemOffClear _, hreset.host, fun e he => ?_, fun hL => ?_⟩
    · obtain ⟨d, hd, hre, hout⟩ := exists_slot0_of_resetTo hreset (entry_cleared_slot0 he)
      obtain ⟨hrank, htag, hlease, hsequence, hrequested, hminimum⟩ := hre.keeps
      refine ⟨d, hd, hreset.generation0, hrequested, hminimum, hrank, htag, hlease, hsequence, fun hs h0 => ?_, fun hL => ?_⟩
      · rw [hout h0]
        simp [clearSlot0, hs, EntryState.isMember]
      · obtain ⟨hgranted, hcounted, hholdoff, hgrace, hpending⟩ := slot0_systemOffClear (m := s.take .loadManagerSystemOffClear) hL he hd
        exact ⟨hgranted, hcounted, hholdoff, hgrace, hpending⟩
    · obtain ⟨e, he, -⟩ := hL.order.backlight
      obtain ⟨d, hd, hre, -⟩ := exists_slot0_of_resetTo hreset (entry_cleared_slot0 he)
      obtain ⟨-, hcounted, -, hgrace, -⟩ := slot0_systemOffClear (m := s.take .loadManagerSystemOffClear) hL he hd
      have htotal := (countedTotal_alone hreset.freed hd).trans hcounted
      refine ⟨htotal, hreset.overcommit hd hgrace hre.keeps.2.2.2.2.2, fun hne => ?_⟩
      have htold := told_of_changed (before := s.load) (answer := false) (s := systemOffWalked (s.take .loadManagerSystemOffClear))
      rw [loadSystemOffClear_eq] at htotal ⊢
      rw [show (s.take .loadManagerSystemOffClear).load = s.load from rfl] at htotal ⊢
      rw [htotal] at htold
      exact htold hne.symm

end Sys2Proof.Machine
end

section
/-!
PROOFS. The step on an empty queue: the timers due, the half millisecond that passes, and the part that has stopped (R112): O2.
-/
namespace Sys2Proof.Machine

/-! ### The expiries due -/

theorem mem_dueOf {t : Option Nat} {c d : Instr} : c ∈ dueOf t d ↔ t = some 0 ∧ c = d := by
  unfold dueOf
  split
  next h => simp [h]
  next h => simp [h]

theorem mem_dueAtSlot {L : LoadRec} {i : Slot} {c : Instr} : c ∈ dueAtSlot L i ↔ ∃ e, L.entry i = some e ∧
    (e.grace.map Grace.remaining = some 0 ∧ c = .graceExpiry i ∨ e.holdoff = some 0 ∧ c = .holdoffExpiry i ∨
      runningLease e = some 0 ∧ c = .lapse i) := by
  cases he : L.entry i <;> simp [dueAtSlot, he, mem_dueOf]

theorem mem_dueAtBay {b : Bay} {r : BayRec} {c : Instr} : c ∈ dueAtBay b r ↔
    r.answerWindow = some 0 ∧ c = .missedAnswer b ∨ r.queryTimer = some 0 ∧ c = .conditionQuery b ∨
    r.probeTimer = some 0 ∧ c = .probeTimerExpiry b ∨ r.stepTimer = some 0 ∧ c = .linkStepTimerExpiry b ∨
    r.ejectWindow = some 0 ∧ c = .ejectWindowExpiry b ∨ r.requalify.map Requalify.remaining = some 0 ∧ c = .requalifyExpiry b := by
  simp [dueAtBay, mem_dueOf]

theorem mem_dueAtLine {n : Line} {l : LineRec} {c : Instr} : c ∈ dueAtLine n l ↔
    l.parkTimer = some 0 ∧ c = .parkTimerExpiry n ∨ l.unparkTimer = some 0 ∧ c = .unparkTimerExpiry n := by
  simp [dueAtLine, mem_dueOf]

theorem mem_dueAtSystem {r : SystemRec} {c : Instr} : c ∈ dueAtSystem r ↔
    r.pressTimer = some 0 ∧ c = .pressTimerExpiry ∨ r.holdTimer = some 0 ∧ c = .holdTimerExpiry ∨
    r.startTimer = some 0 ∧ c = .startTimerExpiry ∨ r.stopTimer = some 0 ∧ c = .stopTimerExpiry := by
  simp [dueAtSystem, mem_dueOf]

/-- Every expiry due, by the record that holds its timer. -/
theorem mem_dueEvents {c : Instr} {s : State} : c ∈ dueEvents s ↔
    (∃ i, c ∈ dueAtSlot s.load i) ∨ (∃ b, c ∈ dueAtBay b (s.bay b)) ∨
    (s.supply.drainTimer = some 0 ∧ c = .drainTimerExpiry) ∨ (s.supply.refillTimer = some 0 ∧ c = .refillTimerExpiry) ∨
    (s.light.stepTimer = some 0 ∧ c = .rampStep) ∨ (s.light.pin.bind Pin.remaining = some 0 ∧ c = .pinExpiry) ∨
    (∃ n, c ∈ dueAtLine n s.episode.lines[n]) ∨ c ∈ dueAtSystem s.system := by
  have hbay : (∃ b, c ∈ dueAtBay b (s.bay b)) ↔ c ∈ dueAtBay .bayA s.bayA ∨ c ∈ dueAtBay .bayB s.bayB := by
    constructor
    · rintro ⟨b, hb⟩
      cases b with
      | bayA => exact .inl hb
      | bayB => exact .inr hb
    · rintro (h | h)
      · exact ⟨.bayA, h⟩
      · exact ⟨.bayB, h⟩
  rw [hbay]
  simp only [dueEvents, List.mem_append, List.mem_flatMap, List.mem_finRange, true_and, mem_dueOf, or_assoc]

theorem runningLease_due_iff (e : Entry) : runningLease e = some 0 ↔ ∃ l, e.lease = some l ∧ l.remaining = 0 ∧ e.state ≠ .lapsed := by
  unfold runningLease
  by_cases h : e.state = .lapsed <;> simp [h]

theorem requalify_due_iff (r : BayRec) : r.requalify.map Requalify.remaining = some 0 ↔ ∃ q, r.requalify = some q ∧ q.remaining = 0 := by
  simp

theorem pin_due_iff (r : LightRec) : r.pin.bind Pin.remaining = some 0 ↔ ∃ p, r.pin = some p ∧ p.remaining = some 0 := Option.bind_eq_some_iff

/-- R40, R39, R45: an expiry of a slot is due by its entry. -/
def SlotDue (L : LoadRec) (c : Instr) : Prop :=
  match c with
  | .graceExpiry i => ∃ e, L.entry i = some e ∧ e.grace.map Grace.remaining = some 0
  | .holdoffExpiry i => ∃ e, L.entry i = some e ∧ e.holdoff = some 0
  | .lapse i => ∃ e, L.entry i = some e ∧ runningLease e = some 0
  | _ => False

theorem exists_mem_dueAtSlot {L : LoadRec} {c : Instr} : (∃ i, c ∈ dueAtSlot L i) ↔ SlotDue L c := by
  simp only [mem_dueAtSlot]
  constructor
  · rintro ⟨i, e, he, ⟨h, rfl⟩ | ⟨h, rfl⟩ | ⟨h, rfl⟩⟩ <;> exact ⟨e, he, h⟩
  · intro h
    cases c with
    | graceExpiry i =>
      obtain ⟨e, he, h⟩ := h
      exact ⟨i, e, he, .inl ⟨h, rfl⟩⟩
    | holdoffExpiry i =>
      obtain ⟨e, he, h⟩ := h
      exact ⟨i, e, he, .inr (.inl ⟨h, rfl⟩)⟩
    | lapse i =>
      obtain ⟨e, he, h⟩ := h
      exact ⟨i, e, he, .inr (.inr ⟨h, rfl⟩)⟩
    | _ => exact h.elim

/-- R40 to R197: the expiries due are those of the timers at 0. -/
theorem mem_dueEvents_iff (s : State) (c : Instr) : c ∈ dueEvents s ↔ IsDue c s := by
  rw [mem_dueEvents, exists_mem_dueAtSlot]
  simp only [mem_dueAtBay, mem_dueAtLine, mem_dueAtSystem, requalify_due_iff, pin_due_iff]
  cases c <;> simp [IsDue, SlotDue, runningLease_due_iff]

/-! ### The half millisecond -/

theorem LoadRec.mapEntries_eq (L : LoadRec) (f : Entry → Entry) :
    (L.mapEntries fun _ => f) = { L with slots := L.slots.map fun x => { x with entry := x.entry.map f } } := by
  have hslots : (L.mapEntries fun _ => f).slots = L.slots.map fun x => { x with entry := x.entry.map f } :=
    Vector.ext fun i hi => by simp [LoadRec.mapEntries]
  rw [← hslots]
  rw [LoadRec.mapEntries]

theorem EpisodeRec.mapLines_eq (e : EpisodeRec) (f : LineRec → LineRec) :
    (e.mapLines fun _ => f) = { e with lines := e.lines.map f } := by
  have hlines : (e.mapLines fun _ => f).lines = e.lines.map f := Vector.ext fun i hi => by simp [EpisodeRec.mapLines]
  rw [← hlines]
  rw [EpisodeRec.mapLines]

theorem tick_eq (s : State) : tick s = { s with
    load := { s.load with slots := s.load.slots.map fun x => { x with entry := x.entry.map tickEntry } }
    supply := tickSupply s.supply
    bayA := tickBay s.bayA
    bayB := tickBay s.bayB
    light := tickLight s.light
    motion := tickMotion s.motion
    episode := { s.episode with lines := s.episode.lines.map tickLine }
    system := tickSystem s.system
    store := tickStore s.store } := by
  rw [← LoadRec.mapEntries_eq, ← EpisodeRec.mapLines_eq]
  rfl

/-! ### The part that has stopped (R112) -/

/-- R112: a stopped part leaves every command but a power-on reset. -/
theorem exec_of_stopped {s : State} (h : s.power = .stopped) {c : Instr} (hc : ∀ x, c ≠ .powerOnReset x) : exec c s = .next s := by
  rcases command_cases c with hf | hp | hl | ⟨r, hr⟩ | ho | ⟨x, rfl⟩
  · cases c <;> simp only [isFrame, Bool.false_eq_true] at hf
    case frame bytes => exact execFrame_of_stopped h bytes
    case moreFollowsFrame code args =>
      obtain ⟨p, hp⟩ := exec_moreFollowsFrame_eq code args s
      rw [hp, event_of_stopped h]
  · rw [exec_plainRequest hp, request_of_stopped h]
  · rw [exec_loadRequest hl, loadRequest_of_stopped h]
  · rw [exec_claim hr, handover_of_stopped h]
  · rw [exec_ownEvent ho, event_of_stopped h]
  · exact absurd rfl (hc x)

/-- Settles O2: the four branches of `idle`, the timers one by one, the tick field by field, and a stopped part by the shapes of the commands. -/
theorem idleAndStoppedParts : Obligations.IdleAndStoppedParts := by
  refine ⟨fun s hp => ⟨fun hs => ?_, fun hs c cs hh => ?_, fun hs hh c cs hd => ?_, fun hs hh hd => ?_⟩, mem_dueEvents_iff,
    fun s => tick_eq s, fun s hs => ⟨fun c hc => exec_of_stopped hs hc, fun x => ⟨rfl, powerNow_powerOnState x s⟩⟩⟩
  · rw [step, hp]
    exact if_pos hs
  · simp only [step, hp, idle, if_neg hs, hh]
  · simp only [step, hp, idle, if_neg hs, hh, hd, List.head?_cons]
  · simp only [step, hp, idle, if_neg hs, hh, hd, List.head?_nil]

end Sys2Proof.Machine
end

section
/-!
PROOFS. What every operation hands over and what it does to the attention state: each party hands over claims of its own routes alone, behind what
stands there, and no operation changes a mask or puts a reason at a source of another kind (R149, R157, R181, R182).
-/
namespace Sys2Proof.Machine

/-! ### The relation -/

/-- A claim that a party sends. -/
def SentBy (p : Party) (c : Instr) : Prop := ∃ r, route c = some r ∧ r.sender = p

theorem SentBy.of_route {p : Party} {c : Instr} {x : Party} (h : route c = some ⟨p, x⟩) : SentBy p c := ⟨_, h, rfl⟩

/-- What an operation of a party does beside its records. -/
structure Acts (p : Party) (s t : State) : Prop where
  handed : ∃ new, t.handed = s.handed ++ new ∧ ∀ c ∈ new, SentBy p c
  masks : t.attention.masks = s.attention.masks
  kinds : ReasonsLaw s.attention → ReasonsLaw t.attention

variable {p : Party} {s t u : State}

theorem Acts.same (hh : t.handed = s.handed) (ha : t.attention = s.attention) : Acts p s t :=
  ⟨⟨[], by rw [hh, List.append_nil], fun c hc => by cases hc⟩, by rw [ha], by rw [ha]; exact id⟩

theorem Acts.refl (s : State) : Acts p s s := .same rfl rfl

theorem Acts.trans (h : Acts p s t) (k : Acts p t u) : Acts p s u := by
  obtain ⟨new, hnew, hsent⟩ := h.handed
  obtain ⟨more, hmore, hsent'⟩ := k.handed
  refine ⟨⟨new ++ more, by rw [hmore, hnew, List.append_assoc], fun c hc => ?_⟩, k.masks.trans h.masks, fun hr => k.kinds (h.kinds hr)⟩
  exact (List.mem_append.mp hc).elim (hsent c) (hsent' c)

theorem Acts.ite {q : Prop} [Decidable q] (h : Acts p s t) (k : Acts p s u) : Acts p s (if q then t else u) := by
  split
  · exact h
  · exact k

theorem Acts.handAll {cs : List Instr} (h : ∀ c ∈ cs, SentBy p c) (s : State) : Acts p s (s.handAll cs) := ⟨⟨cs, rfl, h⟩, rfl, id⟩

theorem Acts.hand {c : Instr} (h : SentBy p c) (s : State) : Acts p s (s.hand c) :=
  ⟨⟨[c], rfl, fun _ hd => List.mem_singleton.mp hd ▸ h⟩, rfl, id⟩

/-- R188: each reason is one of its source's kind. -/
theorem Attention.bit_of_kind (a : Attention) : a.bit &&& ~~~(sourceReasons a.source) = 0 := by
  cases a with
  | entry i r =>
    have hall : ∀ i : Slot, ~~~(sourceReasons (entrySource i)) = 0 := by decide
    show r.bit &&& ~~~(sourceReasons (entrySource i)) = 0
    rw [hall]
    exact BitVec.and_zero
  | bay b r => cases b <;> cases r <;> decide
  | supply r => cases r <;> decide
  | light r => cases r <;> decide
  | fall r => cases r <;> decide
  | part r => cases r <;> decide

theorem ReasonsLaw.raise {r : AttentionRec} (h : ReasonsLaw r) (a : Attention) : ReasonsLaw (r.raise a) := by
  intro i
  rw [AttentionRec.sets_raise]
  split
  next hi =>
    subst hi
    rw [BitVec.and_or_distrib_right, h, Attention.bit_of_kind]
    exact BitVec.or_self
  · exact h i

theorem ReasonsLaw.empty {r : AttentionRec} (h : ReasonsLaw r) (i : Fin 30) : ReasonsLaw (r.empty i) := by
  intro j
  rw [sets_emptied]
  split
  · exact BitVec.zero_and
  · exact h j

theorem ReasonsLaw.emptyEntries {r : AttentionRec} (h : ReasonsLaw r) : ReasonsLaw r.emptyEntries := by
  intro i
  have hset : r.emptyEntries.sets[i] = if i.val < 24 then 0 else r.sets[i] := by simp [AttentionRec.emptyEntries]
  rw [hset]
  split
  · exact BitVec.zero_and
  · exact h i

theorem Acts.raise (a : Attention) (s : State) : Acts p s (s.raise a) :=
  ⟨⟨[], (List.append_nil _).symm, fun c hc => by cases hc⟩, rfl, fun h => h.raise a⟩

theorem Acts.raiseAll (as : List Attention) (s : State) : Acts p s (s.raiseAll as) := by
  induction as generalizing s with
  | nil => exact .refl s
  | cons a as ih => exact (Acts.raise a s).trans (ih _)

theorem Acts.load (L : LoadRec) (s : State) : Acts p s { s with load := L } := .same rfl rfl

theorem Acts.light (r : LightRec) (s : State) : Acts p s { s with light := r } := .same rfl rfl

theorem Acts.motion (r : MotionRec) (s : State) : Acts p s { s with motion := r } := .same rfl rfl

theorem Acts.episode (r : EpisodeRec) (s : State) : Acts p s { s with episode := r } := .same rfl rfl

theorem Acts.system (r : SystemRec) (s : State) : Acts p s { s with system := r } := .same rfl rfl

theorem Acts.require {g : Bool} {st : Status} {x : State × Reply} (h : Acts p s x.1) : Acts p s (require g st s x).1 :=
  require_cases (.refl s) fun _ => h

theorem Acts.mem (h : Acts p s t) {c : Instr} (hc : c ∈ s.handed) : c ∈ t.handed := by
  obtain ⟨new, hnew, -⟩ := h.handed
  exact hnew ▸ List.mem_append_left _ hc

theorem Acts.mem_new (h : Acts p s t) {c : Instr} (hc : c ∈ t.handed) : c ∈ s.handed ∨ SentBy p c := by
  obtain ⟨new, hnew, hsent⟩ := h.handed
  exact (List.mem_append.mp (hnew ▸ hc)).imp_right (hsent c)

/-! ### The Load Manager -/

theorem acts_runWalk (s : State) : Acts .loadManager s (runWalk s) := (Acts.load _ s).trans (.raiseAll _ _)

theorem acts_walkWhenAny (is : List Slot) (s : State) : Acts .loadManager s (walkWhenAny is s) := .ite (.refl s) (acts_runWalk s)

theorem acts_handLoadResults (before : LoadRec) (answer : Bool) (s : State) : Acts .loadManager s (handLoadResults before answer s) := by
  have h : Acts .loadManager s (if s.load.countedTotal = before.countedTotal then s else s.hand (.countedTotalHandover s.load.countedTotal)) :=
    .ite (.refl s) (.hand (.of_route rfl) s)
  exact .ite ((h.trans (.load _ _)).trans (.hand (.of_route rfl) _)) h

theorem acts_loadChange {f : State → State} {s : State} (h : Acts .loadManager s (f s)) : Acts .loadManager s (loadChange f s) :=
  h.trans (acts_handLoadResults _ _ _)

theorem acts_loadWalk (L : LoadRec) (s : State) : Acts .loadManager s (runWalk { s with load := L }) := (Acts.load L s).trans (acts_runWalk _)

theorem acts_cutSlots (is : List Slot) (s : State) : Acts .loadManager s (cutSlots is s) := by
  induction is generalizing s with
  | nil => exact .refl s
  | cons i is ih => exact ((Acts.load _ s).trans (.raise _ _)).trans (ih _)

theorem acts_returnSlots (is : List Slot) (s : State) : Acts .loadManager s (returnSlots is s) := by
  induction is generalizing s with
  | nil => exact .refl s
  | cons i is ih =>
    refine Acts.trans ?_ (ih (returnSlot s i))
    unfold returnSlot
    split
    · exact .load _ s
    · exact .refl s

theorem acts_releaseSlot (i : Slot) (s : State) : Acts .loadManager s (releaseSlot i s) :=
  ⟨⟨[], (List.append_nil _).symm, fun c hc => by cases hc⟩, rfl, fun h => h.empty _⟩

theorem acts_releaseHostSlots (s : State) : Acts .loadManager s (releaseHostSlots s) := by
  unfold releaseHostSlots
  generalize (s.load.slotsWhere fun _ => true).filter (fun i => i != 0) = is
  induction is generalizing s with
  | nil => exact .refl s
  | cons i is ih => exact (acts_releaseSlot i s).trans (ih _)

theorem acts_emptyEntries (s : State) : Acts p s { s with attention := s.attention.emptyEntries } := by
  refine ⟨⟨[], (List.append_nil _).symm, fun c hc => by cases hc⟩, ?_, fun h => h.emptyEntries⟩
  simp only [AttentionRec.emptyEntries]

theorem acts_loadPartReset (s : State) : Acts .loadManager s (loadPartReset s) :=
  acts_loadChange ((acts_releaseHostSlots s).trans (acts_loadWalk _ _))

theorem acts_loadSystemOffClear (s : State) : Acts .loadManager s (loadSystemOffClear s) :=
  acts_loadChange (((acts_releaseHostSlots s).trans (acts_loadWalk _ _)).trans (acts_emptyEntries _))

theorem acts_protect (s : State) : Acts .loadManager s (protect s) :=
  ((Acts.load _ s).trans (acts_cutSlots _ _)).trans (acts_walkWhenAny _ _)

theorem acts_lineFailed (n : Line) (s : State) : Acts .loadManager s (lineFailed n s) :=
  (((Acts.load _ s).trans (.raiseAll _ _)).trans (acts_cutSlots _ _)).trans (acts_walkWhenAny _ _)

theorem acts_cutReturn (s : State) : Acts .loadManager s (cutReturn s) := (acts_returnSlots _ s).trans (acts_walkWhenAny _ _)

theorem acts_lineReturn (n : Line) (s : State) : Acts .loadManager s (lineReturn n s) :=
  ((Acts.load _ s).trans (acts_returnSlots _ _)).trans (acts_walkWhenAny _ _)

theorem acts_takeCeiling (c : Nat) (s : State) : Acts .loadManager s (takeCeiling c s) := .ite (.refl s) (acts_loadChange (acts_loadWalk _ s))

theorem acts_claimSlot0 (r k : Nat) (s : State) : Acts .loadManager s (claimSlot0 r k s) := by
  unfold claimSlot0
  split
  · exact .ite (.refl s) (.ite (.load _ s) (acts_loadWalk _ s))
  · exact .refl s

theorem acts_loadTakes (c : Instr) (s : State) : Acts .loadManager s (loadTakes c s) := by
  unfold loadTakes
  split
  · exact acts_takeCeiling _ s
  · exact (acts_claimSlot0 _ _ s).trans (acts_handLoadResults _ _ _)
  · exact (acts_loadChange (acts_protect s)).trans (.hand (.of_route rfl) _)
  · exact .load _ s
  · exact acts_loadChange (acts_lineFailed _ s)
  · exact .raiseAll _ s
  · exact acts_loadChange (acts_cutReturn s)
  · exact acts_loadChange (acts_lineReturn _ s)
  · exact acts_loadChange (.ite (acts_loadWalk _ s) (.refl s))
  · unfold loadResetTakes
    split
    · exact acts_loadPartReset s
    · exact acts_loadSystemOffClear s
    · exact .refl s

theorem acts_expireGrace (i : Slot) (s : State) : Acts .loadManager s (expireGrace i s) := by
  unfold expireGrace
  split
  · split
    · exact .ite (acts_loadChange (((Acts.load _ s).trans (.raise _ _)).trans (acts_runWalk _))) (.refl s)
    · exact .refl s
  · exact .refl s

theorem acts_expireHoldoff (i : Slot) (s : State) : Acts .loadManager s (expireHoldoff i s) := by
  unfold expireHoldoff
  split
  · exact .ite (acts_loadChange (acts_loadWalk _ s)) (.refl s)
  · exact .refl s

theorem acts_lapseEntry (i : Slot) (s : State) : Acts .loadManager s (lapseEntry i s) := by
  unfold lapseEntry
  split
  · split
    · exact .ite (.refl s) (acts_loadChange (((Acts.load _ s).trans (.raise _ _)).trans (acts_runWalk _)))
    · exact .refl s
  · exact .refl s

end Sys2Proof.Machine
end

section
/-!
PROOFS. What the load requests, the Backlight Controller, the Motion Monitor, the Protection Sequencer, System Power Control and the Profile Store
hand over and do to the attention state.
-/
namespace Sys2Proof.Machine

variable {p : Party}

/-! ### The load requests -/

theorem acts_refuse (st : Status) (s : State) : Acts p s (refuse st s).1 := .refl s

theorem acts_applyAdmit {a : AdmitArgs} {s u : State} {h : Handle} (ha : applyAdmit a s = .ok (u, h)) : Acts .loadManager s u := by
  unfold applyAdmit at ha
  repeat' split at ha
  all_goals first
    | cases ha; done
    | injection ha with ha
      injection ha with hu _
      exact hu ▸ .load _ s

theorem acts_applyRevise {a : ReviseArgs} {s u : State} {w : Bool} (ha : applyRevise a s = .ok (u, w)) : Acts .loadManager s u := by
  unfold applyRevise at ha
  repeat' split at ha
  all_goals first
    | cases ha; done
    | injection ha with ha
      injection ha with hu _
      exact hu ▸ .load _ s

theorem acts_applyRelease {h : Handle} {s u : State} (ha : applyRelease h s = .ok u) : Acts .loadManager s u := by
  unfold applyRelease at ha
  repeat' split at ha
  all_goals first
    | cases ha; done
    | injection ha with hu
      exact hu ▸ acts_releaseSlot _ s

theorem acts_applyChange {c : Change} {s u : State} {hs : List Handle} (ha : applyChange c s = .ok (u, hs)) : Acts .loadManager s u := by
  unfold applyChange at ha
  cases c with
  | admitEntry a =>
    dsimp only at ha
    split at ha
    next h => injection ha with ha; injection ha with hu _; exact hu ▸ acts_applyAdmit h
    · cases ha
  | revise a =>
    dsimp only at ha
    split at ha
    next h => injection ha with ha; injection ha with hu _; exact hu ▸ acts_applyRevise h
    · cases ha
  | release h =>
    dsimp only at ha
    split at ha
    next h => injection ha with ha; injection ha with hu _; exact hu ▸ acts_applyRelease h
    · cases ha

theorem acts_commitChanges (cs : List Change) (s : State) : Acts .loadManager s (commitChanges cs s).state := by
  induction cs generalizing s with
  | nil => exact .refl s
  | cons c cs ih =>
    unfold commitChanges
    split
    · exact .refl s
    next h => exact (acts_applyChange h).trans (ih _)

theorem acts_committed (cs : List Change) (s : State) : Acts .loadManager s (committed (commitChanges cs s)) :=
  (acts_commitChanges cs s).trans (.ite (.load _ _) (acts_loadWalk _ _))

theorem acts_stage (ok : Bool) (c : Change) (s : State) : Acts .loadManager s (stage ok c s).1 :=
  .require (.require (.require (.load _ s)))

theorem acts_admitRequest (a : AdmitArgs) (s : State) : Acts .loadManager s (admitRequest a s).1 := by
  unfold admitRequest
  refine .require ?_
  split
  · exact acts_refuse _ s
  next h =>
    dsimp only
    exact ((acts_applyAdmit h).trans (acts_runWalk _)).trans (acts_handLoadResults _ _ _)

theorem acts_reviseRequest (a : ReviseArgs) (s : State) : Acts .loadManager s (reviseRequest a s).1 := by
  unfold reviseRequest
  refine .require ?_
  split
  · exact acts_refuse _ s
  next h =>
    dsimp only
    exact ((acts_applyRevise h).trans (.ite (acts_runWalk _) (.refl _))).trans (acts_handLoadResults _ _ _)

theorem acts_releaseRequest (h : Handle) (s : State) : Acts .loadManager s (releaseRequest h s).1 := by
  unfold releaseRequest
  refine .require ?_
  split
  · exact acts_refuse _ s
  next h =>
    dsimp only
    exact ((acts_applyRelease h).trans (acts_runWalk _)).trans (acts_handLoadResults _ _ _)

theorem acts_confirmRequest (h : Handle) (s : State) : Acts .loadManager s (confirmRequest h s).1 := by
  unfold confirmRequest
  split
  · exact acts_refuse _ s
  · split
    · exact acts_refuse _ s
    · dsimp only
      exact acts_loadChange (acts_loadWalk _ s)

theorem acts_renewRequest (h : Handle) (s : State) : Acts .loadManager s (renewRequest h s).1 := by
  unfold renewRequest
  refine .require ?_
  split
  · exact acts_refuse _ s
  · split
    · exact acts_refuse _ s
    · split
      · dsimp only
        exact acts_loadChange (acts_loadWalk _ s)
      · exact .load _ s

theorem acts_commitRequest (s : State) : Acts .loadManager s (commitRequest s).1 := by
  unfold commitRequest
  exact .require (.require (.ite (acts_committed _ s) ((acts_committed _ s).trans (acts_handLoadResults _ _ _))))

theorem queryRequest_state (h : Handle) (s : State) : (queryRequest h s).1 = s := by
  unfold queryRequest
  split <;> rfl

theorem findRailRequest_state (rail : Nat) (s : State) : (findRailRequest rail s).1 = s := by
  unfold findRailRequest
  split
  · rfl
  · split <;> rfl

theorem acts_loadRequest {c : Instr} (h : isLoadRequest c = true) (s : State) : Acts .loadManager s (requestChange c s).1 := by
  cases c <;> (try cases h)
  case admitEntry a => exact acts_admitRequest a s
  case stagedAdmit a => exact acts_stage _ _ s
  case revise a => exact acts_reviseRequest a s
  case stagedRevise a => exact acts_stage _ _ s
  case release h => exact acts_releaseRequest h s
  case stagedRelease h => exact acts_stage _ _ s
  case query h => exact (queryRequest_state h s).symm ▸ Acts.refl s
  case findTag tag => exact .refl s
  case findRail rail => exact (findRailRequest_state rail s).symm ▸ Acts.refl s
  case order => exact .refl s
  case confirm h => exact acts_confirmRequest h s
  case renew h => exact acts_renewRequest h s
  case commit => exact acts_commitRequest s
  case discard => exact .load _ s
  case draftRead => exact .refl s

/-! ### The Backlight Controller -/

theorem acts_sendClaim (c : Claim) (s : State) : Acts .backlight s (sendClaim c s) := (Acts.light _ s).trans (.hand (.of_route rfl) _)

theorem acts_formPair (s : State) : Acts .backlight s (formPair s) := .ite (.light _ s) (.ite (.refl s) (acts_sendClaim _ s))

theorem acts_capTest (s : State) : Acts .backlight s (capTest s) :=
  .ite (.refl s) (.ite (.ite (.refl s) ((Acts.light _ s).trans (.raise _ _))) (.light _ s))

theorem acts_pairAndTest (r : LightRec) (s : State) : Acts .backlight s (capTest (formPair { s with light := r })) :=
  ((Acts.light r s).trans (acts_formPair _)).trans (acts_capTest _)

theorem acts_retarget (s : State) : Acts .backlight s (retarget s) := .ite (.light _ s) (acts_pairAndTest _ s)

theorem acts_retargetAfter (r : LightRec) (s : State) : Acts .backlight s (retarget { s with light := r }) :=
  (Acts.light r s).trans (acts_retarget _)

theorem acts_readSensors (front rear : Option Nat) (s : State) : Acts .backlight s (readSensors front rear s) := by
  have h : ∀ u, Acts .backlight s u → ∀ (q : Prop) [Decidable q] a, Acts .backlight s (if q then u.raise a else u) :=
    fun u hu q _ a => .ite (hu.trans (.raise a u)) hu
  exact .ite (h _ (.light _ s) _ _) ((h _ (.light _ s) _ _).trans (acts_retarget _))

theorem acts_takeAnswerToClaim (s : State) : Acts .backlight s (takeAnswerToClaim s) := by
  unfold takeAnswerToClaim
  dsimp only
  split
  · exact .ite (.light _ s) ((Acts.light _ s).trans (acts_sendClaim _ _))
  · exact .light _ s

theorem acts_takeGrant (grant : Nat) (answer : Bool) (s : State) : Acts .backlight s (takeGrant grant answer s) := by
  have h : Acts .backlight s (if answer then takeAnswerToClaim { s with light := recap { s.light with grantTaken := grant } }
      else { s with light := recap { s.light with grantTaken := grant } }) :=
    .ite ((Acts.light _ s).trans (acts_takeAnswerToClaim _)) (.light _ s)
  exact .ite (h.trans (acts_capTest _)) h

theorem acts_expirePin (s : State) : Acts .backlight s (expirePin s) := ((Acts.light _ s).trans (.raise _ _)).trans (acts_retarget _)

theorem acts_endFreeze (s : State) : Acts .backlight s (endFreeze s) := .ite (acts_retargetAfter _ s) (.light _ s)

theorem acts_emptied (i : Fin 30) (s : State) : Acts p s { s with attention := s.attention.empty i } :=
  ⟨⟨[], (List.append_nil _).symm, fun c hc => by cases hc⟩, rfl, fun h => h.empty i⟩

theorem acts_lightDark (s : State) : Acts .backlight s (lightDark s) :=
  ((acts_emptied lightSource s).trans (.light (clearedLight s.light) _)).trans (acts_formPair _)

theorem acts_lightNotice (st : SystemState) (s : State) : Acts .backlight s (lightNotice st s) := by
  cases st with
  | starting => exact (Acts.light _ s).trans (acts_pairAndTest _ _)
  | run => exact .refl s
  | stopping => exact .refl s
  | dark => exact acts_lightDark s

theorem acts_followSetting (n : Nat) (s : State) : Acts .backlight s (followSetting n s) :=
  .ite (acts_pairAndTest _ s) (.ite ((acts_formPair s).trans (acts_capTest _)) (.ite (acts_retarget s) (.refl s)))

theorem acts_lightTakes (c : Instr) (s : State) : Acts .backlight s (lightTakes c s) := by
  unfold lightTakes
  split
  · exact acts_takeGrant _ _ s
  · exact .light _ s
  · exact .ite (acts_endFreeze s) (.refl s)
  · exact acts_lightNotice _ s
  · exact (Acts.light _ s).trans (acts_followSetting _ _)
  · exact ((Acts.light _ s).trans (.light _ _)).trans (acts_pairAndTest _ _)
  · exact .refl s

/-! ### The Motion Monitor -/

theorem acts_motionTakes (c : Instr) (s : State) : Acts .motionMonitor s (motionTakes c s) := by
  unfold motionTakes
  split
  next st =>
    cases st with
    | starting => exact .ite (.motion _ s) (.refl s)
    | run => exact .refl s
    | stopping => exact .motion _ s
    | dark => exact .motion _ s
  · exact .motion _ s
  · exact .refl s

theorem sentBy_of_mem {c d : Instr} (h : SentBy p d) (hc : c ∈ [d]) : SentBy p c := List.mem_singleton.mp hc ▸ h

theorem sent_goodMotion (q : Profile) (m : Nat) (r : MotionRec) : ∀ c ∈ (goodMotion q m r).2, SentBy .motionMonitor c := by
  intro c hc
  unfold goodMotion at hc
  dsimp only at hc
  split at hc
  · cases hc
  · cases hc
  · unfold suspectSample at hc
    repeat' split at hc
    all_goals first
      | cases hc; done
      | exact sentBy_of_mem (.of_route rfl) hc
  · cases hc
  · unfold impactSample at hc
    split at hc
    all_goals first
      | cases hc; done
      | exact sentBy_of_mem (.of_route rfl) hc
  · unfold settlingSample at hc
    repeat' split at hc
    all_goals first
      | cases hc; done
      | exact sentBy_of_mem (.of_route rfl) hc
  · unfold faultSample at hc
    dsimp only at hc
    split at hc
    · exact sentBy_of_mem (.of_route rfl) hc
    · cases hc

theorem sent_missMotion (r : MotionRec) : ∀ c ∈ (missMotion r).2, SentBy .motionMonitor c := by
  intro c hc
  unfold missMotion at hc
  split at hc
  · unfold enterFault at hc
    dsimp only at hc
    split at hc
    · exact sentBy_of_mem (.of_route rfl) hc
    · cases hc
  · cases hc

theorem sent_sampleMotion (q : Profile) (reading : Option Axes) (r : MotionRec) :
    ∀ c ∈ (sampleMotion q reading r).2, SentBy .motionMonitor c := by
  unfold sampleMotion
  dsimp only
  split
  · exact sent_goodMotion _ _ _
  · exact sent_missMotion _

theorem acts_takeSample (reading : Option Axes) (s : State) : Acts .motionMonitor s (takeSample reading s) := by
  have h := (Acts.motion (p := .motionMonitor) (sampleMotion s.profile reading s.motion).1 s).trans
    (Acts.handAll (sent_sampleMotion s.profile reading s.motion) _)
  exact .ite (h.trans (.raise _ _)) h

/-! ### The Protection Sequencer -/

theorem acts_episodeHand {c : Instr} (h : SentBy p c) (r : EpisodeRec) (s : State) : Acts p s (({ s with episode := r }).hand c) :=
  (Acts.episode r s).trans (.hand h _)

theorem acts_assertLine (s : State) (n : Line) : Acts .sequencer s (assertLine s n) :=
  .ite (acts_episodeHand (.of_route rfl) _ s) (.episode _ s)

theorem acts_endEpisode (s : State) : Acts .sequencer s (endEpisode s) := by
  refine ((Acts.episode _ s).trans (.handAll ?_ _)).trans (.raise _ _)
  simp only [List.forall_mem_cons, List.not_mem_nil, false_imp_iff, implies_true, and_true]
  exact ⟨.of_route rfl, .of_route rfl, .of_route rfl⟩

theorem acts_endWhenIdle (s : State) : Acts .sequencer s (endWhenIdle s) := .ite (acts_endEpisode s) (.refl s)

theorem sent_recoveryClaims (e : EpisodeRec) : ∀ c ∈ recoveryClaims e, SentBy .sequencer c := by
  intro c hc
  unfold recoveryClaims at hc
  rcases List.mem_append.mp hc with hc | hc
  · rcases List.mem_cons.mp hc with rfl | hc
    · exact .of_route rfl
    · obtain ⟨n, -, rfl⟩ := List.mem_map.mp hc
      exact .of_route rfl
  · split at hc
    · simp only [List.mem_cons, List.not_mem_nil, or_false] at hc
      rcases hc with rfl | rfl <;> exact .of_route rfl
    · cases hc

theorem acts_enterRecovering (s : State) : Acts .sequencer s (enterRecovering s) :=
  ((Acts.episode _ s).trans (.handAll (sent_recoveryClaims _) _)).trans (acts_endWhenIdle _)

theorem acts_recoveringAfter (r : EpisodeRec) (s : State) : Acts .sequencer s (enterRecovering { s with episode := r }) :=
  (Acts.episode r s).trans (acts_enterRecovering _)

theorem acts_finishLift (n : Line) (s : State) : Acts .sequencer s (finishLift n s) :=
  (acts_episodeHand (.of_route rfl) _ s).trans (acts_endWhenIdle _)

theorem acts_sendProtect (r : EpisodeRec) (s : State) : Acts .sequencer s (sendProtect { s with episode := r }) :=
  (Acts.episode r s).trans (acts_episodeHand (.of_route rfl) _ _)

theorem acts_openEpisode (s : State) : Acts .sequencer s (openEpisode s) := by
  refine .ite (.episode _ s) ?_
  split <;> exact acts_sendProtect _ s

theorem acts_takeImpact (k : Strike) (s : State) : Acts .sequencer s (takeImpact k s) := by
  have h : Acts .sequencer s (if s.episode.state ≠ .idle ∨ s.episode.protectPending then
      { s with episode := { s.episode with cls := maxClass s.episode.cls (strikeClass k) } } else s) := .ite (.episode _ s) (.refl s)
  exact .ite (h.trans (.hand (.of_route rfl) _)) h

theorem acts_actOnSettled (s : State) : Acts .sequencer s (actOnSettled s) := by
  unfold actOnSettled
  split
  · exact acts_enterRecovering s
  · exact (Acts.episode _ s).trans (.raise _ _)

theorem acts_takeSettled (s : State) : Acts .sequencer s (takeSettled s) := by
  unfold takeSettled
  split
  · exact acts_actOnSettled s
  · exact .episode _ s
  · exact .episode _ s
  all_goals exact .refl s

theorem acts_takeDisarm (s : State) : Acts .sequencer s (takeDisarm s) := by
  unfold takeDisarm
  split
  · exact .episode _ s
  · exact acts_enterRecovering s
  · exact acts_enterRecovering s
  all_goals exact .refl s

theorem acts_openOnAnswer (s : State) : Acts .sequencer s (openOnAnswer s) := by
  refine .ite ((Acts.episode _ s).trans (.handAll ?_ _)) (.refl s)
  simp only [List.forall_mem_cons, List.not_mem_nil, false_imp_iff, implies_true, and_true]
  exact ⟨.of_route rfl, .of_route rfl⟩

theorem acts_assertLines (ns : List Line) (s : State) : Acts .sequencer s (ns.foldl assertLine s) := by
  induction ns generalizing s with
  | nil => exact .refl s
  | cons n ns ih => exact (acts_assertLine s n).trans (ih _)

theorem acts_actOnHeld (s : State) : Acts .sequencer s (actOnHeld s) :=
  .ite (acts_recoveringAfter _ s) (.ite ((Acts.episode _ s).trans (acts_actOnSettled _)) (.refl s))

theorem acts_takeProtectAnswer (ns : List Line) (s : State) : Acts .sequencer s (takeProtectAnswer ns s) :=
  .ite ((((Acts.episode _ s).trans (acts_openOnAnswer _)).trans (acts_assertLines ns _)).trans (acts_actOnHeld _)) (.refl s)

theorem acts_episodeSystemOffClear (s : State) : Acts .sequencer s (episodeSystemOffClear s) := by
  refine .ite ((Acts.episode _ s).trans (.handAll ?_ _)) (.episode _ s)
  simp only [List.forall_mem_cons, List.not_mem_nil, false_imp_iff, implies_true, and_true]
  exact ⟨.of_route rfl, .of_route rfl, .of_route rfl⟩

theorem acts_episodePartReset (s : State) : Acts .sequencer s (episodePartReset s) := by
  unfold episodePartReset
  split
  · exact acts_recoveringAfter _ s
  · exact acts_recoveringAfter _ s
  · exact .ite (acts_episodeHand (.of_route rfl) _ s) (.refl s)
  · exact .refl s

theorem acts_sequencerTakes (c : Instr) (s : State) : Acts .sequencer s (sequencerTakes c s) := by
  unfold sequencerTakes
  split
  · exact (acts_openEpisode s).trans (.raise _ _)
  · exact (acts_takeImpact _ s).trans (.raise _ _)
  · exact acts_takeSettled s
  · exact acts_takeDisarm s
  · exact acts_takeProtectAnswer _ s
  · exact acts_episodeSystemOffClear s
  · exact acts_episodePartReset s
  · exact .refl s

theorem acts_doneActive (n : Line) (s : State) : Acts .sequencer s (doneActive n s) :=
  .ite (acts_episodeHand (.of_route rfl) _ s) (.episode _ s)

theorem acts_doneInactive (n : Line) (s : State) : Acts .sequencer s (doneInactive n s) :=
  .ite ((Acts.episode _ s).trans (acts_finishLift n _)) (.episode _ s)

theorem acts_changeDone (n : Line) (active : Bool) (s : State) : Acts .sequencer s (changeDone n active s) :=
  .ite (.refl s) (.ite (acts_doneActive n s) (acts_doneInactive n s))

/-! ### System Power Control, the Profile Store and the Attention Unit -/

theorem sent_notices (st : SystemState) : ∀ c ∈ notices st, SentBy .systemPower c := by
  cases st <;> simp only [notices, reduceCtorEq, if_true, if_false, List.nil_append, List.append_nil, List.cons_append, List.forall_mem_cons,
    List.not_mem_nil, false_imp_iff, implies_true, and_true]
  case dark => exact ⟨.of_route rfl, .of_route rfl, .of_route rfl, .of_route rfl, .of_route rfl, .of_route rfl⟩
  all_goals exact ⟨.of_route rfl, .of_route rfl, .of_route rfl⟩

theorem acts_enterState (r : SystemRec) (s : State) : Acts .systemPower s (enterState r s) :=
  (Acts.system r s).trans (.handAll (sent_notices _) _)

end Sys2Proof.Machine
end

section
/-!
PROOFS. What the operations on the withdrawals leave standing: they hand over and raise for the Supply Controller, a bay keeps what its pack and its
lever have said, and the inputs of the supply stay as they were.
-/
namespace Sys2Proof.Machine

/-! ### A bay that is moved -/

/-- What a move of a bay into, through and out of the supply may write of its record. -/
def BayRec.movedTo (r r' : BayRec) : BayRec :=
  { r with state := r'.state, counted := r'.counted, cause := r'.cause, ejectWindow := r'.ejectWindow, probeTimer := r'.probeTimer,
           requalify := r'.requalify }

/-- A bay is moved: its pack's answers, its levers, its contact and its policy stay, a requalify goes on or is removed, and the bay counts by its
record if it did (R74). -/
structure Moved (r r' : BayRec) : Prop where
  same : r' = r.movedTo r'
  requalify : r'.requalify = r.requalify ∨ r'.requalify = none
  counted : CountedFollows r → CountedFollows r'

theorem Moved.refl (r : BayRec) : Moved r r := ⟨rfl, .inl rfl, id⟩

theorem Moved.trans {r r' r'' : BayRec} (h : Moved r r') (k : Moved r' r'') : Moved r r'' := by
  refine ⟨?_, ?_, fun hc => k.counted (h.counted hc)⟩
  · have hs := h.same
    have ks := k.same
    rw [hs] at ks
    exact ks
  · rcases k.requalify with hk | hk
    · rw [hk]; exact h.requalify
    · exact .inr hk

theorem Moved.accepted {r r' : BayRec} (h : Moved r r') : r'.accepted = r.accepted := (congrArg BayRec.accepted h.same :)

theorem Moved.policy {r r' : BayRec} (h : Moved r r') : r'.policy = r.policy := (congrArg BayRec.policy h.same :)

theorem Moved.leverTaken {r r' : BayRec} (h : Moved r r') : r'.leverTaken = r.leverTaken := (congrArg BayRec.leverTaken h.same :)

theorem Moved.leverInput {r r' : BayRec} (h : Moved r r') : r'.leverInput = r.leverInput := (congrArg BayRec.leverInput h.same :)

theorem Moved.link {r r' : BayRec} (h : Moved r r') : r'.link = r.link := (congrArg BayRec.link h.same :)

theorem Moved.contact {r r' : BayRec} (h : Moved r r') : r'.contact = r.contact := (congrArg BayRec.contact h.same :)

theorem Moved.deferred {r r' : BayRec} (h : Moved r r') : r'.deferred = r.deferred := (congrArg BayRec.deferred h.same :)

/-- R74: the counted capability by its cases. -/
theorem countedFollows_iff (r : BayRec) : CountedFollows r ↔ r.counted = r.countedNow := by
  unfold CountedFollows BayRec.countedNow countsNow
  cases r.requalify with
  | some q => rfl
  | none =>
    cases r.accepted with
    | none => rfl
    | some c =>
      dsimp only
      by_cases hf : c.state = .fault
      · simp [hf]
      · cases r.exhausted <;> simp [hf]

theorem moved_withdrawing (cause : Cause) (r : BayRec) : Moved r (withdrawingBay cause r) :=
  ⟨rfl, .inl rfl, fun h => (countedFollows_iff _).mpr ((countedFollows_iff r).mp h)⟩

theorem moved_faulted (r : BayRec) : Moved r (faultedBay r) := ⟨rfl, .inr rfl, fun _ => countedFollows_recount _⟩

theorem moved_online (r : BayRec) : Moved r (onlineBay r) := ⟨rfl, .inr rfl, fun _ => countedFollows_recount _⟩

theorem moved_released (r : BayRec) : Moved r (releasedBay r) := ⟨rfl, .inr rfl, fun _ => countedFollows_recount _⟩

/-! ### The relation -/

/-- R92: a changed ceiling is handed to the Load Manager, with CEILING raised. -/
def CeilingTold (s t : State) : Prop :=
  t.supply.ceiling = s.supply.ceiling ∨ (.ceilingHandover t.supply.ceiling ∈ t.handed ∧ Pending (.supply .ceiling) t)

/-- What the supply is worked out from, beside the bays and the slot. -/
structure SameInputs (r r' : SupplyRec) : Prop where
  inlet : r'.inletPresent = r.inletPresent := by rfl
  inletSet : r'.inletSet = r.inletSet := by rfl
  total : r'.totalHeld = r.totalHeld := by rfl
  reserve : r'.reserve = r.reserve := by rfl
  deferral : r'.deferral = r.deferral := by rfl

/-- R110: the refill timer starts at 5 s only. -/
def RefillAtFive (r r' : SupplyRec) : Prop :=
  r'.refillTimer = r.refillTimer ∨ r'.refillTimer = none ∨ r'.refillTimer = some (sec 5)

theorem RefillAtFive.trans {r r' r'' : SupplyRec} (h : RefillAtFive r r') (k : RefillAtFive r' r'') : RefillAtFive r r'' := by
  rcases k with hk | hk
  · unfold RefillAtFive
    rw [hk]
    exact h
  · exact .inr hk

/-- The reasons of a bay that no operation on the withdrawals raises. -/
def BayReason.fromOutside : BayReason → Bool
  | .inserted | .removed | .lost | .packRequest | .linkOut => true
  | .qualified | .readyToRemove | .fault => false

/-- The operation moves bays, and leaves the rest of what the supply is worked out from. -/
structure Works (s t : State) : Prop where
  grows : Grows s t
  acts : Acts .supplyController s t
  moved : ∀ b, Moved (s.bay b) (t.bay b)
  quiet : ∀ b x, x.fromOutside = true → (Pending (.bay b x) t ↔ Pending (.bay b x) s)
  inputs : SameInputs s.supply t.supply
  refill : RefillAtFive s.supply t.supply
  told : CeilingTold s t
  system : t.system = s.system
  store : t.store = s.store
  power : t.power = s.power
  tests : t.bridgeTests = s.bridgeTests

theorem SameInputs.trans {r r' r'' : SupplyRec} (h : SameInputs r r') (k : SameInputs r' r'') : SameInputs r r'' :=
  ⟨k.inlet.trans h.inlet, k.inletSet.trans h.inletSet, k.total.trans h.total, k.reserve.trans h.reserve, k.deferral.trans h.deferral⟩

theorem CeilingTold.trans {s t u : State} (h : CeilingTold s t) (k : CeilingTold t u) (hg : Grows t u) : CeilingTold s u := by
  rcases k with hk | hk
  · unfold CeilingTold
    rw [hk]
    exact h.imp_right fun ⟨hm, hp⟩ => ⟨hg.mem hm, hg.pending hp⟩
  · exact .inr hk

theorem Works.refl (s : State) : Works s s :=
  ⟨.refl s, .refl s, fun _ => .refl _, fun _ _ _ => Iff.rfl, {}, .inl rfl, .inl rfl, rfl, rfl, rfl, rfl⟩

theorem Works.trans {s t u : State} (h : Works s t) (k : Works t u) : Works s u where
  grows := h.grows.trans k.grows
  acts := h.acts.trans k.acts
  moved := fun b => (h.moved b).trans (k.moved b)
  quiet := fun b x hx => (k.quiet b x hx).trans (h.quiet b x hx)
  inputs := h.inputs.trans k.inputs
  refill := h.refill.trans k.refill
  told := h.told.trans k.told k.grows
  system := k.system.trans h.system
  store := k.store.trans h.store
  power := k.power.trans h.power
  tests := k.tests.trans h.tests

theorem Works.ite {s t u : State} {q : Prop} [Decidable q] (h : Works s t) (k : Works s u) : Works s (if q then t else u) := by
  split
  · exact h
  · exact k

/-- A change of the supply record that keeps its inputs and its ceiling. -/
theorem Works.supply {s : State} {r : SupplyRec} (hi : SameInputs s.supply r) (hr : RefillAtFive s.supply r)
    (hc : r.ceiling = s.supply.ceiling := by rfl) : Works s { s with supply := r } :=
  ⟨.same rfl rfl, .same rfl rfl, fun b => by cases b <;> exact .refl _, fun _ _ _ => Iff.rfl, hi, hr, .inl hc, rfl, rfl, rfl, rfl⟩

theorem Works.modifyBay {s : State} {b : Bay} {f : BayRec → BayRec} (hf : Moved (s.bay b) (f (s.bay b))) : Works s (s.modifyBay b f) where
  grows := .same (by simp) (by simp)
  acts := .same (by simp) (by simp)
  moved := forall_bay b (by simpa using hf) (by simpa using Moved.refl _)
  quiet := fun _ _ _ => by simp [Pending]
  inputs := by rw [State.modifyBay_supply]; exact {}
  refill := .inl (by simp)
  told := .inl (by simp)
  system := by simp
  store := by simp
  power := by simp
  tests := by simp

theorem Works.hand {c : Instr} (hc : SentBy .supplyController c) (s : State) : Works s (s.hand c) :=
  ⟨.hand c s, .hand hc s, fun b => by rw [State.hand_bay]; exact .refl _, fun _ _ _ => Iff.rfl, {}, .inl rfl, .inl rfl, rfl, rfl, rfl, rfl⟩

/-- R181: a reason raised changes no other reason. -/
theorem pending_raise_of_apart {a c : Attention} (h : a.source = c.source → a.bit &&& c.bit = 0) (s : State) :
    Pending c (s.raise a) ↔ Pending c s := by
  unfold Pending
  rw [State.raise_attention, AttentionRec.sets_raise]
  split
  next hs => rw [BitVec.and_or_distrib_right, h hs.symm, show (0 : Byte) = 0#8 from rfl, BitVec.or_zero]
  · exact Iff.rfl

/-- The reasons that an operation on the withdrawals raises. -/
def Attention.ofWithdrawals : Attention → Bool
  | .supply _ => true
  | .bay _ x => !x.fromOutside
  | .entry _ _ | .light _ | .fall _ | .part _ => false

theorem BayReason.bit_apart {x y : BayReason} (h : x ≠ y) : x.bit &&& y.bit = 0 := by
  revert h
  cases x <;> cases y <;> decide

theorem Attention.apart_of_outside {a : Attention} (ha : a.ofWithdrawals = true) (b : Bay) {x : BayReason} (hx : x.fromOutside = true) :
    a.source = (Attention.bay b x).source → a.bit &&& (Attention.bay b x).bit = 0 := by
  cases a with
  | bay c y =>
    have hy : y ≠ x := fun hy => by
      rw [Attention.ofWithdrawals, hy, hx] at ha
      cases ha
    exact fun _ => BayReason.bit_apart hy
  | supply y => cases b <;> exact fun h => absurd h (by cases y <;> cases x <;> decide)
  | entry i y => cases ha
  | light y => cases ha
  | fall y => cases ha
  | part y => cases ha

theorem Works.raise {a : Attention} (ha : a.ofWithdrawals = true) (s : State) : Works s (s.raise a) :=
  ⟨.raise a s, .raise a s, fun b => by rw [State.raise_bay]; exact .refl _,
    fun b _ hx => pending_raise_of_apart (Attention.apart_of_outside ha b hx) s, {}, .inl rfl, .inl rfl, rfl, rfl, rfl, rfl⟩

/-! ### The operations -/

/-- R90 to R92: the source sum, the bridge's count and the ceiling worked out again. -/
def resummed (s : State) : State :=
  { s with supply := { s.supply with sourceSum := sourceSumNow s, bridgeCounted := bridgeCountedNow s, ceiling := ceilingNow s } }

theorem recompute_eq (s : State) : recompute s = if ceilingNow s = s.supply.ceiling then resummed s
    else ((resummed s).hand (.ceilingHandover (ceilingNow s))).raise (.supply .ceiling) := rfl

theorem works_recompute (s : State) : Works s (recompute s) := by
  rw [recompute_eq]
  split
  next hc => exact .supply {} (.inl rfl) hc
  · have hacts : Acts .supplyController s (resummed s) := .same rfl rfl
    have hgrows : Grows s (resummed s) := .same rfl rfl
    exact { grows := (hgrows.trans (.hand _ _)).trans (.raise _ _)
            acts := (hacts.trans (.hand (.of_route rfl) _)).trans (.raise _ _)
            moved := fun b => by cases b <;> exact .refl _
            quiet := fun b _ hx => pending_raise_of_apart (Attention.apart_of_outside (a := .supply .ceiling) rfl b hx) _
            inputs := {}
            refill := .inl rfl
            told := .inr ⟨by simp [resummed], pending_raise_self _ _⟩
            system := rfl
            store := rfl
            power := rfl
            tests := rfl }

theorem works_startCarrying (s : State) : Works s (startCarrying s) := by
  refine .ite (.refl s) ?_
  have h : Works s (({ s with supply := { s.supply with
      carrying := true, refillTimer := none, drainTimer := some (sec 1) } }).raise (.supply .bridging)) :=
    (Works.supply {} (.inr (.inl rfl))).trans (.raise rfl _)
  exact .ite (h.trans (.raise rfl _)) h

theorem works_stopCarrying (s : State) : Works s (stopCarrying s) := .supply {} (.inl rfl)

theorem works_endBridging (s : State) : Works s (endBridging s) := .ite (works_stopCarrying s) (.refl s)

theorem works_refreshRefill (s : State) : Works s (refreshRefill s) := by
  refine .supply {} ?_
  unfold RefillAtFive
  dsimp only
  split
  · cases s.supply.refillTimer with
    | none => exact .inr (.inr rfl)
    | some n => exact .inl rfl
  · exact .inr (.inl rfl)

theorem works_enterPhase (x : Bool) (s : State) : Works s (enterPhase x s) :=
  have h : Works s { s with supply := { s.supply with phase := some (if x then .blocked else .clearing) } } := .supply {} (.inl rfl)
  .ite (h.trans (.raise rfl _)) h

theorem works_stopWaiting (b : Bay) (s : State) : Works s (stopWaiting b s) := .ite (.supply {} (.inl rfl)) (.refl s)

theorem works_slotTaken (b : Bay) (cause : Cause) (s : State) : Works s (slotTaken b cause s) :=
  ((works_stopWaiting b s).trans (.modifyBay (moved_withdrawing cause _))).trans (.supply {} (.inl rfl))

theorem works_startWithdrawal (b : Bay) (cause : Cause) (s : State) : Works s (startWithdrawal b cause s) := by
  rw [startWithdrawal_eq]
  exact (works_slotTaken b cause s).trans (works_enterPhase _ _)

theorem works_requestWithdrawal (b : Bay) (reason : WaitReason) (s : State) : Works s (requestWithdrawal b reason s) :=
  .ite (.supply {} (.inl rfl)) (works_startWithdrawal b _ s)

theorem works_handleWaiting (s : State) : Works s (handleWaiting s) := by
  unfold handleWaiting
  split
  · exact .refl s
  · exact .ite (works_startWithdrawal _ _ s) (.ite (works_startWithdrawal _ _ s) (works_stopWaiting _ s))

theorem works_freeSlot (s : State) : Works s (freeSlot s) :=
  have h : Works s { s with supply := { s.supply with slot := none, phase := none } } := .supply {} (.inl rfl)
  h.trans (works_handleWaiting _)

theorem works_freeSlotOf (b : Bay) (s : State) : Works s (freeSlotOf b s) := .ite (works_freeSlot s) (.refl s)

theorem works_unblock (s : State) : Works s (unblock s) := by
  unfold unblock
  split
  · exact .ite (.refl s) (works_enterPhase _ s)
  · exact .refl s

theorem works_reblock (s : State) : Works s (reblock s) := by
  unfold reblock
  split
  · exact .ite (works_enterPhase _ s) (.refl s)
  · exact .refl s

theorem works_retest (s : State) : Works s (retest s) := (works_unblock s).trans (works_reblock _)

theorem works_becomeFaulted (b : Bay) (s : State) : Works s (becomeFaulted b s) := by
  rw [becomeFaulted_eq]
  exact (Works.modifyBay (moved_faulted _)).trans (.raise rfl _)

theorem works_becomeOnline (b : Bay) (s : State) : Works s (becomeOnline b s) := by
  rw [becomeOnline_eq]
  exact .modifyBay (moved_online _)

theorem works_bridgedOver (b : Bay) (s : State) : Works s (bridgedOver b s) := .ite (works_startCarrying s) (.refl s)

/-- R102: the phase once the path is open. -/
def pathOpened (s : State) : State := { s with supply := { s.supply with phase := some .opened } }

theorem works_releaseBay (b : Bay) (s : State) : Works s (releaseBay b s) :=
  have h : Works s (s.modifyBay b releasedBay) := .modifyBay (moved_released _)
  have k : Works (s.modifyBay b releasedBay) (pathOpened (s.modifyBay b releasedBay)) := .supply {} (.inl rfl)
  (h.trans k).trans (.raise (a := .bay b .readyToRemove) rfl (pathOpened (s.modifyBay b releasedBay)))

theorem works_openPath (b : Bay) (s : State) : Works s (openPath b s) := by
  rw [openPath_eq]
  exact (works_bridgedOver b s).trans (.ite ((works_becomeFaulted b _).trans (works_freeSlot _)) (works_releaseBay b _))

theorem works_pathTest (s : State) : Works s (pathTest s) := by
  unfold pathTest
  split
  · exact .ite ((works_openPath _ s).trans (works_recompute _)) (.refl s)
  · exact .refl s

/-- The path tests of the end of an event, and the refill timer behind them (R101, R110). -/
def testPaths (s : State) : State := refreshRefill (pathTest (pathTest s))

theorem settle_eq (s : State) : settle s = testPaths (recompute s) := rfl

theorem works_testPaths (s : State) : Works s (testPaths s) :=
  ((works_pathTest s).trans (works_pathTest _)).trans (works_refreshRefill _)

theorem works_settle (s : State) : Works s (settle s) := (works_recompute s).trans (works_testPaths _)

theorem works_answerNoSource (s : State) : Works s (answerNoSource s) := by
  refine .ite (.refl s) ?_
  have hoff : Works s (s.hand .forcedOff) := .hand (.of_route rfl) s
  cases s.system.state with
  | starting => exact .ite (works_startCarrying s) hoff
  | run => exact .ite (works_startCarrying s) hoff
  | stopping => exact hoff
  | dark => exact .refl s

theorem works_answerLoss (s : State) : Works s (answerLoss s) :=
  ((works_answerNoSource s).trans (works_retest _)).trans (works_settle _)

theorem works_loseBay (b : Bay) (s : State) : Works s (loseBay b s) :=
  ((works_stopWaiting b s).trans (works_freeSlotOf b _)).trans (works_answerLoss _)

theorem works_faultBay (b : Bay) (s : State) : Works s (faultBay b s) :=
  .ite ((works_becomeFaulted b s).trans (works_loseBay b _)) (works_becomeFaulted b s)

theorem works_bringOnline (b : Bay) (s : State) : Works s (bringOnline b s) :=
  (((works_becomeOnline b s).trans (works_endBridging _)).trans (works_unblock _)).trans (works_settle _)

theorem works_cancelWithdrawal (b : Bay) (s : State) : Works s (cancelWithdrawal b s) :=
  ((((works_becomeOnline b s).trans (works_endBridging _)).trans (works_freeSlotOf b _)).trans (works_unblock _)).trans (works_settle _)

theorem works_relock (b : Bay) (s : State) : Works s (relock b s) :=
  .ite (works_cancelWithdrawal b s) (((works_becomeFaulted b s).trans (works_freeSlotOf b _)).trans (works_settle _))

end Sys2Proof.Machine
end

section
/-!
PROOFS. The end of an event of the supply side: what the path tests make of a withdrawal under way, of a bay that has no part in it, and of the bay
that waits for the slot (R90 to R92, R97 to R103, R110).
-/
namespace Sys2Proof.Machine

/-! ### The supply worked out again -/

/-- R90 to R92: the sums stand as the sources give them. -/
structure Fresh (s : State) : Prop where
  sum : s.supply.sourceSum = sourceSumNow s
  bridge : s.supply.bridgeCounted = bridgeCountedNow s
  ceiling : s.supply.ceiling = ceilingNow s

theorem bayTerm_eq (x : Option Phase) (r : BayRec) : bayTerm x r = bayAdds x r := by
  unfold bayTerm bayAdds
  cases r.state <;> simp

theorem baseSum_eq (s : State) : baseSum s = sourcesAdd s := by
  unfold baseSum sourcesAdd
  rw [bayTerm_eq, bayTerm_eq]
  rfl

theorem supplyFollows_of_fresh {s : State} (h : Fresh s) : SupplyFollows s where
  bridge := by
    rw [h.bridge, bridgeCountedNow, Bool.and_eq_true, Bool.and_eq_true, systemOn_iff, decide_eq_true_iff, decide_eq_true_iff, baseSum_eq, and_assoc]
  sum := by rw [h.sum, sourceSumNow, baseSum_eq, h.bridge]
  ceiling := by rw [h.ceiling, h.sum]; rfl

theorem recompute_supply (s : State) : (recompute s).supply = (resummed s).supply := by
  rw [recompute_eq]
  split <;> rfl

@[simp] theorem recompute_bay (s : State) (b : Bay) : (recompute s).bay b = s.bay b := by
  rw [recompute_eq]
  split <;> cases b <;> rfl

theorem sameSlots_recompute (s : State) : SameSlots s.supply (recompute s).supply := by
  rw [recompute_supply]
  exact {}

theorem sameCell_recompute (s : State) : SameCell s.supply (recompute s).supply := by
  rw [recompute_supply]
  exact {}

/-- What the sums read. -/
structure SameSums (s t : State) : Prop where
  base : baseSum t = baseSum s
  reserve : t.supply.reserve = s.supply.reserve
  system : t.system = s.system
  store : t.store = s.store

theorem SameSums.bridge {s t : State} (h : SameSums s t) : bridgeCountedNow t = bridgeCountedNow s := by
  unfold bridgeCountedNow systemOn
  rw [h.base, h.reserve, h.system]

theorem SameSums.sum {s t : State} (h : SameSums s t) : sourceSumNow t = sourceSumNow s := by
  unfold sourceSumNow
  rw [h.base, h.bridge]

theorem SameSums.ceiling {s t : State} (h : SameSums s t) : ceilingNow t = ceilingNow s := by
  unfold ceilingNow State.profile
  rw [h.sum, h.store]

theorem baseSum_congr {s t : State} (hA : bayTerm t.supply.phase t.bayA = bayTerm s.supply.phase s.bayA)
    (hB : bayTerm t.supply.phase t.bayB = bayTerm s.supply.phase s.bayB) (hi : SameInputs s.supply t.supply) (hs : t.store = s.store) :
    baseSum t = baseSum s := by
  unfold baseSum inletTerm inletCapability State.profile
  rw [hA, hB, hi.inlet, hi.inletSet, hs]

theorem Fresh.of_same {s t : State} (h : Fresh s) (hb : ∀ b, t.bay b = s.bay b) (hi : SameInputs s.supply t.supply)
    (hp : t.supply.phase = s.supply.phase) (hsys : t.system = s.system) (hst : t.store = s.store)
    (hsum : t.supply.sourceSum = s.supply.sourceSum) (hbr : t.supply.bridgeCounted = s.supply.bridgeCounted)
    (hc : t.supply.ceiling = s.supply.ceiling) : Fresh t := by
  have hs : SameSums s t := by
    refine ⟨baseSum_congr ?_ ?_ hi hst, hi.reserve, hsys, hst⟩
    · rw [hp, show t.bayA = s.bayA from hb .bayA]
    · rw [hp, show t.bayB = s.bayB from hb .bayB]
  exact ⟨by rw [hsum, hs.sum, h.sum], by rw [hbr, hs.bridge, h.bridge], by rw [hc, hs.ceiling, h.ceiling]⟩

theorem sameSums_recompute (s : State) : SameSums s (recompute s) := by
  have hw := works_recompute s
  have hp := (sameSlots_recompute s).phase
  refine ⟨baseSum_congr ?_ ?_ hw.inputs hw.store, hw.inputs.reserve, hw.system, hw.store⟩
  · rw [hp, show (recompute s).bayA = s.bayA from recompute_bay s .bayA]
  · rw [hp, show (recompute s).bayB = s.bayB from recompute_bay s .bayB]

theorem fresh_recompute (s : State) : Fresh (recompute s) := by
  have hs := sameSums_recompute s
  refine ⟨?_, ?_, ?_⟩
  · rw [hs.sum, recompute_supply]; rfl
  · rw [hs.bridge, recompute_supply]; rfl
  · rw [hs.ceiling, recompute_supply]; rfl

/-- The refill timer alone changes (R110). -/
@[simp] theorem refreshRefill_bay (s : State) (b : Bay) : (refreshRefill s).bay b = s.bay b := by cases b <;> rfl

theorem Fresh.refreshRefill {s : State} (h : Fresh s) : Fresh (refreshRefill s) :=
  h.of_same (refreshRefill_bay s) {} rfl rfl rfl rfl rfl rfl

/-! ### The slot frees -/

/-- R97: nobody holds the slot. -/
def vacated (s : State) : State := { s with supply := { s.supply with slot := none, phase := none } }

theorem freeSlot_eq (s : State) : freeSlot s = handleWaiting (vacated s) := rfl

@[simp] theorem vacated_bay (s : State) (b : Bay) : (vacated s).bay b = s.bay b := by cases b <;> rfl

theorem wantsDisconnect_iff (r : BayRec) : r.wantsDisconnect = true ↔ AsksDisconnect r := by
  unfold BayRec.wantsDisconnect AsksDisconnect
  cases r.accepted <;> simp

/-- R103: the cause by which the waiting bay withdraws in its turn, if it does. -/
def turnCause (r : BayRec) (reason : Option WaitReason) : Option Cause :=
  if r.leverTaken = .opened then some (if r.wantsDisconnect then .disconnect else .lever)
  else if reason = some .disconnect ∧ r.wantsDisconnect then some .disconnect
  else none

theorem freeSlot_of_none {s : State} (h : s.supply.waiting = none) : freeSlot s = vacated s := by
  rw [freeSlot_eq, handleWaiting]
  simp only [vacated, h]

theorem handleWaiting_of_some {s : State} {o : Bay} (h : s.supply.waiting = some o) :
    handleWaiting s = (turnCause (s.bay o) s.supply.waitReason).elim (stopWaiting o s) fun c => startWithdrawal o c s := by
  unfold handleWaiting turnCause
  rw [h]
  dsimp only
  split
  · rfl
  · split <;> rfl

theorem freeSlot_of_some {s : State} {o : Bay} (h : s.supply.waiting = some o) :
    freeSlot s = (turnCause (s.bay o) s.supply.waitReason).elim (stopWaiting o (vacated s)) fun c => startWithdrawal o c (vacated s) := by
  have hv : (vacated s).supply.waiting = some o := h
  rw [freeSlot_eq, handleWaiting_of_some hv, vacated_bay]
  rfl

theorem startWithdrawal_supply (b : Bay) (cause : Cause) (s : State) : (startWithdrawal b cause s).supply =
    { (stopWaiting b s).supply with
      slot := some b, phase := some (if blocks b (slotTaken b cause s) then .blocked else .clearing) } := by
  rw [startWithdrawal_eq, enterPhase_supply, slotTaken_supply]

theorem waiting_startWithdrawal {b : Bay} {cause : Cause} {s : State} (h : ∀ c, s.supply.waiting = some c → c = b) :
    (startWithdrawal b cause s).supply.waiting = none := by
  rw [startWithdrawal_supply]
  refine Classical.byContradiction fun hne => ?_
  obtain ⟨c, hc⟩ := Option.ne_none_iff_exists'.mp hne
  obtain ⟨hc, hcb⟩ := waiting_of_stopWaiting hc
  exact hcb (h c hc)

theorem eq_otherBay {b c : Bay} (h : b ≠ c) : b = otherBay c := (bay_cases c b).resolve_left h

theorem eq_of_ne_otherBay {b c : Bay} (h : b ≠ otherBay c) : b = c := (bay_cases c b).resolve_right h

theorem startWithdrawal_bay_of_ne {b c : Bay} (h : b ≠ c) (cause : Cause) (s : State) : (startWithdrawal c cause s).bay b = s.bay b := by
  rw [eq_otherBay h, startWithdrawal_other]

/-- R103: behind the slot that has come free nobody waits. -/
theorem freeSlot_waiting (s : State) : (freeSlot s).supply.waiting = none := by
  cases hw : s.supply.waiting with
  | none => rw [freeSlot_of_none hw]; exact hw
  | some o =>
    have hv : (vacated s).supply.waiting = some o := hw
    rw [freeSlot_of_some hw]
    cases turnCause (s.bay o) s.supply.waitReason with
    | none =>
      show (stopWaiting o (vacated s)).supply.waiting = none
      rw [stopWaiting_waiting, if_pos hv]
    | some c => exact waiting_startWithdrawal fun d hd => Option.some.inj (hd.symm.trans hv)

/-- A bay that has no part in the withdrawals. -/
structure Away (b : Bay) (s : State) : Prop where
  slot : s.supply.slot ≠ some b
  waiting : s.supply.waiting ≠ some b

/-- R103: a bay that does not wait has no part in what becomes of the free slot. -/
theorem freeSlot_of_not_waiting {b : Bay} {s : State} (h : s.supply.waiting ≠ some b) :
    Away b (freeSlot s) ∧ (freeSlot s).bay b = s.bay b := by
  have hwait : (freeSlot s).supply.waiting ≠ some b := by simp [freeSlot_waiting]
  suffices hs : (freeSlot s).supply.slot ≠ some b ∧ (freeSlot s).bay b = s.bay b from ⟨⟨hs.1, hwait⟩, hs.2⟩
  cases hw : s.supply.waiting with
  | none =>
    rw [freeSlot_of_none hw]
    exact ⟨by simp [vacated], vacated_bay s b⟩
  | some o =>
    have hbo : b ≠ o := fun hbo => h (hbo ▸ hw)
    rw [freeSlot_of_some hw]
    cases turnCause (s.bay o) s.supply.waitReason with
    | none =>
      refine ⟨?_, (stopWaiting_bay o _ b).trans (vacated_bay s b)⟩
      show (stopWaiting o (vacated s)).supply.slot ≠ some b
      rw [stopWaiting_slot]
      simp [vacated]
    | some c =>
      refine ⟨?_, (startWithdrawal_bay_of_ne hbo c _).trans (vacated_bay s b)⟩
      show (startWithdrawal o c (vacated s)).supply.slot ≠ some b
      rw [startWithdrawal_supply]
      exact fun hc => hbo (Option.some.inj hc).symm

theorem sameCell_startWithdrawal (b : Bay) (cause : Cause) (s : State) : SameCell s.supply (startWithdrawal b cause s).supply := by
  have h := sameCell_stopWaiting b s
  rw [startWithdrawal_supply]
  exact ⟨h.reserve, h.carrying, h.drain⟩

theorem sameCell_freeSlot (s : State) : SameCell s.supply (freeSlot s).supply := by
  cases hw : s.supply.waiting with
  | none => rw [freeSlot_of_none hw]; exact {}
  | some o =>
    rw [freeSlot_of_some hw]
    cases turnCause (s.bay o) s.supply.waitReason with
    | none =>
      have h := sameCell_stopWaiting o (vacated s)
      exact ⟨h.reserve, h.carrying, h.drain⟩
    | some c =>
      have h := sameCell_startWithdrawal o c (vacated s)
      exact ⟨h.reserve, h.carrying, h.drain⟩

/-! ### One path test -/

theorem pathTest_of_not_clearing {s : State} (h : s.supply.phase ≠ some .clearing) : pathTest s = s := by
  unfold pathTest
  split
  next hp => exact absurd hp h
  · rfl

theorem pathTest_of_above {s : State} (h : s.supply.ceiling < s.supply.totalHeld) : pathTest s = s := by
  unfold pathTest
  split
  · exact if_neg (by omega)
  · rfl

theorem pathTest_of_free {s : State} (h : s.supply.slot = none) : pathTest s = s := by
  unfold pathTest
  rw [h]

theorem pathTest_of_within {s : State} {b : Bay} (hs : s.supply.slot = some b) (hp : s.supply.phase = some .clearing)
    (ht : s.supply.totalHeld ≤ s.supply.ceiling) : pathTest s = recompute (openPath b s) := by
  unfold pathTest
  rw [hs, hp]
  exact if_pos ht

/-- R101: a path test leaves the state as it was, or opens the path of the bay that holds the slot. -/
theorem pathTest_cases (s : State) : pathTest s = s ∨ ∃ b, s.supply.slot = some b ∧ s.supply.phase = some .clearing ∧
    s.supply.totalHeld ≤ s.supply.ceiling ∧ pathTest s = recompute (openPath b s) := by
  by_cases hp : s.supply.phase = some .clearing
  · cases hs : s.supply.slot with
    | none => exact .inl (pathTest_of_free hs)
    | some b =>
      by_cases ht : s.supply.totalHeld ≤ s.supply.ceiling
      · exact .inr ⟨b, rfl, hp, ht, pathTest_of_within hs hp ht⟩
      · exact .inl (pathTest_of_above (by omega))
  · exact .inl (pathTest_of_not_clearing hp)

theorem Fresh.pathTest {s : State} (h : Fresh s) : Fresh (pathTest s) := by
  rcases pathTest_cases s with he | ⟨b, -, -, -, he⟩ <;> rw [he]
  · exact h
  · exact fresh_recompute _

theorem fresh_testPaths {s : State} (h : Fresh s) : Fresh (testPaths s) := h.pathTest.pathTest.refreshRefill

theorem fresh_settle (s : State) : Fresh (settle s) := fresh_testPaths (fresh_recompute s)

/-- R102: the path of a withdrawal with another cause than DISCONNECT has opened. -/
theorem openPath_released {b : Bay} {s : State} (h : (s.bay b).cause ≠ some .disconnect) : openPath b s = releaseBay b (bridgedOver b s) := by
  rw [openPath_eq, bridgedOver_bay, if_neg h]

/-- R102: the path of a withdrawal with cause DISCONNECT has opened. -/
theorem openPath_faulted {b : Bay} {s : State} (h : (s.bay b).cause = some .disconnect) :
    openPath b s = freeSlot (becomeFaulted b (bridgedOver b s)) := by
  rw [openPath_eq, bridgedOver_bay, if_pos h]

theorem bridgedOver_waiting (b : Bay) (s : State) : (becomeFaulted b (bridgedOver b s)).supply.waiting = s.supply.waiting := by
  rw [becomeFaulted_supply, (sameSlots_bridgedOver b s).waiting]

/-- A bay away from the withdrawals stays as it is when a path opens. -/
theorem away_openPath {b o : Bay} {s : State} (h : s.supply.waiting ≠ some b) (ho : b ≠ o) (hs : s.supply.slot = some o) :
    Away b (openPath o s) ∧ (openPath o s).bay b = s.bay b := by
  have hother : b = otherBay o := eq_otherBay ho
  by_cases hc : (s.bay o).cause = some .disconnect
  · rw [openPath_faulted hc]
    obtain ⟨haway, hbay⟩ := freeSlot_of_not_waiting (b := b) (s := becomeFaulted o (bridgedOver o s)) (by rwa [bridgedOver_waiting])
    refine ⟨haway, hbay.trans ?_⟩
    rw [hother, becomeFaulted_other, bridgedOver_bay]
  · rw [openPath_released hc]
    have hslots := sameSlots_bridgedOver o s
    refine ⟨⟨?_, ?_⟩, ?_⟩
    · rw [releaseBay_supply]
      show (bridgedOver o s).supply.slot ≠ some b
      rw [hslots.slot, hs]
      exact fun hx => ho (Option.some.inj hx).symm
    · rw [releaseBay_supply]
      show (bridgedOver o s).supply.waiting ≠ some b
      rwa [hslots.waiting]
    · rw [hother, releaseBay_other, bridgedOver_bay]

theorem Away.recompute {b : Bay} {s : State} (h : Away b s) : Away b (recompute s) :=
  ⟨by rw [(sameSlots_recompute s).slot]; exact h.slot, by rw [(sameSlots_recompute s).waiting]; exact h.waiting⟩

theorem away_pathTest {b : Bay} {s : State} (h : Away b s) : Away b (pathTest s) ∧ (pathTest s).bay b = s.bay b := by
  rcases pathTest_cases s with he | ⟨o, hs, -, -, he⟩ <;> rw [he]
  · exact ⟨h, rfl⟩
  · obtain ⟨haway, hbay⟩ := away_openPath h.waiting (fun hb => h.slot (hb ▸ hs)) hs
    exact ⟨haway.recompute, (recompute_bay _ b).trans hbay⟩

theorem away_testPaths {b : Bay} {s : State} (h : Away b s) : Away b (testPaths s) ∧ (testPaths s).bay b = s.bay b := by
  obtain ⟨h1, e1⟩ := away_pathTest h
  obtain ⟨h2, e2⟩ := away_pathTest h1
  exact ⟨⟨h2.slot, h2.waiting⟩, (refreshRefill_bay _ b).trans (e2.trans e1)⟩

theorem away_settle {b : Bay} {s : State} (h : Away b s) : Away b (settle s) ∧ (settle s).bay b = s.bay b := by
  obtain ⟨h1, e1⟩ := away_testPaths h.recompute
  exact ⟨h1, e1.trans (recompute_bay s b)⟩

theorem pathTest_waiting {b : Bay} {s : State} (h : s.supply.waiting ≠ some b) : (pathTest s).supply.waiting ≠ some b := by
  rcases pathTest_cases s with he | ⟨o, hs, -, -, he⟩ <;> rw [he]
  · exact h
  · rw [(sameSlots_recompute _).waiting]
    by_cases hc : (s.bay o).cause = some .disconnect
    · rw [openPath_faulted hc, freeSlot_waiting]
      simp
    · rw [openPath_released hc, releaseBay_supply]
      exact (sameSlots_bridgedOver o s).waiting ▸ h

/-! ### A withdrawal under way -/

/-- R97: the withdrawal of a bay is under way, its path not yet tested. -/
structure Under (b : Bay) (cause : Cause) (s : State) : Prop where
  state : (s.bay b).state = .withdrawing
  cause : (s.bay b).cause = some cause
  slot : s.supply.slot = some b
  phase : s.supply.phase = some .blocked ∨ s.supply.phase = some .clearing
  waiting : s.supply.waiting ≠ some b

theorem Under.congr {b : Bay} {cause : Cause} {s t : State} (h : Under b cause s) (hb : t.bay b = s.bay b) (hs : SameSlots s.supply t.supply) :
    Under b cause t :=
  ⟨by rw [hb]; exact h.state, by rw [hb]; exact h.cause, hs.slot.trans h.slot, by rw [hs.phase]; exact h.phase, by rw [hs.waiting]; exact h.waiting⟩

theorem Under.recompute {b : Bay} {cause : Cause} {s : State} (h : Under b cause s) : Under b cause (recompute s) :=
  h.congr (recompute_bay s b) (sameSlots_recompute s)

theorem bayTerm_clearing {r : BayRec} (h : r.state = .withdrawing) : bayTerm (some .clearing) r = 0 := by simp [bayTerm, h]

theorem bayTerm_opened {r : BayRec} (h : r.state = .released) (x : Option Phase) : bayTerm x r = 0 := by simp [bayTerm, h]

theorem bayTerm_not_blocked (r : BayRec) : bayTerm (some .opened) r = bayTerm (some .clearing) r := by simp [bayTerm]

/-- R90, R102: a bay that withdraws in phase CLEARING adds nothing, and adds nothing once its path is open. -/
theorem sameSums_released {b : Bay} {s : State} (hb : (s.bay b).state = .withdrawing) (hp : s.supply.phase = some .clearing) :
    SameSums s (releaseBay b (bridgedOver b s)) := by
  have hw := (works_bridgedOver b s).trans (works_releaseBay b _)
  have hphase : (releaseBay b (bridgedOver b s)).supply.phase = some .opened := by rw [releaseBay_supply]
  have hown : bayTerm (releaseBay b (bridgedOver b s)).supply.phase ((releaseBay b (bridgedOver b s)).bay b) =
      bayTerm s.supply.phase (s.bay b) := by
    rw [releaseBay_bay, hp, bayTerm_clearing hb]
    exact bayTerm_opened rfl _
  have hother : bayTerm (releaseBay b (bridgedOver b s)).supply.phase ((releaseBay b (bridgedOver b s)).bay (otherBay b)) =
      bayTerm s.supply.phase (s.bay (otherBay b)) := by
    rw [releaseBay_other, bridgedOver_bay, hphase, hp, bayTerm_not_blocked]
  have hboth : ∀ c, bayTerm (releaseBay b (bridgedOver b s)).supply.phase ((releaseBay b (bridgedOver b s)).bay c) =
      bayTerm s.supply.phase (s.bay c) := forall_bay b hown hother
  exact ⟨baseSum_congr (hboth .bayA) (hboth .bayB) hw.inputs hw.store, hw.inputs.reserve, hw.system, hw.store⟩

/-- R101, R102: the path of the bay opens at its test. -/
theorem onItsWay_opened {b : Bay} {cause : Cause} {s : State} (h : Under b cause s) (hp : s.supply.phase = some .clearing) (hf : Fresh s)
    (ht : s.supply.totalHeld ≤ s.supply.ceiling) : OnItsWay b cause (recompute (openPath b s)) := by
  by_cases hc : cause = .disconnect
  · have hcause : (s.bay b).cause = some .disconnect := hc ▸ h.cause
    obtain ⟨haway, hbay⟩ := freeSlot_of_not_waiting (b := b) (s := becomeFaulted b (bridgedOver b s))
      (by rw [bridgedOver_waiting]; exact h.waiting)
    have hgrows := ((works_freeSlot (becomeFaulted b (bridgedOver b s))).trans (works_recompute _)).grows
    rw [openPath_faulted hcause]
    refine ⟨haway.recompute.waiting, .inr (.inr ⟨hc, ?_, haway.recompute.slot, ?_⟩)⟩
    · rw [recompute_bay, hbay, becomeFaulted_bay]; rfl
    · exact hgrows.pending (by rw [becomeFaulted_eq]; exact pending_raise_self _ _)
  · have hcause : (s.bay b).cause ≠ some .disconnect := by rw [h.cause]; simpa using hc
    have hslots := sameSlots_recompute (releaseBay b (bridgedOver b s))
    have hr := releaseBay_supply b (bridgedOver b s)
    have hbr := sameSlots_bridgedOver b s
    have hsums := sameSums_released h.state hp
    rw [openPath_released hcause]
    refine ⟨?_, .inr (.inl ⟨?_, hc, ?_, ?_, ?_, ?_, ?_⟩)⟩
    · rw [hslots.waiting, hr]
      show (bridgedOver b s).supply.waiting ≠ some b
      rw [hbr.waiting]
      exact h.waiting
    · rw [(fresh_recompute _).ceiling, (sameSums_recompute _).ceiling, hsums.ceiling, ← hf.ceiling, (works_recompute _).inputs.total,
        (works_releaseBay b _).inputs.total, (works_bridgedOver b s).inputs.total]
      exact ht
    · rw [recompute_bay, releaseBay_bay]; rfl
    · rw [recompute_bay, releaseBay_bay, bridgedOver_bay]; exact h.cause
    · rw [hslots.slot, hr]; exact hbr.slot.trans h.slot
    · rw [hslots.phase, hr]
    · exact (works_recompute _).grows.pending (pending_raise_self _ _)

theorem onItsWay_pathTest {b : Bay} {cause : Cause} {s : State} (h : Under b cause s) (hf : Fresh s) : OnItsWay b cause (pathTest s) := by
  rcases h.phase with hp | hp
  · rw [pathTest_of_not_clearing (by simp [hp])]
    exact ⟨h.waiting, .inl ⟨h.state, h.cause, h.slot, .inl hp⟩⟩
  · by_cases ht : s.supply.totalHeld ≤ s.supply.ceiling
    · rw [pathTest_of_within h.slot hp ht]
      exact onItsWay_opened h hp hf ht
    · rw [pathTest_of_above (by omega)]
      exact ⟨h.waiting, .inl ⟨h.state, h.cause, h.slot, .inr ⟨hp, by omega⟩⟩⟩

/-- A further path test leaves a withdrawal on its way. -/
theorem OnItsWay.pathTest {b : Bay} {cause : Cause} {s : State} (h : OnItsWay b cause s) : OnItsWay b cause (pathTest s) := by
  have h0 := h
  obtain ⟨hw, ⟨-, -, -, hp | ⟨-, ht⟩⟩ | ⟨-, -, -, -, -, hp, -⟩ | ⟨hc, hb, hs, hpend⟩⟩ := h
  · rwa [pathTest_of_not_clearing (by simp [hp])]
  · rwa [pathTest_of_above ht]
  · rwa [pathTest_of_not_clearing (by simp [hp])]
  · obtain ⟨haway, hbay⟩ := away_pathTest (b := b) ⟨hs, hw⟩
    exact ⟨haway.waiting, .inr (.inr ⟨hc, by rw [hbay]; exact hb, haway.slot, (works_pathTest s).grows.pending hpend⟩)⟩

theorem OnItsWay.refreshRefill {b : Bay} {cause : Cause} {s : State} (h : OnItsWay b cause s) : OnItsWay b cause (refreshRefill s) := by
  unfold OnItsWay at h ⊢
  rw [refreshRefill_bay]
  exact h

theorem onItsWay_testPaths {b : Bay} {cause : Cause} {s : State} (h : Under b cause s) (hf : Fresh s) : OnItsWay b cause (testPaths s) :=
  (onItsWay_pathTest h hf).pathTest.refreshRefill

theorem onItsWay_settle {b : Bay} {cause : Cause} {s : State} (h : Under b cause s) : OnItsWay b cause (settle s) :=
  onItsWay_testPaths h.recompute (fresh_recompute s)

/-- R97: no path test blocks a withdrawal, and none frees one that is blocked. -/
theorem heldBlocked_pathTest {b : Bay} {s : State} (h : s.supply.waiting ≠ some b) : HeldBlocked b (pathTest s) ↔ HeldBlocked b s := by
  rcases pathTest_cases s with he | ⟨o, hs, hp, -, he⟩
  · rw [he]
  · refine iff_of_false ?_ fun hh => absurd hh.2.2 (by simp [hp])
    rw [he]
    unfold HeldBlocked
    rw [recompute_bay, (sameSlots_recompute _).slot]
    by_cases hbo : b = o
    · subst hbo
      by_cases hc : (s.bay b).cause = some .disconnect
      · rw [openPath_faulted hc, (freeSlot_of_not_waiting (by rwa [bridgedOver_waiting])).2, becomeFaulted_bay]
        exact fun hh => absurd hh.1 (by simp [faultedBay, BayRec.recount])
      · rw [openPath_released hc, releaseBay_bay]
        exact fun hh => absurd hh.1 (by simp [releasedBay, BayRec.recount])
    · exact fun hh => (away_openPath h hbo hs).1.slot hh.2.1

theorem heldBlocked_congr {b : Bay} {s t : State} (hb : t.bay b = s.bay b) (hs : SameSlots s.supply t.supply) :
    HeldBlocked b t ↔ HeldBlocked b s := by
  unfold HeldBlocked
  rw [hb, hs.slot, hs.phase]

theorem heldBlocked_testPaths {b : Bay} {s : State} (h : s.supply.waiting ≠ some b) : HeldBlocked b (testPaths s) ↔ HeldBlocked b s :=
  (heldBlocked_congr (refreshRefill_bay _ b) {}).trans ((heldBlocked_pathTest (pathTest_waiting h)).trans (heldBlocked_pathTest h))

theorem heldBlocked_settle {b : Bay} {s : State} (h : s.supply.waiting ≠ some b) : HeldBlocked b (settle s) ↔ HeldBlocked b s :=
  (heldBlocked_testPaths (by rwa [(sameSlots_recompute s).waiting])).trans (heldBlocked_congr (recompute_bay s b) (sameSlots_recompute s))

/-! ### An event that tests no path -/

theorem testPaths_of_not_clearing {s : State} (h : s.supply.phase ≠ some .clearing) : testPaths s = refreshRefill s := by
  rw [testPaths, pathTest_of_not_clearing h, pathTest_of_not_clearing h]

theorem testPaths_of_above {s : State} (h : s.supply.ceiling < s.supply.totalHeld) : testPaths s = refreshRefill s := by
  rw [testPaths, pathTest_of_above h, pathTest_of_above h]

theorem settle_of_not_clearing {s : State} (h : s.supply.phase ≠ some .clearing) : settle s = refreshRefill (recompute s) :=
  testPaths_of_not_clearing (by rwa [(sameSlots_recompute s).phase])

theorem sameSlots_settle {s : State} (h : s.supply.phase ≠ some .clearing) : SameSlots s.supply (settle s).supply := by
  have hs := sameSlots_recompute s
  rw [settle_of_not_clearing h]
  exact ⟨hs.slot, hs.phase, hs.waiting, hs.reason⟩

theorem settle_bay {s : State} (h : s.supply.phase ≠ some .clearing) (b : Bay) : (settle s).bay b = s.bay b := by
  rw [settle_of_not_clearing h, refreshRefill_bay, recompute_bay]

end Sys2Proof.Machine
end

section
/-!
PROOFS. The bridge test of a withdrawal, the start of a withdrawal and what becomes of it, the waiting bay's turn, the carrying of the bridge, and the
answer to a loss (R98 to R100, R103, R105, R106, R110).
-/
namespace Sys2Proof.Machine

/-! ### The bridge test -/

theorem bridgeBlocks_iff (b : Bay) (s : State) : BridgeBlocks b s ↔ blocks b s = true := by
  unfold BridgeBlocks blocks lastSource State.profile
  cases h : s.system.state <;> simp [and_assoc]

/-- What the bridge test of a withdrawal of the bay reads. -/
structure SameTest (b : Bay) (s t : State) : Prop where
  other : (t.bay (otherBay b)).state = .online ↔ (s.bay (otherBay b)).state = .online
  inlet : t.supply.inletPresent = s.supply.inletPresent
  reserve : t.supply.reserve = s.supply.reserve
  system : t.system = s.system
  store : t.store = s.store

theorem SameTest.bridgeBlocks {b : Bay} {s t : State} (h : SameTest b s t) : BridgeBlocks b t ↔ BridgeBlocks b s := by
  unfold BridgeBlocks
  rw [ne_eq, ne_eq, h.other, h.inlet, h.reserve, h.system, h.store]

theorem Works.sameTest {b : Bay} {s t : State} (h : Works s t) (ho : t.bay (otherBay b) = s.bay (otherBay b)) : SameTest b s t :=
  ⟨by rw [ho], h.inputs.inlet, h.inputs.reserve, h.system, h.store⟩

theorem unblock_of_blocked {b : Bay} {s : State} (hs : s.supply.slot = some b) (hp : s.supply.phase = some .blocked) :
    unblock s = if blocks b s then s else enterPhase false s := by
  unfold unblock
  rw [hs, hp]

theorem unblock_of_not_blocked {s : State} (hp : s.supply.phase ≠ some .blocked) : unblock s = s := by
  unfold unblock
  split
  next hx => exact absurd hx hp
  · rfl

theorem unblock_of_free {s : State} (hs : s.supply.slot = none) : unblock s = s := by
  unfold unblock
  rw [hs]

theorem reblock_of_clearing {b : Bay} {s : State} (hs : s.supply.slot = some b) (hp : s.supply.phase = some .clearing) :
    reblock s = if blocks b s then enterPhase true s else s := by
  unfold reblock
  rw [hs, hp]

theorem reblock_of_not_clearing {s : State} (hp : s.supply.phase ≠ some .clearing) : reblock s = s := by
  unfold reblock
  split
  next hx => exact absurd hx hp
  · rfl

theorem reblock_of_free {s : State} (hs : s.supply.slot = none) : reblock s = s := by
  unfold reblock
  rw [hs]

theorem retest_of_free {s : State} (hs : s.supply.slot = none) : retest s = s := by
  rw [retest, unblock_of_free hs, reblock_of_free hs]

theorem retest_of_opened {s : State} (hp : s.supply.phase = some .opened) : retest s = s := by
  rw [retest, unblock_of_not_blocked (by simp [hp]), reblock_of_not_clearing (by simp [hp])]

theorem unblock_bay (s : State) (b : Bay) : (unblock s).bay b = s.bay b := by
  unfold unblock
  split
  · split
    · rfl
    · exact enterPhase_bay _ s b
  · rfl

theorem reblock_bay (s : State) (b : Bay) : (reblock s).bay b = s.bay b := by
  unfold reblock
  split
  · split
    · exact enterPhase_bay _ s b
    · rfl
  · rfl

theorem retest_bay (s : State) (b : Bay) : (retest s).bay b = s.bay b := (reblock_bay _ b).trans (unblock_bay s b)

/-- What a test of a withdrawal leaves of the supply record. -/
structure SameButPhase (r r' : SupplyRec) : Prop where
  slot : r'.slot = r.slot := by rfl
  waiting : r'.waiting = r.waiting := by rfl
  reason : r'.waitReason = r.waitReason := by rfl
  carrying : r'.carrying = r.carrying := by rfl
  drain : r'.drainTimer = r.drainTimer := by rfl

theorem sameButPhase_enterPhase (x : Bool) (s : State) : SameButPhase s.supply (enterPhase x s).supply := by
  rw [enterPhase_supply]
  exact {}

theorem SameButPhase.trans {r r' r'' : SupplyRec} (h : SameButPhase r r') (k : SameButPhase r' r'') : SameButPhase r r'' :=
  ⟨k.slot.trans h.slot, k.waiting.trans h.waiting, k.reason.trans h.reason, k.carrying.trans h.carrying, k.drain.trans h.drain⟩

theorem sameButPhase_unblock (s : State) : SameButPhase s.supply (unblock s).supply := by
  unfold unblock
  split
  · split
    · exact {}
    · exact sameButPhase_enterPhase _ s
  · exact {}

theorem sameButPhase_reblock (s : State) : SameButPhase s.supply (reblock s).supply := by
  unfold reblock
  split
  · split
    · exact sameButPhase_enterPhase _ s
    · exact {}
  · exact {}

theorem sameButPhase_retest (s : State) : SameButPhase s.supply (retest s).supply := (sameButPhase_unblock s).trans (sameButPhase_reblock _)

/-! ### The start of a withdrawal -/

/-- R98, R99: the withdrawal of a bay has begun, its path not yet tested. -/
structure Begun (b : Bay) (cause : Cause) (s : State) : Prop where
  under : Under b cause s
  blocked : s.supply.phase = some .blocked ↔ BridgeBlocks b s
  raised : s.supply.phase = some .blocked → Pending (.supply .withdrawBlocked) s

/-- R98, R99: the withdrawal of a bay has begun, and no bay waits. -/
structure Started (b : Bay) (cause : Cause) (s : State) : Prop extends Begun b cause s where
  alone : s.supply.waiting = none

theorem phase_entered_cases (x : Bool) : (if x then Phase.blocked else .clearing) = .blocked ∨ (if x then Phase.blocked else .clearing) = .clearing := by
  cases x <;> decide

theorem bridgeBlocks_startWithdrawal (b : Bay) (cause : Cause) (s : State) : BridgeBlocks b (startWithdrawal b cause s) ↔ BridgeBlocks b s :=
  ((works_startWithdrawal b cause s).sameTest (startWithdrawal_other b cause s)).bridgeBlocks

/-- R98: a bay takes the free slot. -/
theorem begun_startWithdrawal (b : Bay) (cause : Cause) (s : State) : Begun b cause (startWithdrawal b cause s) := by
  have hbay := startWithdrawal_bay b cause s
  have hr := startWithdrawal_supply b cause s
  have htest : BridgeBlocks b (slotTaken b cause s) ↔ BridgeBlocks b s :=
    ((works_slotTaken b cause s).sameTest (slotTaken_other b cause s)).bridgeBlocks
  refine ⟨⟨by rw [hbay]; rfl, by rw [hbay]; rfl, by rw [hr], ?_, ?_⟩, ?_, ?_⟩
  · rw [hr]
    exact (phase_entered_cases _).imp (congrArg some) (congrArg some)
  · rw [hr]
    exact fun hw => (waiting_of_stopWaiting hw).2 rfl
  · rw [bridgeBlocks_startWithdrawal, ← htest, bridgeBlocks_iff, hr]
    cases blocks b (slotTaken b cause s) <;> simp
  · rw [hr, startWithdrawal_eq]
    cases hx : blocks b (slotTaken b cause s) with
    | true => exact fun _ => pending_raise_self _ _
    | false => exact fun hp => by cases hp

theorem started_startWithdrawal {b : Bay} {s : State} (h : ∀ c, s.supply.waiting = some c → c = b) (cause : Cause) :
    Started b cause (startWithdrawal b cause s) := ⟨begun_startWithdrawal b cause s, waiting_startWithdrawal h⟩

theorem Begun.congr {b : Bay} {cause : Cause} {s t : State} (h : Begun b cause s) (hw : Works s t) (hb : ∀ c, t.bay c = s.bay c)
    (hs : SameSlots s.supply t.supply) : Begun b cause t := by
  have htest := (hw.sameTest (hb (otherBay b))).bridgeBlocks
  refine ⟨h.under.congr (hb b) hs, by rw [htest, hs.phase]; exact h.blocked, fun hp => ?_⟩
  exact hw.grows.pending (h.raised (hs.phase ▸ hp))

theorem Started.congr {b : Bay} {cause : Cause} {s t : State} (h : Started b cause s) (hw : Works s t) (hb : ∀ c, t.bay c = s.bay c)
    (hs : SameSlots s.supply t.supply) : Started b cause t := ⟨h.toBegun.congr hw hb hs, hs.waiting.trans h.alone⟩

theorem Begun.recompute {b : Bay} {cause : Cause} {s : State} (h : Begun b cause s) : Begun b cause (recompute s) :=
  h.congr (works_recompute s) (recompute_bay s) (sameSlots_recompute s)

theorem Started.recompute {b : Bay} {cause : Cause} {s : State} (h : Started b cause s) : Started b cause (recompute s) :=
  h.congr (works_recompute s) (recompute_bay s) (sameSlots_recompute s)

theorem Started.away {b : Bay} {cause : Cause} {s : State} (h : Started b cause s) : Away (otherBay b) s :=
  ⟨by rw [h.under.slot]; exact fun hx => otherBay_ne b (Option.some.inj hx).symm, by simp [h.alone]⟩

/-- The test just made is made again, and finds the same. -/
theorem Started.unblock {b : Bay} {cause : Cause} {s : State} (h : Started b cause s) : unblock s = s := by
  rcases h.under.phase with hp | hp
  · rw [unblock_of_blocked h.under.slot hp, if_pos ((bridgeBlocks_iff b s).mp (h.blocked.mp hp))]
  · exact unblock_of_not_blocked (by simp [hp])

theorem Started.retest {b : Bay} {cause : Cause} {s : State} (h : Started b cause s) : retest s = s := by
  rw [Sys2Proof.Machine.retest, h.unblock]
  rcases h.under.phase with hp | hp
  · exact reblock_of_not_clearing (by simp [hp])
  · rw [reblock_of_clearing h.under.slot hp, if_neg]
    rw [← bridgeBlocks_iff, ← h.blocked]
    simp [hp]

theorem Begun.heldBlocked {b : Bay} {cause : Cause} {s : State} (h : Begun b cause s) : HeldBlocked b s ↔ BridgeBlocks b s := by
  rw [← h.blocked]
  exact ⟨fun hh => hh.2.2, fun hp => ⟨h.under.state, h.under.slot, hp⟩⟩

theorem WithdrawalStarted.of_iff {b : Bay} {cause : Cause} {u v t : State} (h : WithdrawalStarted b cause v t)
    (hu : BridgeBlocks b u ↔ BridgeBlocks b v) : WithdrawalStarted b cause u t :=
  ⟨h.1, fun hb => h.2.1 (hu.mp hb), fun hb => h.2.2 (mt hu.mpr hb)⟩

/-- R98, R99, R101: the path tests behind a start. -/
theorem Begun.testPaths {b : Bay} {cause : Cause} {s : State} (h : Begun b cause s) (hf : Fresh s) :
    WithdrawalStarted b cause s (testPaths s) := by
  have hheld := (heldBlocked_testPaths h.under.waiting).trans h.heldBlocked
  exact ⟨onItsWay_testPaths h.under hf,
    fun hb => ⟨hheld.mpr hb, (works_testPaths s).grows.pending (h.raised (h.blocked.mpr hb))⟩, fun hb => mt hheld.mp hb⟩

theorem Begun.settle {b : Bay} {cause : Cause} {s : State} (h : Begun b cause s) : WithdrawalStarted b cause s (settle s) :=
  (h.recompute.testPaths (fresh_recompute s)).of_iff
    ((works_recompute s).sameTest (b := b) (recompute_bay s _)).bridgeBlocks.symm

theorem Started.test_settle {b : Bay} {cause : Cause} {s : State} (h : Started b cause s) :
    BridgeBlocks b (Sys2Proof.Machine.settle s) ↔ BridgeBlocks b s :=
  ((works_settle s).sameTest (away_settle h.away).2).bridgeBlocks

theorem Started.settle_self {b : Bay} {cause : Cause} {s : State} (h : Started b cause s) :
    WithdrawalStarted b cause (Sys2Proof.Machine.settle s) (Sys2Proof.Machine.settle s) := h.settle.of_iff h.test_settle

/-! ### The waiting bay's turn -/

/-- R103: what the slot's coming free has made, in `t`, of the bay that waited, its record `r` and its reason as they stood. -/
def TurnTaken (b : Bay) (r : BayRec) (reason : Option WaitReason) (t : State) : Prop :=
  match turnCause r reason with
  | some cause => WithdrawalStarted b cause t t
  | none => t.bay b = r ∧ t.supply.waiting = none ∧ t.supply.slot = none

/-- R103: the same, the paths not yet tested. -/
def TurnStarted (b : Bay) (r : BayRec) (reason : Option WaitReason) (t : State) : Prop :=
  match turnCause r reason with
  | some cause => Started b cause t ∧ t.bay b = withdrawingBay cause r
  | none => t.bay b = r ∧ t.supply.waiting = none ∧ t.supply.slot = none ∧ t.supply.phase = none

theorem turnStarted_freeSlot {b : Bay} {s : State} (h : s.supply.waiting = some b) :
    TurnStarted b (s.bay b) s.supply.waitReason (freeSlot s) := by
  have hv : (vacated s).supply.waiting = some b := h
  rw [freeSlot_of_some h, TurnStarted]
  cases turnCause (s.bay b) s.supply.waitReason with
  | some cause =>
    exact ⟨started_startWithdrawal (fun c hc => Option.some.inj (hc.symm.trans hv)) cause,
      (startWithdrawal_bay b cause _).trans (by rw [vacated_bay])⟩
  | none =>
    refine ⟨(stopWaiting_bay b _ b).trans (vacated_bay s b), ?_, ?_, ?_⟩
    · exact (stopWaiting_waiting b _).trans (if_pos hv)
    · exact (stopWaiting_slot b _).trans rfl
    · exact (stopWaiting_phase b _).trans rfl

theorem TurnStarted.congr {b : Bay} {r : BayRec} {x : Option WaitReason} {s t : State} (h : TurnStarted b r x s) (hw : Works s t)
    (hb : ∀ c, t.bay c = s.bay c) (hs : SameSlots s.supply t.supply) : TurnStarted b r x t := by
  unfold TurnStarted at h ⊢
  cases hc : turnCause r x with
  | some cause =>
    rw [hc] at h
    exact ⟨h.1.congr hw hb hs, (hb b).trans h.2⟩
  | none =>
    rw [hc] at h
    obtain ⟨hbay, hwait, hslot, hphase⟩ := h
    exact ⟨(hb b).trans hbay, hs.waiting.trans hwait, hs.slot.trans hslot, hs.phase.trans hphase⟩

theorem TurnStarted.recompute {b : Bay} {r : BayRec} {x : Option WaitReason} {s : State} (h : TurnStarted b r x s) :
    TurnStarted b r x (recompute s) := h.congr (works_recompute s) (recompute_bay s) (sameSlots_recompute s)

theorem TurnStarted.unblock {b : Bay} {r : BayRec} {x : Option WaitReason} {s : State} (h : TurnStarted b r x s) : unblock s = s := by
  unfold TurnStarted at h
  split at h
  · exact h.1.unblock
  · exact unblock_of_free h.2.2.1

theorem TurnStarted.retest {b : Bay} {r : BayRec} {x : Option WaitReason} {s : State} (h : TurnStarted b r x s) : retest s = s := by
  unfold TurnStarted at h
  split at h
  · exact h.1.retest
  · exact retest_of_free h.2.2.1

theorem TurnStarted.testPaths {b : Bay} {r : BayRec} {x : Option WaitReason} {s : State} (h : TurnStarted b r x s) (hf : Fresh s) :
    TurnTaken b r x (testPaths s) := by
  unfold TurnStarted at h
  unfold TurnTaken
  cases hc : turnCause r x with
  | some cause =>
    rw [hc] at h
    have hs : Started b cause s := h.1
    exact (hs.testPaths hf).of_iff ((works_testPaths s).sameTest (away_testPaths hs.away).2).bridgeBlocks
  | none =>
    rw [hc] at h
    obtain ⟨hbay, hwait, hslot, hphase⟩ := h
    rw [testPaths_of_not_clearing (by simp [hphase])]
    exact ⟨(refreshRefill_bay s b).trans hbay, hwait, hslot⟩

theorem TurnStarted.settle {b : Bay} {r : BayRec} {x : Option WaitReason} {s : State} (h : TurnStarted b r x s) :
    TurnTaken b r x (settle s) := h.recompute.testPaths (fresh_recompute s)

theorem openPath_waiting_none {b : Bay} {s : State} (h : s.supply.waiting = none) :
    (openPath b s).supply.phase = some .opened ∨ (openPath b s).supply.slot = none := by
  by_cases hc : (s.bay b).cause = some .disconnect
  · rw [openPath_faulted hc, freeSlot_of_none (by rw [bridgedOver_waiting, h])]
    exact .inr rfl
  · rw [openPath_released hc, releaseBay_supply]
    exact .inl rfl

/-- R101: with no bay waiting, a second path test finds nothing. -/
theorem pathTest_twice {s : State} (h : s.supply.waiting = none) : pathTest (pathTest s) = pathTest s := by
  rcases pathTest_cases s with he | ⟨b, -, -, -, he⟩
  · rw [he, he]
  · have hs := sameSlots_recompute (openPath b s)
    rw [he]
    rcases openPath_waiting_none (b := b) h with hp | hp
    · exact pathTest_of_not_clearing (by simp [hs.phase, hp])
    · exact pathTest_of_free (hs.slot.trans hp)

/-- R97, R103: either the bay waits on behind the end of the event, or the other bay's path has opened by a DISCONNECT and the turn has started. -/
theorem waiting_settle_cases {b : Bay} {s : State} (hw : s.supply.waiting = some b) (hs : s.supply.slot = some (otherBay b)) :
    ((settle s).bay b = s.bay b ∧ (settle s).supply.waiting = some b ∧ (settle s).supply.waitReason = s.supply.waitReason ∧
      (settle s).supply.slot = some (otherBay b)) ∨
    (s.supply.phase = some .clearing ∧ ∃ w, TurnStarted b (s.bay b) s.supply.waitReason w ∧ Fresh w ∧ Away (otherBay b) w ∧
      settle s = testPaths w) := by
  have hrec := sameSlots_recompute s
  have hstill : pathTest (recompute s) = recompute s → (settle s).bay b = s.bay b ∧ (settle s).supply.waiting = some b ∧
      (settle s).supply.waitReason = s.supply.waitReason ∧ (settle s).supply.slot = some (otherBay b) := fun he => by
    rw [settle_eq, Sys2Proof.Machine.testPaths, he, he]
    exact ⟨(refreshRefill_bay _ b).trans (recompute_bay s b), hrec.waiting.trans hw, hrec.reason, hrec.slot.trans hs⟩
  rcases pathTest_cases (recompute s) with he | ⟨o, hso, hp, -, he⟩
  · exact .inl (hstill he)
  have ho : o = otherBay b := Option.some.inj (hso.symm.trans (hrec.slot.trans hs))
  subst ho
  have hphase : s.supply.phase = some .clearing := hrec.phase ▸ hp
  have hne : b ≠ otherBay b := (otherBay_ne b).symm
  by_cases hc : ((recompute s).bay (otherBay b)).cause = some .disconnect
  · refine .inr ⟨hphase, ?_⟩
    rw [openPath_faulted hc] at he
    have hwait : (becomeFaulted (otherBay b) (bridgedOver (otherBay b) (recompute s))).supply.waiting = some b := by
      rw [bridgedOver_waiting, hrec.waiting, hw]
    have hbay : (becomeFaulted (otherBay b) (bridgedOver (otherBay b) (recompute s))).bay b = s.bay b := by
      have := becomeFaulted_other (otherBay b) (bridgedOver (otherBay b) (recompute s))
      rw [otherBay_otherBay] at this
      rw [this, bridgedOver_bay, recompute_bay]
    have hreason : (becomeFaulted (otherBay b) (bridgedOver (otherBay b) (recompute s))).supply.waitReason = s.supply.waitReason := by
      rw [becomeFaulted_supply, (sameSlots_bridgedOver _ _).reason, hrec.reason]
    have hturn := turnStarted_freeSlot hwait
    rw [hbay, hreason] at hturn
    have haway := (freeSlot_of_not_waiting (b := otherBay b) (s := becomeFaulted (otherBay b) (bridgedOver (otherBay b) (recompute s)))
      (by rw [hwait]; simpa using hne)).1
    have hwaits : (pathTest (recompute s)).supply.waiting = none := by
      rw [he, (sameSlots_recompute _).waiting, freeSlot_waiting]
    have hsettle : settle s = testPaths (pathTest (recompute s)) := by
      rw [settle_eq, testPaths, testPaths, pathTest_twice hwaits]
    rw [he] at hsettle
    exact ⟨_, hturn.recompute, fresh_recompute _, haway.recompute, hsettle⟩
  · refine .inl ?_
    rw [openPath_released hc] at he
    have hr := releaseBay_supply (otherBay b) (bridgedOver (otherBay b) (recompute s))
    have hlast := sameSlots_recompute (releaseBay (otherBay b) (bridgedOver (otherBay b) (recompute s)))
    have hover := sameSlots_bridgedOver (otherBay b) (recompute s)
    have hbay := releaseBay_other (otherBay b) (bridgedOver (otherBay b) (recompute s))
    rw [otherBay_otherBay, bridgedOver_bay, recompute_bay] at hbay
    have hsettle : settle s = refreshRefill (recompute (releaseBay (otherBay b) (bridgedOver (otherBay b) (recompute s)))) := by
      rw [settle_eq, testPaths, he, pathTest_of_not_clearing (by simp [hlast.phase, hr])]
    rw [hsettle]
    refine ⟨?_, hlast.waiting.trans ?_, hlast.reason.trans ?_, hlast.slot.trans ?_⟩
    · rw [refreshRefill_bay, recompute_bay, hbay]
    · rw [hr]; exact hover.waiting.trans (hrec.waiting.trans hw)
    · rw [hr]; exact hover.reason.trans hrec.reason
    · rw [hr]; exact hover.slot.trans hso

theorem waiting_settle {b : Bay} {s : State} (hw : s.supply.waiting = some b) (hs : s.supply.slot = some (otherBay b)) :
    ((settle s).bay b = s.bay b ∧ (settle s).supply.waiting = some b ∧ (settle s).supply.waitReason = s.supply.waitReason ∧
      (settle s).supply.slot = some (otherBay b)) ∨
    (s.supply.phase = some .clearing ∧ Away (otherBay b) (settle s) ∧ TurnTaken b (s.bay b) s.supply.waitReason (settle s)) := by
  refine (waiting_settle_cases hw hs).imp_right fun ⟨hp, w, hturn, hf, haway, he⟩ => ?_
  rw [he]
  exact ⟨hp, (away_testPaths haway).1, hturn.testPaths hf⟩

/-! ### The record of a bay through the end of an event -/

/-- A bay whose path has opened keeps no requalify, and is RELEASED, or FAULTED after a DISCONNECT. -/
structure PathLeft (r r' : BayRec) : Prop where
  requalify : r'.requalify = none
  state : r'.state = .released ∨ r'.state = .faulted
  window : r'.ejectWindow = r.ejectWindow ∨ r'.ejectWindow = none

theorem PathLeft.not_online {r r' : BayRec} (h : PathLeft r r') : r'.state ≠ .online ∧ r'.state ≠ .withdrawing ∧ r'.state ≠ .qualified := by
  rcases h.state with hs | hs <;> rw [hs] <;> decide

theorem PathLeft.trans {r r' r'' : BayRec} (h : r' = r ∨ PathLeft r r') (k : PathLeft r' r'') : PathLeft r r'' := by
  refine ⟨k.requalify, k.state, ?_⟩
  rcases h with rfl | h
  · exact k.window
  · rcases k.window with hw | hw
    · rw [hw]; exact h.window
    · exact .inr hw

theorem pathTest_bay {b : Bay} {s : State} (h : s.supply.waiting ≠ some b) :
    (pathTest s).bay b = s.bay b ∨ PathLeft (s.bay b) ((pathTest s).bay b) := by
  rcases pathTest_cases s with he | ⟨o, hs, -, -, he⟩
  · exact .inl (by rw [he])
  rw [he, recompute_bay]
  by_cases hbo : b = o
  · subst hbo
    refine .inr ?_
    by_cases hc : (s.bay b).cause = some .disconnect
    · rw [openPath_faulted hc, (freeSlot_of_not_waiting (by rwa [bridgedOver_waiting])).2, becomeFaulted_bay]
      exact ⟨rfl, .inr rfl, .inr rfl⟩
    · rw [openPath_released hc, releaseBay_bay, bridgedOver_bay]
      exact ⟨rfl, .inl rfl, .inl rfl⟩
  · exact .inl (away_openPath h hbo hs).2

theorem testPaths_bay {b : Bay} {s : State} (h : s.supply.waiting ≠ some b) :
    (testPaths s).bay b = s.bay b ∨ PathLeft (s.bay b) ((testPaths s).bay b) := by
  have he : (testPaths s).bay b = (pathTest (pathTest s)).bay b := refreshRefill_bay _ b
  rw [he]
  rcases pathTest_bay (pathTest_waiting h) with h2 | h2
  · rw [h2]
    exact pathTest_bay h
  · exact .inr (PathLeft.trans (pathTest_bay h) h2)

/-- R97, R101, R102: the end of an event leaves a bay that does not wait as it was, or has its path opened. -/
theorem settle_bay_of_not_waiting {b : Bay} {s : State} (h : s.supply.waiting ≠ some b) :
    (settle s).bay b = s.bay b ∨ PathLeft (s.bay b) ((settle s).bay b) := by
  have ht := testPaths_bay (s := recompute s) (by rwa [(sameSlots_recompute s).waiting])
  rwa [recompute_bay] at ht

/-- R97, R101 to R103: the end of an event leaves a bay as it was, or has its withdrawal started in its turn, or has its path opened. -/
theorem settle_bay_cases {b : Bay} {s : State} (h : s.supply.waiting = some b → s.supply.slot = some (otherBay b)) :
    (settle s).bay b = s.bay b ∨ (∃ cause, (settle s).bay b = withdrawingBay cause (s.bay b)) ∨
      ∃ r, PathLeft r ((settle s).bay b) := by
  by_cases hw : s.supply.waiting = some b
  · rcases waiting_settle_cases hw (h hw) with ⟨hb, -⟩ | ⟨-, w, hturn, -, -, he⟩
    · exact .inl hb
    · rw [he]
      unfold TurnStarted at hturn
      split at hturn
      next cause _ =>
        rcases testPaths_bay hturn.1.under.waiting with hb | hb
        · exact .inr (.inl ⟨cause, hb.trans hturn.2⟩)
        · exact .inr (.inr ⟨_, hb⟩)
      · obtain ⟨hb, -, -, hphase⟩ := hturn
        rw [testPaths_of_not_clearing (by simp [hphase]), refreshRefill_bay]
        exact .inl hb
  · exact (settle_bay_of_not_waiting hw).imp_right fun hb => .inr ⟨_, hb⟩

end Sys2Proof.Machine
end

section
/-!
PROOFS. The test of a withdrawal by an event (R99, R100), the bridge through the end of an event (R106), the answer to a loss (R105), the refill timer
(R110), and what the last act of an event leaves of each.
-/
namespace Sys2Proof.Machine

/-! ### An event that tests the withdrawal under way -/

theorem under_enterPhase {b : Bay} {cause : Cause} {s : State} (h : Under b cause s) (x : Bool) : Under b cause (enterPhase x s) := by
  have hr := enterPhase_supply x s
  refine ⟨by rw [enterPhase_bay]; exact h.state, by rw [enterPhase_bay]; exact h.cause, by rw [hr]; exact h.slot, ?_, by rw [hr]; exact h.waiting⟩
  rw [hr]
  exact (phase_entered_cases x).imp (congrArg some) (congrArg some)

theorem Under.heldBlocked {b : Bay} {cause : Cause} {s : State} (h : Under b cause s) : HeldBlocked b s ↔ s.supply.phase = some .blocked :=
  ⟨fun hh => hh.2.2, fun hp => ⟨h.state, h.slot, hp⟩⟩

theorem under_unblock {b : Bay} {cause : Cause} {s : State} (h : Under b cause s) : Under b cause (unblock s) := by
  unfold unblock
  split
  · split
    · exact h
    · exact under_enterPhase h _
  · exact h

theorem under_reblock {b : Bay} {cause : Cause} {s : State} (h : Under b cause s) : Under b cause (reblock s) := by
  unfold reblock
  split
  · split
    · exact under_enterPhase h _
    · exact h
  · exact h

theorem under_retest {b : Bay} {cause : Cause} {s : State} (h : Under b cause s) : Under b cause (retest s) := under_reblock (under_unblock h)

/-- R100: a BLOCKED withdrawal behind its test. -/
theorem unblock_phase_of_blocked {b : Bay} {s : State} (hs : s.supply.slot = some b) (hp : s.supply.phase = some .blocked) :
    (unblock s).supply.phase = some .blocked ↔ BridgeBlocks b s := by
  rw [unblock_of_blocked hs hp, bridgeBlocks_iff]
  cases blocks b s with
  | true => simp [hp]
  | false => simp [enterPhase_supply]

theorem sameTest_unblock (b : Bay) (s : State) : SameTest b s (unblock s) := (works_unblock s).sameTest (unblock_bay s _)

/-- R99, R100: a withdrawal behind its test in both phases. -/
theorem retest_phase {b : Bay} {cause : Cause} {s : State} (h : Under b cause s) :
    (retest s).supply.phase = some .blocked ↔ BridgeBlocks b s := by
  have hu := under_unblock h
  have htest := (sameTest_unblock b s).bridgeBlocks
  unfold retest
  rcases hu.phase with hp | hp
  · rw [reblock_of_not_clearing (by simp [hp])]
    refine iff_of_true hp ?_
    rcases h.phase with hq | hq
    · exact (unblock_phase_of_blocked h.slot hq).mp hp
    · rw [unblock_of_not_blocked (by simp [hq]), hq] at hp
      cases hp
  · rw [reblock_of_clearing hu.slot hp, ← htest, bridgeBlocks_iff]
    cases blocks b (unblock s) with
    | true => simp [enterPhase_supply]
    | false => simp [hp]

/-- R99: the return to BLOCKED is told. -/
theorem pending_retest {b : Bay} {cause : Cause} {s : State} (h : Under b cause s) (hp : s.supply.phase = some .clearing)
    (hb : BridgeBlocks b s) : Pending (.supply .withdrawBlocked) (retest s) := by
  have hu : unblock s = s := unblock_of_not_blocked (by simp [hp])
  rw [retest, hu, reblock_of_clearing h.slot hp, if_pos ((bridgeBlocks_iff b s).mp hb)]
  exact pending_raise_self _ _

/-- R99, R100: what an event that tests the withdrawal leaves of it, `v` the state that it tests. -/
theorem withdrawalTested_settle {again : Bool} {u v : State}
    (h : ∀ b cause, u.supply.slot = some b → (u.bay b).cause = some cause → u.supply.phase ≠ some .opened →
      u.supply.phase = some .blocked ∨ u.supply.phase = some .clearing →
      Under b cause v ∧ v.supply.phase = u.supply.phase ∧ (BridgeBlocks b u ↔ BridgeBlocks b v)) :
    WithdrawalTested again u (settle (if again then retest v else unblock v)) := by
  intro b cause hs hc
  have hunder : ∀ w : State, Under b cause w → (HeldBlocked b (settle w) ↔ w.supply.phase = some .blocked) := fun w hw =>
    (heldBlocked_settle hw.waiting).trans hw.heldBlocked
  refine ⟨fun hp => ?_, fun hp => ?_⟩
  · obtain ⟨hv, hvp, htest⟩ := h b cause hs hc (by simp [hp]) (.inl hp)
    rw [htest]
    have hw : Under b cause (if again then retest v else unblock v) := ite_cases (fun _ => under_retest hv) (under_unblock hv)
    have hphase : (if again then retest v else unblock v).supply.phase = some .blocked ↔ BridgeBlocks b v := by
      cases again with
      | true => exact retest_phase hv
      | false => exact unblock_phase_of_blocked hv.slot (hvp.trans hp)
    have hheld := (hunder _ hw).trans hphase
    exact ⟨hheld.mpr, fun hb => ⟨onItsWay_settle hw, mt hheld.mp hb⟩⟩
  · obtain ⟨hv, hvp, htest⟩ := h b cause hs hc (by simp [hp]) (.inr hp)
    rw [htest]
    have hclear : v.supply.phase = some .clearing := hvp.trans hp
    cases again with
    | true =>
      have hw := under_retest hv
      have hheld := (hunder _ hw).trans (retest_phase hv)
      refine ⟨fun _ hb => ⟨hheld.mpr hb, (works_settle _).grows.pending (pending_retest hv hclear hb)⟩, fun hb => ?_⟩
      exact ⟨onItsWay_settle hw, mt hheld.mp (hb.resolve_left (by decide))⟩
    | false =>
      have hun : (if false = true then retest v else unblock v) = v := unblock_of_not_blocked (by simp [hclear])
      rw [hun]
      refine ⟨fun hf => (by cases hf), fun _ => ⟨onItsWay_settle hv, fun hh => ?_⟩⟩
      have := (hunder v hv).mp hh
      rw [hclear] at this
      cases this

/-! ### The bridge through the end of an event -/

theorem startCarrying_of_carrying {s : State} (h : s.supply.carrying = true) : startCarrying s = s := if_pos h

theorem startCarrying_carrying (s : State) : (startCarrying s).supply.carrying = true := by
  unfold startCarrying
  split
  next h => exact h
  · dsimp only
    split <;> rfl

/-- R102: the bridge is not needed where another source stays, where the system is off, or where it carries. -/
theorem bridgedOver_of {b : Bay} {s : State} (h : s.supply.carrying = true ∨ (lastSource b s && systemOn s) = false) :
    bridgedOver b s = s := by
  unfold bridgedOver
  rcases h with h | h
  · rw [startCarrying_of_carrying h, ite_self]
  · rw [h]
    rfl

theorem SameCell.trans {r r' r'' : SupplyRec} (h : SameCell r r') (k : SameCell r' r'') : SameCell r r'' :=
  ⟨k.reserve.trans h.reserve, k.carrying.trans h.carrying, k.drain.trans h.drain⟩

/-- R102: but for the bridge started before it, the opening of a path leaves the cell. -/
theorem sameCell_openPath (b : Bay) (s : State) : SameCell (bridgedOver b s).supply (openPath b s).supply := by
  by_cases hc : (s.bay b).cause = some .disconnect
  · have h := sameCell_freeSlot (becomeFaulted b (bridgedOver b s))
    rw [openPath_faulted hc]
    rwa [becomeFaulted_supply] at h
  · rw [openPath_released hc, releaseBay_supply]
    exact {}

/-- The bridge carries already, or no opening of a path will have it carry: the inlet or an ONLINE bay with no part in the withdrawals supplies, or
the system is off. -/
def Inert (s : State) : Prop :=
  s.supply.carrying = true ∨ s.supply.inletPresent = true ∨ systemOn s = false ∨ ∃ b, (s.bay b).state = .online ∧ Away b s

theorem Inert.bridgedOver {s : State} (h : Inert s) {b : Bay} (hs : s.supply.slot = some b) : bridgedOver b s = s := by
  refine bridgedOver_of ?_
  rcases h with h | h | h | ⟨c, hc, haway⟩
  · exact .inl h
  · exact .inr (by simp [lastSource, h])
  · exact .inr (by simp [h])
  · have hcb : c = otherBay b := eq_otherBay fun hcb => haway.slot (hcb ▸ hs)
    exact .inr (by simp [lastSource, ← hcb, hc])

theorem Inert.keep {s t : State} (h : Inert s) (hw : Works s t) (hc : SameCell s.supply t.supply)
    (ha : ∀ b, Away b s → Away b t ∧ t.bay b = s.bay b) : Inert t := by
  rcases h with h | h | h | ⟨b, hb, haway⟩
  · exact .inl (hc.carrying.trans h)
  · exact .inr (.inl (hw.inputs.inlet.trans h))
  · refine .inr (.inr (.inl ?_))
    rw [systemOn, hw.system]
    exact h
  · obtain ⟨hat, hbt⟩ := ha b haway
    exact .inr (.inr (.inr ⟨b, by rw [hbt]; exact hb, hat⟩))

theorem sameCell_pathTest {s : State} (h : Inert s) : SameCell s.supply (pathTest s).supply := by
  rcases pathTest_cases s with he | ⟨b, hs, -, -, he⟩ <;> rw [he]
  · exact {}
  · have ho := sameCell_openPath b s
    rw [h.bridgedOver hs] at ho
    exact ho.trans (sameCell_recompute _)

theorem Inert.pathTest {s : State} (h : Inert s) : Inert (pathTest s) :=
  h.keep (works_pathTest s) (sameCell_pathTest h) fun _ => away_pathTest

theorem sameCell_testPaths {s : State} (h : Inert s) : SameCell s.supply (testPaths s).supply :=
  (sameCell_pathTest h).trans ((sameCell_pathTest h.pathTest).trans {})

theorem Inert.recompute {s : State} (h : Inert s) : Inert (recompute s) :=
  h.keep (works_recompute s) (sameCell_recompute s) fun b ha => ⟨ha.recompute, recompute_bay s b⟩

theorem sameCell_settle {s : State} (h : Inert s) : SameCell s.supply (settle s).supply :=
  (sameCell_recompute s).trans (sameCell_testPaths h.recompute)

/-! ### The refill timer -/

theorem refreshRefill_timer (s : State) : (refreshRefill s).supply.refillTimer =
    if refillCondition s ∧ s.supply.reserve < 60 then some (s.supply.refillTimer.getD (sec 5)) else none := rfl

theorem refillCondition_refreshRefill (s : State) : refillCondition (refreshRefill s) = refillCondition s := rfl

/-- R110: the refill timer has started at 5 s. -/
theorem refillTimer_settle {s u : State} (h : s.supply.refillTimer = none) (hu : RefillAtFive s.supply u.supply) :
    (settle u).supply.refillTimer = if refillCondition (settle u) ∧ (settle u).supply.reserve < 60 then some (sec 5) else none := by
  have hr := hu.trans (works_settle u).refill
  have hpt : settle u = refreshRefill (pathTest (pathTest (recompute u))) := rfl
  have ht := refreshRefill_timer (pathTest (pathTest (recompute u)))
  rw [← hpt] at ht
  have hc : refillCondition (settle u) = refillCondition (pathTest (pathTest (recompute u))) := refillCondition_refreshRefill _
  have hv : (settle u).supply.reserve = (pathTest (pathTest (recompute u))).supply.reserve := rfl
  rw [← hc, ← hv] at ht
  rw [ht]
  split
  next hcond =>
    rw [if_pos hcond] at ht
    rcases hr with hr | hr | hr
    · rw [ht, h] at hr; cases hr
    · rw [ht] at hr; cases hr
    · rw [← ht, hr]
  · rfl

/-- R110: a bridge that carries has no refill timer. -/
theorem refillTimer_of_carrying {s : State} (h : (settle s).supply.carrying = true) : (settle s).supply.refillTimer = none := by
  have ht := refreshRefill_timer (pathTest (pathTest (recompute s)))
  have hc : (pathTest (pathTest (recompute s))).supply.carrying = true := h
  rw [if_neg (by simp [refillCondition, hc])] at ht
  exact ht

/-! ### No source left -/

theorem answerNoSource_of_source {s : State} (h : someSource s = true) : answerNoSource s = s := if_pos h

theorem answerNoSource_on {s : State} (h : someSource s = false) (ho : s.system.state = .starting ∨ s.system.state = .run) :
    answerNoSource s = if 0 < s.supply.reserve then startCarrying s else s.hand .forcedOff := by
  unfold answerNoSource
  rw [h]
  rcases ho with ho | ho <;> rw [ho] <;> rfl

theorem answerNoSource_stopping {s : State} (h : someSource s = false) (ho : s.system.state = .stopping) :
    answerNoSource s = s.hand .forcedOff := by
  unfold answerNoSource
  rw [h, ho]
  rfl

theorem answerNoSource_bay (s : State) (b : Bay) : (answerNoSource s).bay b = s.bay b := by
  unfold answerNoSource
  repeat' split
  all_goals first
    | rfl
    | exact startCarrying_bay s b

theorem sameSlots_answerNoSource (s : State) : SameSlots s.supply (answerNoSource s).supply := by
  unfold answerNoSource
  repeat' split
  all_goals first
    | exact {}
    | exact sameSlots_startCarrying s

/-- R106: the bridge has started to carry. -/
structure CarryingStarted (s t : State) : Prop where
  carrying : t.supply.carrying = true
  drain : t.supply.drainTimer = some (sec 1)
  bridging : Pending (.supply .bridging) t
  low : s.supply.reserve ≤ 15 → Pending (.supply .bridgeLow) t

theorem carryingStarted (s : State) (h : s.supply.carrying = false) : CarryingStarted s (startCarrying s) := by
  unfold startCarrying
  rw [if_neg (by simp [h])]
  dsimp only
  split
  next hl => exact ⟨rfl, rfl, pending_raise_of_pending _ (pending_raise_self _ _), fun _ => pending_raise_self _ _⟩
  next hl => exact ⟨rfl, rfl, pending_raise_self _ _, fun hl' => absurd hl' hl⟩

theorem CarryingStarted.keep {s t u : State} (h : CarryingStarted s t) (hw : Works t u) (hc : SameCell t.supply u.supply) :
    CarryingStarted s u :=
  ⟨hc.carrying.trans h.carrying, hc.drain.trans h.drain, hw.grows.pending h.bridging, fun hl => hw.grows.pending (h.low hl)⟩

theorem sameCell_retest (s : State) : SameCell s.supply (retest s).supply :=
  have h := sameButPhase_retest s
  ⟨(works_retest s).inputs.reserve, h.carrying, h.drain⟩

/-- R105, R106: a loss that leaves no source is answered. -/
theorem noSourceAnswered_answerLoss {s v : State} (hs : someSource v = false) (hsys : v.system = s.system)
    (hres : v.supply.reserve = s.supply.reserve) (hcarry : v.supply.carrying = s.supply.carrying) :
    NoSourceAnswered s (finish (answerLoss v)) := by
  have hworks := (works_retest (answerNoSource v)).trans (works_settle _)
  refine ⟨fun hnc ho hr => ?_, fun hoff => ?_⟩
  · have hv : answerNoSource v = startCarrying v := by
      rw [answerNoSource_on hs (by rwa [hsys]), if_pos (by rwa [hres])]
    have h1 := carryingStarted v (hcarry.trans hnc)
    have h2 := h1.keep (works_retest _) (sameCell_retest _)
    have h3 : CarryingStarted v (answerLoss v) := by
      rw [answerLoss, hv]
      exact h2.keep (works_settle _) (sameCell_settle (.inl h2.carrying))
    exact ⟨h3.carrying, h3.carrying, h3.drain, refillTimer_of_carrying h3.carrying, h3.bridging, fun hl => h3.low (by rwa [hres])⟩
  · have hv : .forcedOff ∈ (answerNoSource v).handed := by
      rcases hoff with ⟨ho, hr⟩ | ho
      · rw [answerNoSource_on hs (by rwa [hsys]), if_neg (by rw [hres, hr]; decide)]
        simp
      · rw [answerNoSource_stopping hs (by rwa [hsys])]
        simp
    exact hworks.grows.mem hv

/-! ### The last act of an event -/

@[simp] theorem supplyFollows_finish (s : State) : SupplyFollows (finish s) ↔ SupplyFollows s :=
  ⟨fun h => ⟨h.bridge, h.sum, h.ceiling⟩, fun h => ⟨h.bridge, h.sum, h.ceiling⟩⟩

@[simp] theorem onItsWay_finish (b : Bay) (cause : Cause) (s : State) : OnItsWay b cause (finish s) ↔ OnItsWay b cause s := by
  unfold OnItsWay
  rw [finish_bay]
  exact Iff.rfl

@[simp] theorem heldBlocked_finish (b : Bay) (s : State) : HeldBlocked b (finish s) ↔ HeldBlocked b s := by
  unfold HeldBlocked
  rw [finish_bay]
  exact Iff.rfl

@[simp] theorem bridgeBlocks_finish (b : Bay) (s : State) : BridgeBlocks b (finish s) ↔ BridgeBlocks b s := by
  unfold BridgeBlocks
  rw [finish_bay]
  exact Iff.rfl

@[simp] theorem withdrawalStarted_finish (b : Bay) (cause : Cause) (u s : State) :
    WithdrawalStarted b cause u (finish s) ↔ WithdrawalStarted b cause u s := by
  unfold WithdrawalStarted
  rw [onItsWay_finish, heldBlocked_finish]
  exact Iff.rfl

@[simp] theorem withdrawalStarted_of_finish (b : Bay) (cause : Cause) (u s : State) :
    WithdrawalStarted b cause (finish u) s ↔ WithdrawalStarted b cause u s := by
  unfold WithdrawalStarted
  rw [bridgeBlocks_finish]

@[simp] theorem withdrawalTested_finish (again : Bool) (u s : State) : WithdrawalTested again u (finish s) ↔ WithdrawalTested again u s := by
  unfold WithdrawalTested
  simp only [onItsWay_finish, heldBlocked_finish, pending_finish]

theorem turnTaken_finish {b : Bay} {r : BayRec} {x : Option WaitReason} {s : State} (h : TurnTaken b r x s) : TurnTaken b r x (finish s) := by
  unfold TurnTaken at h ⊢
  cases hc : turnCause r x with
  | some cause =>
    rw [hc] at h
    exact (withdrawalStarted_finish b cause _ s).mpr ((withdrawalStarted_of_finish b cause s s).mpr h)
  | none =>
    rw [hc] at h
    obtain ⟨hb, hw, hs⟩ := h
    exact ⟨by rw [finish_bay, hb], hw, hs⟩

theorem supplyFollows_settle (s : State) : SupplyFollows (finish (settle s)) :=
  (supplyFollows_finish _).mpr (supplyFollows_of_fresh (fresh_settle s))

/-- R112: an operation that leaves the power is judged by the power before it. -/
theorem Works.judged {s t : State} (h : Works s t) : PowerJudged s.power (finish t) := h.power ▸ powerJudged_finish t

end Sys2Proof.Machine
end

section
/-!
PROOFS. The lever deferral: what a lever level does once it is taken, and the deferral's hold and release: O36.
-/
namespace Sys2Proof.Machine

/-! ### A lever level taken -/

theorem moved_ejectToLever (r : BayRec) : Moved r (if r.cause = some .eject then { r with cause := some .lever, ejectWindow := none } else r) := by
  split
  · exact ⟨rfl, .inl rfl, fun h => (countedFollows_iff _).mpr ((countedFollows_iff r).mp h)⟩
  · exact .refl r

theorem works_ejectToLever (b : Bay) (s : State) : Works s (ejectToLever b s) := .modifyBay (moved_ejectToLever _)

theorem works_qualifiedOnline (b : Bay) (s : State) : Works s (qualifiedOnline b s) :=
  (Works.raise (a := .bay b .qualified) rfl s).trans (works_bringOnline b _)

theorem works_lockWaiting (b : Bay) (s : State) : Works s (lockWaiting b s) :=
  .ite (.ite (.supply {} (.inl rfl)) (works_stopWaiting b s)) (.refl s)

theorem works_leverOpened (b : Bay) (s : State) : Works s (leverOpened b s) := by
  unfold leverOpened
  cases (s.bay b).state with
  | online => exact (works_requestWithdrawal b .lever s).trans (works_settle _)
  | withdrawing => exact works_ejectToLever b s
  | released => exact works_ejectToLever b s
  | empty => exact .refl s
  | probing => exact .refl s
  | qualified => exact .refl s
  | faulted => exact .refl s

theorem works_leverLocked (b : Bay) (s : State) : Works s (leverLocked b s) := by
  unfold leverLocked
  cases (s.bay b).state with
  | qualified => exact .ite (works_qualifiedOnline b s) (.refl s)
  | online => exact works_lockWaiting b s
  | withdrawing => exact .ite (works_cancelWithdrawal b s) (.refl s)
  | released => exact .ite (works_relock b s) (.refl s)
  | empty => exact .refl s
  | probing => exact .refl s
  | faulted => exact .refl s

/-- R65: the level is written into the record before the bay reacts. -/
def leverSet (b : Bay) (level : Lever) (s : State) : State := s.modifyBay b fun r => { r with leverTaken := level }

theorem takeLever_eq (b : Bay) (level : Lever) (s : State) :
    takeLever b level s = match level with
      | .opened => leverOpened b (leverSet b level s)
      | .locked => leverLocked b (leverSet b level s) := by cases level <;> rfl

theorem works_takeLever (b : Bay) (level : Lever) (s : State) : Works (leverSet b level s) (takeLever b level s) := by
  cases level with
  | opened => exact works_leverOpened b _
  | locked => exact works_leverLocked b _

theorem leverSet_bay (b : Bay) (level : Lever) (s : State) : (leverSet b level s).bay b = { s.bay b with leverTaken := level } :=
  State.modifyBay_bay b _ s

theorem leverSet_other (b : Bay) (level : Lever) (s : State) : (leverSet b level s).bay (otherBay b) = s.bay (otherBay b) :=
  State.modifyBay_otherBay b _ s

theorem takeLever_levers (b : Bay) (level : Lever) (s : State) :
    ((takeLever b level s).bay b).leverTaken = level ∧ ((takeLever b level s).bay b).leverInput = (s.bay b).leverInput ∧
      ((takeLever b level s).bay b).deferred = (s.bay b).deferred := by
  have h := (works_takeLever b level s).moved b
  rw [leverSet_bay] at h
  exact ⟨h.leverTaken, h.leverInput, h.deferred⟩

theorem takeLever_other_levers (b : Bay) (level : Lever) (s : State) :
    ((takeLever b level s).bay (otherBay b)).leverTaken = (s.bay (otherBay b)).leverTaken ∧
      ((takeLever b level s).bay (otherBay b)).deferred = (s.bay (otherBay b)).deferred := by
  have h := (works_takeLever b level s).moved (otherBay b)
  rw [leverSet_other] at h
  exact ⟨h.leverTaken, h.deferred⟩

/-! ### The deferral -/

theorem changeLever_same (b : Bay) (s : State) : changeLever b (s.bay b).leverInput s = s := if_pos rfl

theorem modifyBay_modifyBay (b : Bay) (f g : BayRec → BayRec) (s : State) :
    (s.modifyBay b f).modifyBay b g = s.modifyBay b fun r => g (f r) := by cases b <;> rfl

theorem changeLever_deferred {b : Bay} {level : Lever} {s : State} (hd : s.supply.deferral = true) (hl : (s.bay b).leverInput ≠ level) :
    changeLever b level s = s.setBay b { s.bay b with leverInput := level, deferred := some level } := by
  have hdef : (s.modifyBay b fun r => { r with leverInput := level }).supply.deferral = true := by rw [State.modifyBay_supply, hd]
  unfold changeLever
  dsimp only
  rw [if_neg hl, if_pos hdef, modifyBay_modifyBay]
  rfl

theorem changeLever_taken {b : Bay} {level : Lever} {s : State} (hd : s.supply.deferral = false) (hl : (s.bay b).leverInput ≠ level) :
    changeLever b level s = takeLever b level (s.modifyBay b fun r => { r with leverInput := level }) := by
  have hdef : ¬(s.modifyBay b fun r => { r with leverInput := level }).supply.deferral = true := by rw [State.modifyBay_supply, hd]; decide
  unfold changeLever
  dsimp only
  rw [if_neg hl, if_neg hdef]

/-- R66: the bay holds no deferred level any more. -/
def clearDeferred (b : Bay) (s : State) : State := s.setBay b { s.bay b with deferred := none }

theorem setBay_self (b : Bay) (s : State) : s.setBay b (s.bay b) = s := by cases b <;> rfl

/-- R66: the bay owes no lever event. -/
def HoldsNothing (b : Bay) (s : State) : Prop := (s.bay b).deferred = none ∨ (s.bay b).deferred = some (s.bay b).leverTaken

theorem clearDeferred_of_none {b : Bay} {s : State} (h : (s.bay b).deferred = none) : clearDeferred b s = s := by
  have : ({ s.bay b with deferred := none } : BayRec) = s.bay b := by rw [← h]
  rw [clearDeferred, this, setBay_self]

theorem takeDeferred_of_nothing {b : Bay} {s : State} (h : HoldsNothing b s) : takeDeferred b s = clearDeferred b s := by
  rcases h with h | h
  · rw [clearDeferred_of_none h]
    unfold takeDeferred
    rw [h]
  · unfold takeDeferred
    rw [h]
    exact if_pos rfl

theorem takeDeferred_of_owed {b : Bay} {lv : Lever} {s : State} (h : (s.bay b).deferred = some lv) (hl : lv ≠ (s.bay b).leverTaken) :
    takeDeferred b s = takeLever b lv (clearDeferred b s) := by
  unfold takeDeferred
  rw [h]
  exact if_neg hl

theorem owesLever_of_nothing {b : Bay} {s : State} (h : HoldsNothing b s) : owesLever b s = false := by
  unfold owesLever
  rcases h with h | h <;> simp [h]

theorem owesLever_of_owed {b : Bay} {lv : Lever} {s : State} (h : (s.bay b).deferred = some lv) (hl : lv ≠ (s.bay b).leverTaken) :
    owesLever b s = true := by
  unfold owesLever
  simp [h, hl]

theorem clearDeferred_bay (b : Bay) (s : State) : (clearDeferred b s).bay b = { s.bay b with deferred := none } := State.setBay_bay b _ s

theorem clearDeferred_other (b : Bay) (s : State) : (clearDeferred b s).bay (otherBay b) = s.bay (otherBay b) := State.setBay_otherBay b _ s

/-- R66: a bay that has taken its lever event leaves the deferred level of the other as it was. -/
theorem held_after_lever {b : Bay} {lv : Lever} {s : State} :
    ((takeLever b lv (clearDeferred b s)).bay (otherBay b)).leverTaken = (s.bay (otherBay b)).leverTaken ∧
      ((takeLever b lv (clearDeferred b s)).bay (otherBay b)).deferred = (s.bay (otherBay b)).deferred := by
  obtain ⟨hl, hd⟩ := takeLever_other_levers b lv (clearDeferred b s)
  rw [clearDeferred_other] at hl hd
  exact ⟨hl, hd⟩

theorem taken_after_lever {b : Bay} {lv : Lever} {s : State} :
    ((takeLever b lv (clearDeferred b s)).bay b).deferred = none ∧ ((takeLever b lv (clearDeferred b s)).bay b).leverTaken = lv := by
  obtain ⟨hl, -, hd⟩ := takeLever_levers b lv (clearDeferred b s)
  rw [clearDeferred_bay] at hd
  exact ⟨hd, hl⟩

/-- R66: the deferral is over, nothing taken yet. -/
def undeferred (s : State) : State := { s with supply := { s.supply with deferral := false } }

theorem undeferred_bay (s : State) (b : Bay) : (undeferred s).bay b = s.bay b := by cases b <;> rfl

theorem releaseDeferral_eq (s : State) : releaseDeferral s =
    if owesLever .bayA (undeferred s) && owesLever .bayB (undeferred s) then
      (if Config.releaseTakesAFirst s.freeCount then
        takeDeferred .bayB (takeDeferred .bayA { undeferred s with freeCount := s.freeCount + 1 })
      else takeDeferred .bayA (takeDeferred .bayB { undeferred s with freeCount := s.freeCount + 1 }))
    else takeDeferred .bayB (takeDeferred .bayA (undeferred s)) := rfl

/-- R66: with at most one lever event owed, Bay A is seen to first. -/
theorem releaseDeferral_of_one {s : State} (h : (owesLever .bayA (undeferred s) && owesLever .bayB (undeferred s)) = false) :
    releaseDeferral s = takeDeferred .bayB (takeDeferred .bayA (undeferred s)) := by
  rw [releaseDeferral_eq, if_neg (Bool.eq_false_iff.mp h)]

/-- R66, R170: with two owed the order is open. -/
theorem releaseDeferral_of_both {s : State} (h : (owesLever .bayA (undeferred s) && owesLever .bayB (undeferred s)) = true) :
    releaseDeferral s = takeDeferred .bayB (takeDeferred .bayA { undeferred s with freeCount := s.freeCount + 1 }) ∨
    releaseDeferral s = takeDeferred .bayA (takeDeferred .bayB { undeferred s with freeCount := s.freeCount + 1 }) := by
  rw [releaseDeferral_eq, if_pos h]
  split
  · exact .inl rfl
  · exact .inr rfl

theorem counted_bay (n : Nat) (s : State) (b : Bay) : ({ s with freeCount := n } : State).bay b = s.bay b := by cases b <;> rfl

/-- Both bays owe a lever event: whichever is first, the other's is still owed. -/
theorem takeDeferred_both {b : Bay} {lv lo : Lever} {s : State} (h : (s.bay b).deferred = some lv) (hl : lv ≠ (s.bay b).leverTaken)
    (ho : (s.bay (otherBay b)).deferred = some lo) (hlo : lo ≠ (s.bay (otherBay b)).leverTaken) :
    takeDeferred (otherBay b) (takeDeferred b s) = takeLever (otherBay b) lo (clearDeferred (otherBay b) (takeLever b lv (clearDeferred b s))) := by
  obtain ⟨htaken, hdef⟩ := held_after_lever (b := b) (lv := lv) (s := s)
  rw [takeDeferred_of_owed h hl]
  exact takeDeferred_of_owed (hdef.trans ho) (by rw [htaken]; exact hlo)

/-- Settles O36: a deferred level, and the release by what each bay holds. -/
theorem deferralHoldsLeverEvents : Obligations.DeferralHoldsLeverEvents := by
  intro s ha
  refine ⟨fun hf => exec_claim_eq ha hf rfl rfl, fun b lv hd hl => exec_own_eq ha rfl (changeLever_deferred hd hl), fun hf => ?_⟩
  intro m u clear owes idle
  have hu : ∀ b, (undeferred m).bay b = s.bay b := fun b => (undeferred_bay m b).trans (State.take_bay _ s b)
  have hidle : ∀ b, idle b → HoldsNothing b (undeferred m) := fun b h => by rw [HoldsNothing, hu]; exact h
  have hexec : ∀ v, releaseDeferral m = v → exec .releaseClaim s = .next (finish v) := fun v hv => exec_claim_eq ha hf rfl hv
  refine ⟨fun hA hB => hexec _ ?_, fun lv hA hB => ?_, fun lv hB hA => ?_, fun la lb hA hB => ?_⟩
  · have hB' : HoldsNothing .bayB (clearDeferred .bayA (undeferred m)) := hidle _ hB
    rw [releaseDeferral_of_one (by rw [owesLever_of_nothing (hidle _ hA)]; rfl), takeDeferred_of_nothing (hidle _ hA),
      takeDeferred_of_nothing hB']
    rfl
  · obtain ⟨htaken, hdef⟩ := held_after_lever (b := .bayA) (lv := lv) (s := undeferred m)
    have hB' : HoldsNothing .bayB (takeLever .bayA lv (clearDeferred .bayA (undeferred m))) := by
      have := hidle _ hB
      unfold HoldsNothing at this ⊢
      rwa [show (takeLever .bayA lv (clearDeferred .bayA (undeferred m))).bay .bayB =
        (takeLever .bayA lv (clearDeferred .bayA (undeferred m))).bay (otherBay .bayA) from rfl, htaken, hdef]
    obtain ⟨hd, hl⟩ := taken_after_lever (b := .bayA) (lv := lv) (s := undeferred m)
    have hv : releaseDeferral m = clearDeferred .bayB (takeLever .bayA lv (clearDeferred .bayA (undeferred m))) := by
      rw [releaseDeferral_of_one (by rw [owesLever_of_nothing (hidle _ hB), Bool.and_false]),
        takeDeferred_of_owed (s := undeferred m) (b := .bayA) hA.1 hA.2, takeDeferred_of_nothing hB']
    exact ⟨_, hexec _ hv, hd, hl, rfl⟩
  · have hB' : ((clearDeferred .bayA (undeferred m)).bay .bayB) = s.bay .bayB := (clearDeferred_other .bayA _).trans (hu .bayB)
    have hv : releaseDeferral m = takeLever .bayB lv (clearDeferred .bayB (clearDeferred .bayA (undeferred m))) := by
      rw [releaseDeferral_of_one (by rw [owesLever_of_nothing (hidle _ hA)]; rfl), takeDeferred_of_nothing (hidle _ hA)]
      exact takeDeferred_of_owed (by rw [hB']; exact hB.1) (by rw [hB']; exact hB.2)
    obtain ⟨hd, hl⟩ := taken_after_lever (b := .bayB) (lv := lv) (s := clearDeferred .bayA (undeferred m))
    exact ⟨_, hexec _ hv, hd, hl, rfl⟩
  · intro v
    have howes : (owesLever .bayA (undeferred m) && owesLever .bayB (undeferred m)) = true := by
      rw [owesLever_of_owed (s := undeferred m) (b := .bayA) hA.1 hA.2, owesLever_of_owed (s := undeferred m) (b := .bayB) hB.1 hB.2]
      rfl
    refine (releaseDeferral_of_both howes).imp (fun hv => hexec _ ?_) (fun hv => hexec _ ?_)
    · rw [hv]
      exact takeDeferred_both (b := .bayA) (s := v) hA.1 hA.2 hB.1 hB.2
    · rw [hv]
      exact takeDeferred_both (b := .bayB) (s := v) hB.1 hB.2 hA.1 hA.2

end Sys2Proof.Machine
end

section
/-!
PROOFS. The settings, the notices and the inlet at the Supply Controller: O33, O34.
-/
namespace Sys2Proof.Machine

/-! ### What the law says of the withdrawal under way -/

theorem WithdrawalLaw.part {s : State} (h : WithdrawalLaw s) (b : Bay) : BayPart b s :=
  ⟨by cases b with | bayA => exact h.bayA | bayB => exact h.bayB, h.slot b, h.opened b, h.waiting b⟩

theorem WithdrawalLaw.holder_not_waiting {s : State} (h : WithdrawalLaw s) {b : Bay} (hs : s.supply.slot = some b) : s.supply.waiting ≠ some b :=
  fun hw => otherBay_ne b (Option.some.inj ((h.waiting b hw).1.symm.trans hs))

theorem WithdrawalLaw.under {s : State} (h : WithdrawalLaw s) {b : Bay} {cause : Cause} (hs : s.supply.slot = some b)
    (hc : (s.bay b).cause = some cause) (hp : s.supply.phase ≠ some .opened) : Under b cause s := by
  refine ⟨?_, hc, hs, ?_, h.holder_not_waiting hs⟩
  · rcases (leaving_iff _).mp ((h.slot b).mpr hs) with hw | hr
    · exact hw
    · exact absurd ((h.opened b hs).mpr hr) hp
  · have hsome := h.phase
    rw [hs] at hsome
    cases hx : s.supply.phase with
    | none => rw [hx] at hsome; cases hsome
    | some x =>
      cases x with
      | blocked => exact .inl rfl
      | clearing => exact .inr rfl
      | opened => exact absurd hx hp

theorem WithdrawalLaw.cause_of_slot {s : State} (h : WithdrawalLaw s) {b : Bay} (hs : s.supply.slot = some b) :
    ∃ cause, (s.bay b).cause = some cause := by
  have hc := (h.part b).bay.cause
  rw [(h.slot b).mpr hs] at hc
  exact Option.isSome_iff_exists.mp hc

theorem OnItsWay.not_blocked {b : Bay} {cause : Cause} {t : State} (h : OnItsWay b cause t) (hb : ¬HeldBlocked b t)
    (hs : t.supply.slot = some b) : t.supply.phase ≠ some .blocked := by
  obtain ⟨-, ⟨hst, -, -, -⟩ | ⟨-, -, -, -, -, hp, -⟩ | ⟨-, -, hn, -⟩⟩ := h
  · exact fun hp => hb ⟨hst, hs, hp⟩
  · simp [hp]
  · exact absurd hs hn

/-- An event that keeps the bays, the slot and what the bridge test reads, and then tests the withdrawal. -/
theorem withdrawalTested_of_law {again : Bool} {s u v : State} (hl : WithdrawalLaw s) (hsl : SameSlots s.supply v.supply)
    (hb : ∀ b, v.bay b = s.bay b) (hub : ∀ b, (u.bay b).cause = (s.bay b).cause) (hus : u.supply.slot = s.supply.slot)
    (hup : u.supply.phase = s.supply.phase) (ht : ∀ b, SameTest b u v) :
    WithdrawalTested again u (settle (if again then retest v else unblock v)) := by
  refine withdrawalTested_settle fun b cause hs hc hp _ => ?_
  rw [hus] at hs
  rw [hub] at hc
  rw [hup] at hp
  exact ⟨(hl.under hs hc hp).congr (hb b) hsl, hsl.phase.trans hup.symm, (ht b).bridgeBlocks.symm⟩

/-! ### Settings and notices -/

/-- R99, R100: the reload and a changed setting, the test that goes with it taken off the queue. -/
def settingTaken (s : State) : State := { s with bridgeTests := s.bridgeTests.tail }

theorem changeSupplySettings_eq (s : State) :
    changeSupplySettings s = settle (if s.bridgeTests.headD true then retest (settingTaken s) else settingTaken s) := rfl

theorem settingTaken_bay (s : State) (b : Bay) : (settingTaken s).bay b = s.bay b := by cases b <;> rfl

theorem bridgeTests_changeSupplySettings (s : State) : (changeSupplySettings s).bridgeTests = s.bridgeTests.tail := by
  rw [changeSupplySettings_eq]
  split
  · exact ((works_retest (settingTaken s)).trans (works_settle _)).tests
  · exact (works_settle (settingTaken s)).tests

theorem changeSupplySettings_untested {s : State} (h : s.bridgeTests.head? = some false) :
    changeSupplySettings s = settle (settingTaken s) := by
  rw [changeSupplySettings_eq, List.headD_eq_head?_getD, h]
  rfl

theorem changeSupplySettings_tested {s : State} (h : s.bridgeTests.head? ≠ some false) :
    changeSupplySettings s = settle (retest (settingTaken s)) := by
  rw [changeSupplySettings_eq, List.headD_eq_head?_getD, if_pos]
  cases hx : s.bridgeTests.head? with
  | none => rfl
  | some x =>
    cases x with
    | true => rfl
    | false => exact absurd hx h

/-- R111: the first act on a notice: what it makes of the bridge. -/
def noticeBridge (st : SystemState) (s : State) : State :=
  match st with
  | .starting => if systemOn s && !someSource s then startCarrying s else s
  | .run => s
  | .stopping => if s.supply.carrying then exhaustBridge s else s
  | .dark => endBridging s

theorem supplyNotice_eq (st : SystemState) (s : State) : supplyNotice st s =
    settle (if st == .starting || st == .stopping then retest (noticeBridge st s) else unblock (noticeBridge st s)) := by
  cases st <;> rfl

theorem works_exhaustBridge (s : State) : Works s (exhaustBridge s) := (works_stopCarrying s).trans (.hand (.of_route rfl) _)

theorem exhaustBridge_bay (s : State) (b : Bay) : (exhaustBridge s).bay b = s.bay b := by cases b <;> rfl

theorem works_noticeBridge (st : SystemState) (s : State) : Works s (noticeBridge st s) := by
  cases st with
  | starting => exact .ite (works_startCarrying s) (.refl s)
  | run => exact .refl s
  | stopping => exact .ite (works_exhaustBridge s) (.refl s)
  | dark => exact works_endBridging s

theorem noticeBridge_bay (st : SystemState) (s : State) (b : Bay) : (noticeBridge st s).bay b = s.bay b := by
  cases st with
  | starting => exact ite_cases (p := fun t : State => t.bay b = s.bay b) (fun _ => startCarrying_bay s b) rfl
  | run => rfl
  | stopping => exact ite_cases (p := fun t : State => t.bay b = s.bay b) (fun _ => exhaustBridge_bay s b) rfl
  | dark => exact endBridging_bay s b

theorem sameSlots_noticeBridge (st : SystemState) (s : State) : SameSlots s.supply (noticeBridge st s).supply := by
  cases st with
  | starting => exact ite_cases (p := fun t : State => SameSlots s.supply t.supply) (fun _ => sameSlots_startCarrying s) {}
  | run => exact {}
  | stopping => exact ite_cases (p := fun t : State => SameSlots s.supply t.supply) (fun _ => {}) {}
  | dark => exact sameSlots_endBridging s

/-- R99, R100, R111: each notice tests the withdrawal under way. -/
theorem withdrawalTested_notice {s : State} (hl : WithdrawalLaw s) (st : SystemState) (c : Instr) :
    WithdrawalTested (st == .starting || st == .stopping) s (supplyNotice st (s.take c)) := by
  rw [supplyNotice_eq]
  have hslots := sameSlots_noticeBridge st (s.take c)
  have hbay : ∀ b, (noticeBridge st (s.take c)).bay b = s.bay b := fun b => (noticeBridge_bay st _ b).trans (State.take_bay c s b)
  have hw := works_noticeBridge st (s.take c)
  exact withdrawalTested_of_law hl ⟨hslots.slot, hslots.phase, hslots.waiting, hslots.reason⟩ hbay (fun _ => rfl) rfl rfl
    fun b => ⟨by rw [hbay], hw.inputs.inlet, hw.inputs.reserve, hw.system, hw.store⟩

theorem supplyFollows_notice (st : SystemState) (s : State) : SupplyFollows (finish (supplyNotice st s)) := by
  rw [supplyNotice_eq]
  exact supplyFollows_settle _

theorem setInlet_accepted {c : Nat} {s : State} (hc : c ≤ 1200) (hi : s.supply.inletPresent = true) :
    setInletRequest c s = (settle { s with supply := { s.supply with inletSet := some c } }, okReply []) := by
  rw [setInletRequest, require_of_true (decide_eq_true hc), require_of_true hi]

/-- R99, R100: a setting that tests nothing leaves a BLOCKED withdrawal BLOCKED, and blocks none in phase CLEARING. -/
theorem phase_untested {s v : State} {b : Bay} (hl : WithdrawalLaw s) (hs : s.supply.slot = some b) (hbay : ∀ b, v.bay b = s.bay b)
    (hslots : SameSlots s.supply v.supply) :
    (s.supply.phase = some .blocked → (settle v).supply.slot = some b ∧ (settle v).supply.phase = some .blocked) ∧
    (s.supply.phase = some .clearing → (settle v).supply.slot = some b → (settle v).supply.phase ≠ some .blocked) := by
  refine ⟨fun hp => ?_, fun hp ht => ?_⟩
  · have hkeep := sameSlots_settle (s := v) (by rw [hslots.phase, hp]; decide)
    exact ⟨hkeep.slot.trans (hslots.slot.trans hs), hkeep.phase.trans (hslots.phase.trans hp)⟩
  · obtain ⟨cause, hc⟩ := hl.cause_of_slot hs
    have hv := (hl.under hs hc (by simp [hp])).congr (hbay b) hslots
    refine (onItsWay_settle hv).not_blocked (fun hb => ?_) ht
    have := ((heldBlocked_settle hv.waiting).mp hb).2.2
    rw [hslots.phase, hp] at this
    cases this

/-- R99, R100: the phase behind a test in both phases. -/
theorem WithdrawalTested.phase {s t : State} {b : Bay} (h : WithdrawalTested true s t) (hl : WithdrawalLaw s) (hs : s.supply.slot = some b)
    (hp : s.supply.phase ≠ some .opened) :
    (BridgeBlocks b s → t.supply.slot = some b ∧ t.supply.phase = some .blocked ∧
      (s.supply.phase = some .clearing → Pending (.supply .withdrawBlocked) t)) ∧
    (¬BridgeBlocks b s → t.supply.slot = some b → t.supply.phase ≠ some .blocked) := by
  obtain ⟨cause, hc⟩ := hl.cause_of_slot hs
  obtain ⟨hblocked, hclearing⟩ := h b cause hs hc
  rcases (hl.under hs hc hp).phase with hx | hx
  · obtain ⟨hstays, hgoes⟩ := hblocked hx
    refine ⟨fun hb => ⟨(hstays hb).2.1, (hstays hb).2.2, fun hy => ?_⟩, fun hb => ?_⟩
    · rw [hx] at hy; cases hy
    · exact (hgoes hb).1.not_blocked (hgoes hb).2
  · obtain ⟨hreturns, hgoes⟩ := hclearing hx
    exact ⟨fun hb => ⟨(hreturns rfl hb).1.2.1, (hreturns rfl hb).1.2.2, fun _ => (hreturns rfl hb).2⟩,
      fun hb => (hgoes (.inr hb)).1.not_blocked (hgoes (.inr hb)).2⟩

/-- The state in which the inlet has the capability that the host has set (R96). -/
def inletGiven (c : Nat) (s : State) : State := { s with supply := { s.supply with inletSet := some c } }

theorem supplyFollows_answered (r : Reply) (s : State) : SupplyFollows (answered r (settle s)) := by
  have h := supplyFollows_settle s
  exact ⟨h.bridge, h.sum, h.ceiling⟩

theorem foremost_settings {s : State} (ha : Alive s) : ∃ t, exec .supplyProfileChange s = .next t ∧ SupplyFollows t ∧
    t.bridgeTests = s.bridgeTests.tail ∧ t = finish (changeSupplySettings (s.take .supplyProfileChange)) := by
  refine ⟨_, exec_claim_eq ha (foremost_supplyProfileChange s) rfl rfl, ?_, bridgeTests_changeSupplySettings _, rfl⟩
  show SupplyFollows (finish (changeSupplySettings (s.take .supplyProfileChange)))
  rw [changeSupplySettings_eq]
  exact supplyFollows_settle _

/-- Settles O33: each of the events ends by working the supply out again; the test of the withdrawal stands before it where the event has one. -/
theorem planningCeilingFollowsTheSources : Obligations.PlanningCeilingFollowsTheSources := by
  intro s ha
  refine ⟨?settings, fun st hf => ?notice, fun c hc => ?badArgument, fun c hc hi => ?wrongState, fun c hc hi => ?accepted⟩
  case settings =>
    obtain ⟨t, ht, hfollows, htests, hexplicit⟩ := foremost_settings ha
    refine ⟨t, ht, hfollows, htests, fun hl b hs => ?_⟩
    have hbay : ∀ b, (settingTaken (s.take .supplyProfileChange)).bay b = s.bay b := fun b =>
      (settingTaken_bay _ b).trans (State.take_bay _ s b)
    have hslots : SameSlots s.supply (settingTaken (s.take .supplyProfileChange)).supply := {}
    rw [hexplicit]
    refine ⟨fun hh => ?_, fun hh hp => ?_⟩
    · rw [changeSupplySettings_untested (s := s.take .supplyProfileChange) hh]
      exact phase_untested hl hs hbay hslots
    · rw [changeSupplySettings_tested (s := s.take .supplyProfileChange) hh]
      exact (withdrawalTested_of_law (again := true) (u := s) hl hslots hbay (fun _ => rfl) rfl rfl
        fun b => ⟨by rw [hbay], rfl, rfl, rfl, rfl⟩).phase hl hs hp
  case notice =>
    exact ⟨_, exec_claim_eq ha hf rfl rfl, supplyFollows_notice st _,
      fun hl => (withdrawalTested_finish _ _ _).mpr (withdrawalTested_notice hl st _)⟩
  case badArgument => exact exec_plain_refused ha rfl (require_of_false (by simpa using hc))
  case wrongState =>
    exact exec_plain_refused ha rfl ((require_of_true (decide_eq_true hc)).trans (require_of_false hi))
  case accepted =>
    refine ⟨_, exec_plain_eq ha rfl (setInlet_accepted hc hi), rfl, ?_, supplyFollows_answered _ _⟩
    exact (works_settle (inletGiven c s)).inputs.inletSet

end Sys2Proof.Machine
end

section
/-!
PROOFS. The inlet at the Supply Controller: O34.
-/
namespace Sys2Proof.Machine

/-! ### With the inlet present no withdrawal is blocked -/

theorem not_bridgeBlocks_of_inlet {s : State} (h : s.supply.inletPresent = true) (b : Bay) : ¬BridgeBlocks b s := fun hb => by
  rw [hb.2.1] at h
  cases h

/-- R99: with the inlet present no phase is BLOCKED. -/
structure NoneBlocked (s : State) : Prop where
  inlet : s.supply.inletPresent = true
  phase : s.supply.phase ≠ some .blocked

theorem NoneBlocked.freeSlot {s : State} (h : s.supply.inletPresent = true) : NoneBlocked (freeSlot s) := by
  have hw := works_freeSlot s
  refine ⟨hw.inputs.inlet.trans h, fun hp => ?_⟩
  cases hwait : s.supply.waiting with
  | none =>
    rw [freeSlot_of_none hwait] at hp
    cases hp
  | some o =>
    have ht := turnStarted_freeSlot hwait
    unfold TurnStarted at ht
    split at ht
    · exact not_bridgeBlocks_of_inlet (hw.inputs.inlet.trans h) o (ht.1.blocked.mp hp)
    · rw [ht.2.2.2] at hp
      cases hp

theorem NoneBlocked.recompute {s : State} (h : NoneBlocked s) : NoneBlocked (recompute s) :=
  ⟨(works_recompute s).inputs.inlet.trans h.inlet, by rw [(sameSlots_recompute s).phase]; exact h.phase⟩

theorem NoneBlocked.pathTest {s : State} (h : NoneBlocked s) : NoneBlocked (pathTest s) := by
  rcases pathTest_cases s with he | ⟨b, -, -, -, he⟩ <;> rw [he]
  · exact h
  · refine NoneBlocked.recompute ?_
    by_cases hc : (s.bay b).cause = some .disconnect
    · rw [openPath_faulted hc]
      exact .freeSlot (((works_bridgedOver b s).trans (works_becomeFaulted b _)).inputs.inlet.trans h.inlet)
    · rw [openPath_released hc]
      refine ⟨((works_bridgedOver b s).trans (works_releaseBay b _)).inputs.inlet.trans h.inlet, ?_⟩
      rw [releaseBay_supply]
      simp

theorem NoneBlocked.settle {s : State} (h : NoneBlocked s) : NoneBlocked (settle s) :=
  have h2 := h.recompute.pathTest.pathTest
  ⟨h2.inlet, h2.phase⟩

theorem noneBlocked_unblock {s : State} (h : s.supply.inletPresent = true) (hs : s.supply.phase.isSome = s.supply.slot.isSome) :
    NoneBlocked (unblock s) := by
  refine ⟨(works_unblock s).inputs.inlet.trans h, fun hp => ?_⟩
  cases hslot : s.supply.slot with
  | none =>
    rw [unblock_of_free hslot] at hp
    rw [hslot, hp] at hs
    cases hs
  | some b =>
    by_cases hb : s.supply.phase = some .blocked
    · exact not_bridgeBlocks_of_inlet h b ((unblock_phase_of_blocked hslot hb).mp hp)
    · rw [unblock_of_not_blocked hb] at hp
      exact hb hp

/-! ### The bridge and the refill timer where a source has come -/

theorem sameSlots_endBridging_refill (s : State) : (endBridging s).supply.refillTimer = s.supply.refillTimer := by
  unfold endBridging
  split <;> rfl

/-- R108: once bridging has ended and a source is there, the end of the event does not start it again. -/
theorem carrying_returned {s : State} (h : Inert (unblock (endBridging s))) : (settle (unblock (endBridging s))).supply.carrying = false :=
  (sameCell_settle h).carrying.trans ((sameButPhase_unblock _).carrying.trans (endBridging_carrying s))

theorem works_returned (s : State) : Works s (settle (unblock (endBridging s))) :=
  ((works_endBridging s).trans (works_unblock _)).trans (works_settle _)

/-- R110: the refill timer starts where a source has come. -/
theorem refill_returned {s : State} (h : s.supply.refillTimer = none) (hr : s.supply.reserve < 60) (hi : Inert (unblock (endBridging s)))
    (hs : someSource (settle (unblock (endBridging s))) = true) :
    (settle (unblock (endBridging s))).supply.refillTimer = some (sec 5) := by
  rw [refillTimer_settle h ((works_endBridging s).trans (works_unblock _)).refill, if_pos]
  refine ⟨?_, by rw [(works_returned s).inputs.reserve]; exact hr⟩
  rw [refillCondition, carrying_returned hi, hs]
  rfl

/-! ### The inlet -/

/-- R95: the inlet has come, nothing following yet. -/
def inletCome (s : State) : State := { s with supply := { s.supply with inletPresent := true } }

/-- R95: the inlet has gone, nothing following yet. -/
def inletGone (s : State) : State := { s with supply := { s.supply with inletPresent := false, inletSet := none } }

theorem changeInlet_same (s : State) : changeInlet s.supply.inletPresent s = s := if_pos rfl

theorem changeInlet_comes {s : State} (h : s.supply.inletPresent = false) :
    changeInlet true s = settle (unblock (endBridging (inletCome s))) := by
  unfold changeInlet
  rw [if_neg (by simp [h]), if_pos rfl]
  rfl

theorem changeInlet_leaves {s : State} (h : s.supply.inletPresent = true) : changeInlet false s = answerLoss (inletGone s) := by
  unfold changeInlet
  rw [if_neg (by simp [h]), if_neg (by decide)]
  rfl

theorem inletCome_bay (s : State) (b : Bay) : (inletCome s).bay b = s.bay b := by cases b <;> rfl

theorem inletGone_bay (s : State) (b : Bay) : (inletGone s).bay b = s.bay b := by cases b <;> rfl

theorem sameSlots_inletCome (s : State) : SameSlots s.supply (inletCome s).supply := {}

theorem sameSlots_inletGone (s : State) : SameSlots s.supply (inletGone s).supply := {}

theorem SameSlots.trans {r r' r'' : SupplyRec} (h : SameSlots r r') (k : SameSlots r' r'') : SameSlots r r'' :=
  ⟨k.slot.trans h.slot, k.phase.trans h.phase, k.waiting.trans h.waiting, k.reason.trans h.reason⟩

theorem sameSlots_take (c : Instr) (s : State) : SameSlots s.supply (s.take c).supply := {}

theorem inert_inlet {s : State} (h : s.supply.inletPresent = true) : Inert (unblock (endBridging s)) :=
  .inr (.inl (((works_endBridging s).trans (works_unblock _)).inputs.inlet.trans h))

theorem someSource_of_inlet {s : State} (h : s.supply.inletPresent = true) : someSource s = true := by simp [someSource, h]

theorem pins_finish (s : State) : (finish s).pins.inletPath = s.supply.inletPresent ∧ (finish s).pins.bridgePath = s.supply.carrying :=
  ⟨rfl, rfl⟩

theorem supplyFollows_answerLoss (s : State) : SupplyFollows (finish (answerLoss s)) := by
  rw [answerLoss]
  exact supplyFollows_settle _

/-- R95, R99, R100, R105: the departure of the inlet has the withdrawal under way tested in both phases. -/
theorem withdrawalTested_inletGone {s : State} (hl : WithdrawalLaw s) (c : Instr) :
    WithdrawalTested true { s with supply := { s.supply with inletPresent := false } } (answerLoss (inletGone (s.take c))) := by
  have hbay : ∀ b, (answerNoSource (inletGone (s.take c))).bay b = s.bay b := fun b =>
    (answerNoSource_bay _ b).trans ((inletGone_bay _ b).trans (State.take_bay c s b))
  have hslots : SameSlots s.supply (answerNoSource (inletGone (s.take c))).supply :=
    (sameSlots_take c s).trans ((sameSlots_inletGone _).trans (sameSlots_answerNoSource _))
  have hw := works_answerNoSource (inletGone (s.take c))
  have hu : ∀ b, ({ s with supply := { s.supply with inletPresent := false } } : State).bay b = s.bay b := fun b => by cases b <;> rfl
  exact withdrawalTested_of_law (again := true) hl hslots hbay (fun b => by rw [hu]) rfl rfl
    fun b => ⟨by rw [hbay, hu], hw.inputs.inlet, hw.inputs.reserve, hw.system, hw.store⟩

theorem withdrawalTested_inletCome {s : State} (hl : WithdrawalLaw s) (c : Instr) :
    WithdrawalTested false (inletCome s) (settle (unblock (endBridging (inletCome (s.take c))))) := by
  have hbay : ∀ b, (endBridging (inletCome (s.take c))).bay b = s.bay b := fun b =>
    (endBridging_bay _ b).trans ((inletCome_bay _ b).trans (State.take_bay c s b))
  have hslots : SameSlots s.supply (endBridging (inletCome (s.take c))).supply :=
    (sameSlots_take c s).trans ((sameSlots_inletCome _).trans (sameSlots_endBridging _))
  have hw := works_endBridging (inletCome (s.take c))
  exact withdrawalTested_of_law (again := false) hl hslots hbay (fun b => by rw [inletCome_bay]) rfl rfl
    fun b => ⟨by rw [hbay, inletCome_bay], hw.inputs.inlet, hw.inputs.reserve, hw.system, hw.store⟩

/-- R99: a CLEARING withdrawal that is blocked with the inlet gone returns to BLOCKED. -/
theorem reblocked_inletGone {s : State} {b : Bay} (hs : s.supply.slot = some b) (hp : s.supply.phase = some .clearing) (c : Instr)
    (hb : BridgeBlocks b { s with supply := { s.supply with inletPresent := false } }) :
    (answerLoss (inletGone (s.take c))).supply.slot = some b ∧ (answerLoss (inletGone (s.take c))).supply.phase = some .blocked ∧
      Pending (.supply .withdrawBlocked) (answerLoss (inletGone (s.take c))) := by
  have hbay : ∀ b, (answerNoSource (inletGone (s.take c))).bay b = s.bay b := fun b =>
    (answerNoSource_bay _ b).trans ((inletGone_bay _ b).trans (State.take_bay c s b))
  have hslots : SameSlots s.supply (answerNoSource (inletGone (s.take c))).supply :=
    (sameSlots_take c s).trans ((sameSlots_inletGone _).trans (sameSlots_answerNoSource _))
  have hw := works_answerNoSource (inletGone (s.take c))
  have hu : ∀ b, ({ s with supply := { s.supply with inletPresent := false } } : State).bay b = s.bay b := fun b => by cases b <;> rfl
  have htest : SameTest b { s with supply := { s.supply with inletPresent := false } } (answerNoSource (inletGone (s.take c))) :=
    ⟨by rw [hbay, hu], hw.inputs.inlet, hw.inputs.reserve, hw.system, hw.store⟩
  have hphase := hslots.phase.trans hp
  have hslot := hslots.slot.trans hs
  have hre : retest (answerNoSource (inletGone (s.take c))) = enterPhase true (answerNoSource (inletGone (s.take c))) := by
    rw [retest, unblock_of_not_blocked (by simp [hphase]), reblock_of_clearing hslot hphase,
      if_pos ((bridgeBlocks_iff b _).mp (htest.bridgeBlocks.mpr hb))]
  have hr := enterPhase_supply true (answerNoSource (inletGone (s.take c)))
  have hkeep := sameSlots_settle (s := enterPhase true (answerNoSource (inletGone (s.take c)))) (by simp [hr])
  rw [answerLoss, hre]
  exact ⟨hkeep.slot.trans (by rw [hr]; exact hslot), hkeep.phase.trans (by rw [hr]; rfl),
    (works_settle _).grows.pending (pending_raise_self _ _)⟩

/-- Settles O34: the inlet's coming and its going, each by what follows from its change. -/
theorem inletComesAndGoes : Obligations.InletComesAndGoes := by
  intro s p ha hf
  refine ⟨fun hp => ?same, fun hp hc => ?comes, fun hp hc => ?leaves⟩
  case same => exact exec_claim_eq ha hf rfl (by rw [← hp]; exact changeInlet_same (s.take _))
  case comes =>
    subst hc
    have hi : (inletCome (s.take (.inletEvent true))).supply.inletPresent = true := rfl
    have hinert := inert_inlet hi
    have hinlet : (settle (unblock (endBridging (inletCome (s.take (.inletEvent true)))))).supply.inletPresent = true :=
      (works_returned _).inputs.inlet.trans hi
    have hcarry := carrying_returned hinert
    refine ⟨_, exec_claim_eq ha hf rfl (changeInlet_comes (s := s.take _) hp), hinlet, hinlet, hcarry, hcarry,
      (works_returned (inletCome (s.take (.inletEvent true)))).judged,
      supplyFollows_settle _, fun ht hr => refill_returned (s := inletCome (s.take _)) ht hr hinert (someSource_of_inlet hinlet), fun hl => ?_⟩
    have hslots := (sameSlots_take (.inletEvent true) s).trans ((sameSlots_inletCome _).trans (sameSlots_endBridging _))
    have hnone : NoneBlocked (unblock (endBridging (inletCome (s.take (.inletEvent true))))) :=
      noneBlocked_unblock ((works_endBridging _).inputs.inlet.trans hi) (by rw [hslots.phase, hslots.slot]; exact hl.phase)
    exact ⟨hnone.settle.phase, (withdrawalTested_finish _ _ _).mpr (withdrawalTested_inletCome hl _)⟩
  case leaves =>
    subst hc
    have hw := works_answerLoss (inletGone (s.take (.inletEvent false)))
    refine ⟨_, exec_claim_eq ha hf rfl (changeInlet_leaves (s := s.take _) hp), hw.inputs.inlet, hw.inputs.inlet, hw.inputs.inletSet,
      supplyFollows_answerLoss _, hw.judged, fun b hs hphase hb => reblocked_inletGone hs hphase _ hb,
      fun hl => (withdrawalTested_finish _ _ _).mpr (withdrawalTested_inletGone hl _), fun hnone => ?_⟩
    refine noSourceAnswered_answerLoss (s := s) (v := inletGone (s.take (.inletEvent false))) ?_ rfl rfl rfl
    rw [← Bool.not_eq_true, someSource_iff]
    obtain ⟨hA, hA'⟩ := hnone .bayA
    obtain ⟨hB, hB'⟩ := hnone .bayB
    rintro (h | h | h | h | h)
    · cases h
    · exact hA h
    · exact hA' h
    · exact hB h
    · exact hB' h

end Sys2Proof.Machine
end

section
/-!
PROOFS. What every operation of the supply side does beside its records: it hands over for the Supply Controller alone, a changed ceiling is told, and
the refill timer starts at 5 s (R92, R110, R149, R157).
-/
namespace Sys2Proof.Machine

/-! ### The relation -/

/-- What an operation of the Supply Controller and the Bay Units does beside the records of the bays and of the slot. -/
structure SupplySide (s t : State) : Prop where
  grows : Grows s t
  acts : Acts .supplyController s t
  refill : RefillAtFive s.supply t.supply
  told : CeilingTold s t

theorem SupplySide.refl (s : State) : SupplySide s s := ⟨.refl s, .refl s, .inl rfl, .inl rfl⟩

theorem SupplySide.trans {s t u : State} (h : SupplySide s t) (k : SupplySide t u) : SupplySide s u :=
  ⟨h.grows.trans k.grows, h.acts.trans k.acts, h.refill.trans k.refill, h.told.trans k.told k.grows⟩

theorem SupplySide.ite {s t u : State} {q : Prop} [Decidable q] (h : SupplySide s t) (k : SupplySide s u) :
    SupplySide s (if q then t else u) := by
  split
  · exact h
  · exact k

theorem Works.side {s t : State} (h : Works s t) : SupplySide s t := ⟨h.grows, h.acts, h.refill, h.told⟩

/-- A change that hands nothing over and raises nothing. -/
theorem SupplySide.same {s t : State} (hh : t.handed = s.handed) (ha : t.attention = s.attention) (hr : RefillAtFive s.supply t.supply)
    (hc : t.supply.ceiling = s.supply.ceiling) : SupplySide s t := ⟨.same hh ha, .same hh ha, hr, .inl hc⟩

theorem SupplySide.supply {s : State} {r : SupplyRec} (hr : RefillAtFive s.supply r) (hc : r.ceiling = s.supply.ceiling := by rfl) :
    SupplySide s { s with supply := r } := .same rfl rfl hr hc

theorem SupplySide.setBay (b : Bay) (r : BayRec) (s : State) : SupplySide s (s.setBay b r) :=
  .same (by simp) (by simp) (.inl (by simp)) (by simp)

theorem SupplySide.modifyBay (b : Bay) (f : BayRec → BayRec) (s : State) : SupplySide s (s.modifyBay b f) := .setBay b _ s

theorem SupplySide.raise (a : Attention) (s : State) : SupplySide s (s.raise a) := ⟨.raise a s, .raise a s, .inl rfl, .inl rfl⟩

/-! ### Levers and contact -/

theorem side_takeLever (b : Bay) (level : Lever) (s : State) : SupplySide s (takeLever b level s) :=
  (SupplySide.modifyBay b _ s).trans (works_takeLever b level s).side

theorem side_changeLever (b : Bay) (level : Lever) (s : State) : SupplySide s (changeLever b level s) :=
  .ite (.refl s) ((SupplySide.modifyBay b _ s).trans (.ite (.modifyBay b _ _) (side_takeLever b level _)))

theorem side_makeContact (b : Bay) (s : State) : SupplySide s (makeContact b s) :=
  .ite (.refl s) ((SupplySide.modifyBay b insertedBay s).trans (.raise _ _))

theorem side_endStart (s : State) : SupplySide s (endStart s) := .ite (.same rfl rfl (.inl rfl) rfl) (.refl s)

theorem side_loseContact (b : Bay) (s : State) : SupplySide s (loseContact b s) := by
  refine .ite (.refl s) ?_
  have hlost := (SupplySide.modifyBay b emptiedBay s).trans (.raise (.bay b .lost) _)
  have hremoved := (SupplySide.modifyBay b emptiedBay s).trans (.raise (.bay b .removed) _)
  refine SupplySide.trans (t := if (s.bay b).supplies then loseBay b ((s.modifyBay b emptiedBay).raise (.bay b .lost))
    else settle (freeSlotOf b ((s.modifyBay b emptiedBay).raise (.bay b .removed)))) ?_ (side_endStart _)
  exact .ite (hlost.trans (works_loseBay b _).side) (hremoved.trans ((works_freeSlotOf b _).trans (works_settle _)).side)

/-! ### The pack link and acceptance -/

theorem side_failAnswer (b : Bay) (s : State) : SupplySide s (failAnswer b s) :=
  have h := SupplySide.setBay b (missStep { s.bay b with candidate := none, answerWindow := none }) s
  .ite (h.trans (.raise _ _)) h

theorem works_acceptOnline (b : Bay) (c : Condition) (failed : Bool) (s : State) : Works s (acceptOnline b c failed s) :=
  .ite (works_faultBay b s) (.ite ((works_requestWithdrawal b _ s).trans (works_settle _)) (works_settle s))

theorem works_turnToDisconnect (b : Bay) (s : State) : Works s (turnToDisconnect b s) :=
  .modifyBay ⟨rfl, .inl rfl, fun h => (countedFollows_iff _).mpr ((countedFollows_iff _).mp h)⟩

theorem works_acceptWithdrawing (b : Bay) (c : Condition) (failed : Bool) (s : State) : Works s (acceptWithdrawing b c failed s) :=
  .ite (works_faultBay b s) (.ite ((works_turnToDisconnect b s).trans (works_settle _)) (works_settle s))

/-- R78: the record of a bay that has become QUALIFIED. -/
def qualifiedBay (r : BayRec) : BayRec := { r with state := .qualified, probeTimer := none }

theorem acceptProbing_eq (b : Bay) (c : Condition) (s : State) : acceptProbing b c s =
    if (s.bay b).unfit c then becomeFaulted b s
    else match (s.bay b).leverTaken with
      | .opened => (s.raise (.bay b .qualified)).modifyBay b qualifiedBay
      | .locked => bringOnline b (s.raise (.bay b .qualified)) := rfl

theorem moved_qualified (r : BayRec) : Moved r (qualifiedBay r) :=
  ⟨rfl, .inl rfl, fun h => (countedFollows_iff _).mpr ((countedFollows_iff r).mp h)⟩

theorem works_acceptProbing (b : Bay) (c : Condition) (s : State) : Works s (acceptProbing b c s) := by
  have hraise : Works s (s.raise (.bay b .qualified)) := .raise rfl s
  rw [acceptProbing_eq]
  refine .ite (works_becomeFaulted b s) ?_
  cases (s.bay b).leverTaken with
  | opened => exact hraise.trans (.modifyBay (moved_qualified _))
  | locked => exact hraise.trans (works_bringOnline b _)

theorem works_reactAccepted (b : Bay) (c : Condition) (failed : Bool) (s : State) : Works s (reactAccepted b c failed s) := by
  unfold reactAccepted
  cases (s.bay b).state with
  | probing => exact works_acceptProbing b c s
  | qualified => exact .ite (works_becomeFaulted b s) (.refl s)
  | online => exact works_acceptOnline b c failed s
  | withdrawing => exact works_acceptWithdrawing b c failed s
  | released => exact .refl s
  | faulted => exact .refl s
  | empty => exact .refl s

/-- R72, R85: the record of a bay that accepts a condition. -/
def acceptedBay (c : Condition) (r : BayRec) : BayRec := ({ r with accepted := some c, requalify := none }).recount

theorem acceptCondition_eq (b : Bay) (c : Condition) (s : State) : acceptCondition b c s =
    reactAccepted b c (failsRequalify (s.bay b) c)
      (if raisesPackRequest (s.bay b) c then (s.modifyBay b (acceptedBay c)).raise (.bay b .packRequest)
       else s.modifyBay b (acceptedBay c)) := rfl

theorem side_acceptCondition (b : Bay) (c : Condition) (s : State) : SupplySide s (acceptCondition b c s) := by
  rw [acceptCondition_eq]
  have h := SupplySide.modifyBay b (acceptedBay c) s
  exact (SupplySide.ite (h.trans (.raise _ _)) h).trans (works_reactAccepted b c _ _).side

theorem side_linkReturned (b : Bay) (before : BayRec) {otherwise : State → State} {s : State} (ho : SupplySide s (otherwise s)) :
    SupplySide s (linkReturned b before otherwise s) := .ite (works_qualifiedOnline b s).side ho

theorem side_hearAnswer (b : Bay) (a : Answer) (s : State) : SupplySide s (hearAnswer b a s) := by
  have h := SupplySide.modifyBay b (heardBay s.profile a) s
  exact .ite ((h.trans (side_acceptCondition b _ _)).trans (side_linkReturned b _ (.refl _)))
    (h.trans (side_linkReturned b _ (works_settle _).side))

theorem side_takeAnswer (b : Bay) (bytes : List Byte) (s : State) : SupplySide s (takeAnswer b bytes s) := by
  refine .ite (.refl s) ?_
  cases readAnswer bytes with
  | some a => exact side_hearAnswer b a s
  | none => exact side_failAnswer b s

/-! ### The bay's timers, requalify and policy -/

theorem side_loseLink (b : Bay) (s : State) : SupplySide s (loseLink b s) := by
  have h := SupplySide.modifyBay b (fun r => { r with link := some .lost, stepTimer := none }) s
  have hf := h.trans (works_faultBay b _).side
  unfold loseLink
  cases (s.bay b).state with
  | qualified => exact hf
  | online => exact hf
  | withdrawing => exact hf
  | empty => exact h
  | probing => exact h
  | released => exact h
  | faulted => exact h

theorem works_expireEject (b : Bay) (s : State) : Works s (expireEject b s) := by
  unfold expireEject
  cases (s.bay b).state with
  | withdrawing => exact works_cancelWithdrawal b s
  | released => exact works_relock b s
  | empty => exact .refl s
  | probing => exact .refl s
  | qualified => exact .refl s
  | online => exact .refl s
  | faulted => exact .refl s

theorem side_askRequalify (b : Bay) (s : State) : SupplySide s (askRequalify b s) :=
  .ite ((SupplySide.modifyBay b startRequalify s).trans (works_settle _).side) (.refl s)

theorem works_referWaiting (b : Bay) (s : State) : Works s (referWaiting b s) :=
  .ite (.ite (.supply {} (.inl rfl)) (works_stopWaiting b s)) (.refl s)

theorem works_actDisconnect (b : Bay) (s : State) : Works s (actDisconnect b s) := .ite (works_requestWithdrawal b _ s) (.refl s)

/-- R76: the record of a bay under its new policy. -/
def policyBay (p : Policy) (r : BayRec) : BayRec := ({ r with policy := p }).recount

theorem changePolicy_eq (b : Bay) (p : Policy) (s : State) : changePolicy b p s =
    if (s.bay b).policy = p then s
    else settle (match p with
      | .act => actDisconnect b (s.modifyBay b (policyBay p))
      | .refer => referWaiting b (s.modifyBay b (policyBay p))) := rfl

theorem side_changePolicy (b : Bay) (p : Policy) (s : State) : SupplySide s (changePolicy b p s) := by
  have h := SupplySide.modifyBay b (policyBay p) s
  rw [changePolicy_eq]
  refine .ite (.refl s) ?_
  cases p with
  | act => exact h.trans ((works_actDisconnect b _).trans (works_settle _)).side
  | refer => exact h.trans ((works_referWaiting b _).trans (works_settle _)).side

theorem side_bayTakes (c : Instr) (s : State) : SupplySide s (bayTakes c s) := by
  unfold bayTakes
  split
  · exact side_makeContact _ s
  · exact side_loseContact _ s
  · exact side_changePolicy _ _ s
  · exact side_askRequalify _ s
  · exact .refl s

/-! ### The Supply Controller -/

theorem side_takeTotal (total : Nat) (s : State) : SupplySide s (takeTotal total s) := by
  have h : SupplySide s { s with supply := { s.supply with totalHeld := total } } := .supply (.inl rfl)
  exact h.trans (works_testPaths _).side

theorem side_changeInlet (present : Bool) (s : State) : SupplySide s (changeInlet present s) := by
  have hcome : SupplySide s (inletCome s) := .supply (.inl rfl)
  have hgone : SupplySide s (inletGone s) := .supply (.inl rfl)
  exact .ite (.refl s) (.ite (hcome.trans (works_returned _).side) (hgone.trans (works_answerLoss _).side))

/-- R107: a second of the reserve is gone, nothing following yet. -/
def drained (s : State) : State := { s with supply := { s.supply with reserve := s.supply.reserve - 1, drainTimer := some (sec 1) } }

/-- R107, R109: what the drained second raises, and the end of an exhausted bridge. -/
def drainTold (s : State) : State :=
  let s2 := if s.supply.reserve = 15 then s.raise (.supply .bridgeLow) else s
  if s.supply.reserve = 0 then exhaustBridge s2 else s2

theorem drain_eq (s : State) : drain s = settle (unblock (drainTold (drained s))) := rfl

theorem works_drainTold (s : State) : Works s (drainTold s) := by
  have h : Works s (if s.supply.reserve = 15 then s.raise (.supply .bridgeLow) else s) := .ite (.raise rfl s) (.refl s)
  exact .ite (h.trans (works_exhaustBridge _)) h

theorem side_drain (s : State) : SupplySide s (drain s) := by
  have h : SupplySide s (drained s) := .supply (.inl rfl)
  rw [drain_eq]
  exact h.trans (((works_drainTold _).trans (works_unblock _)).trans (works_settle _)).side

/-- R110: a second of the reserve has come back, nothing following yet. -/
def refilled (s : State) : State := { s with supply := { s.supply with reserve := min 60 (s.supply.reserve + 1), refillTimer := none } }

theorem refill_eq (s : State) : refill s = settle (unblock (refilled s)) := rfl

theorem side_refill (s : State) : SupplySide s (refill s) := by
  have h : SupplySide s (refilled s) := .supply (.inr (.inl rfl))
  rw [refill_eq]
  exact h.trans ((works_unblock _).trans (works_settle _)).side

theorem side_takeDeferred (b : Bay) (s : State) : SupplySide s (takeDeferred b s) := by
  unfold takeDeferred
  cases (s.bay b).deferred with
  | none => exact .refl s
  | some level =>
    have h := SupplySide.modifyBay b (fun r => { r with deferred := none }) s
    exact .ite h (h.trans (side_takeLever b level _))

theorem side_releaseDeferral (s : State) : SupplySide s (releaseDeferral s) := by
  have h : SupplySide s (undeferred s) := .supply (.inl rfl)
  have hn : SupplySide s { undeferred s with freeCount := s.freeCount + 1 } := .same rfl rfl (.inl rfl) rfl
  rw [releaseDeferral_eq]
  exact .ite (.ite ((hn.trans (side_takeDeferred _ _)).trans (side_takeDeferred _ _)) ((hn.trans (side_takeDeferred _ _)).trans (side_takeDeferred _ _)))
    ((h.trans (side_takeDeferred _ _)).trans (side_takeDeferred _ _))

theorem works_supplyNotice (st : SystemState) (s : State) : Works s (supplyNotice st s) := by
  rw [supplyNotice_eq]
  exact ((works_noticeBridge st s).trans (.ite (works_retest _) (works_unblock _))).trans (works_settle _)

theorem side_changeSupplySettings (s : State) : SupplySide s (changeSupplySettings s) := by
  have h : SupplySide s (settingTaken s) := .same rfl rfl (.inl rfl) rfl
  rw [changeSupplySettings_eq]
  exact (SupplySide.ite (h.trans (works_retest _).side) h).trans (works_settle _).side

theorem side_supplyTakes (c : Instr) (s : State) : SupplySide s (supplyTakes c s) := by
  unfold supplyTakes
  split
  · exact side_takeTotal _ s
  · exact side_changeInlet _ s
  · exact .supply (.inl rfl)
  · exact side_releaseDeferral s
  · exact (works_supplyNotice _ s).side
  · exact side_changeSupplySettings s
  · exact .refl s

/-! ### Events and requests -/

theorem side_supplyEvent {c : Instr} (hc : isSupplyCommand c = true) (s : State) : SupplySide s (eventChange c s) := by
  cases c <;> (try cases hc)
  case drainTimerExpiry => exact .ite (side_drain s) (.refl s)
  case refillTimerExpiry => exact .ite (side_refill s) (.refl s)
  case leverEvent b level => exact side_changeLever b level s
  case conditionQuery b => exact .ite (.modifyBay b sendQuery s) (.refl s)
  case goodAnswer b bytes => exact side_takeAnswer b bytes s
  case badAnswer b bytes => exact side_takeAnswer b bytes s
  case missedAnswer b => exact .ite (side_failAnswer b s) (.refl s)
  case probeTimerExpiry b => exact .ite (works_becomeFaulted b s).side (.refl s)
  case linkStepTimerExpiry b => exact .ite (side_loseLink b s) (.refl s)
  case ejectWindowExpiry b => exact .ite (works_expireEject b s).side (.refl s)
  case requalifyExpiry b => exact .ite (works_faultBay b s).side (.refl s)
  all_goals exact .refl s

theorem side_require {g : Bool} {st : Status} {s : State} {x : State × Reply} (h : SupplySide s x.1) : SupplySide s (require g st s x).1 :=
  require_cases (.refl s) fun _ => h

theorem side_reprobeRequest (bay : Nat) (s : State) : SupplySide s (reprobeRequest bay s).1 := by
  unfold reprobeRequest
  cases readBay bay with
  | none => exact .refl s
  | some b => exact side_require (.modifyBay b reprobedBay s)

theorem side_ejectRequest (bay : Nat) (s : State) : SupplySide s (ejectRequest bay s).1 := by
  unfold ejectRequest
  cases readBay bay with
  | none => exact .refl s
  | some b => exact side_require (side_require ((works_startWithdrawal b _ s).trans (works_settle _)).side)

theorem side_setInletRequest (c : Nat) (s : State) : SupplySide s (setInletRequest c s).1 := by
  have h : SupplySide s (inletGiven c s) := .supply (.inl rfl)
  exact side_require (side_require (h.trans (works_settle _).side))

theorem side_supplyRequest {c : Instr} (hc : isSupplyCommand c = true) (s : State) : SupplySide s (requestChange c s).1 := by
  cases c <;> (try cases hc)
  case reprobe bay => exact side_reprobeRequest bay s
  case eject bay => exact side_ejectRequest bay s
  case setInlet capability => exact side_setInletRequest capability s
  all_goals exact .refl s

/-- The parties of the supply side. -/
theorem receiver_of_supplyCommand {c : Instr} {r : Route} (hc : isSupplyCommand c = true) (hr : route c = some r) :
    r.receiver = .supplyController ∨ ∃ b, r.receiver = .bayUnit b := by
  cases c <;> simp only [isSupplyCommand, Bool.false_eq_true, route, Option.some.injEq, reduceCtorEq] at hc hr <;> subst hr <;> simp

theorem side_received {c : Instr} {r : Route} (hc : isSupplyCommand c = true) (hr : route c = some r) (s : State) :
    SupplySide s (receives r.receiver c s) := by
  rcases receiver_of_supplyCommand hc hr with hp | ⟨b, hp⟩ <;> rw [hp]
  · exact side_supplyTakes c s
  · exact side_bayTakes c s

end Sys2Proof.Machine
end

section
/-!
PROOFS. The bridge cell: its drains, its refills, and the timer that starts at 5 s: O35.
-/
namespace Sys2Proof.Machine

/-! ### The refill timer starts at 5 s -/

theorem supply_of_changes {c : Instr} {s t : State} (hc : isSupplyCommand c = false) (hk : Changes (workFields c) s t) :
    t.supply = s.supply := hk .supply (supply_not_mem_workFields hc).1

theorem refill_event (c : Instr) (s : State) : RefillAtFive s.supply (eventChange c s).supply := by
  cases hc : isSupplyCommand c with
  | true => exact (side_supplyEvent hc s).refill
  | false =>
    cases ho : isOwnEvent c with
    | false => rw [eventChange_of_not_own ho]; exact .inl rfl
    | true => rw [supply_of_changes hc (changes_ownEvent ho s)]; exact .inl rfl

theorem refill_request (c : Instr) (s : State) : RefillAtFive s.supply (requestChange c s).1.supply := by
  cases hc : isSupplyCommand c with
  | true => exact (side_supplyRequest hc s).refill
  | false =>
    cases hp : isPlainRequest c with
    | true => rw [supply_of_changes hc (changes_plainRequest hp s)]; exact .inl rfl
    | false =>
      cases hl : isLoadRequest c with
      | false => rw [requestChange_of_no_request hp hl]; exact .inl rfl
      | true =>
        have hk : Changes (workFields c) s (requestChange c s).1 := workFields_of_loadRequest hl ▸ changes_loadRequestChange hl s
        rw [supply_of_changes hc hk]
        exact .inl rfl

theorem refill_claim (c : Instr) (s : State) : RefillAtFive s.supply (claimChange c s).supply := by
  cases hr : route c with
  | none => exact .inl (by simp [claimChange, hr])
  | some r =>
    cases hc : isSupplyCommand c with
    | false =>
      have hk : Changes (workFields c) s (claimChange c s) := workFields_of_route hr ▸ changes_claimChange hr s
      rw [supply_of_changes hc hk]
      exact .inl rfl
    | true =>
      rw [claimChange_of_route hr]
      exact (side_received hc hr (s.take c)).refill

theorem kept_refill : Kept fun s t => RefillAtFive s.supply t.supply where
  refl := fun _ => .inl rfl
  trans := fun _ _ _ h k => h.trans k
  finish := fun _ => .inl rfl
  port := fun _ _ => .inl rfl
  event := refill_event
  request := refill_request
  claim := refill_claim

/-- R110: a refill timer that a step has started stands at 5 s. -/
theorem refill_of_step {s t : State} (h : step s = .next t) (hs : s.supply.refillTimer = none) :
    t.supply.refillTimer = none ∨ t.supply.refillTimer = some (sec 5) := by
  rcases step_cases h with ⟨c, cs, hc⟩ | rfl | rfl
  · by_cases hx : ∃ x, c = .powerOnReset x
    · obtain ⟨x, rfl⟩ := hx
      injection hc with hc
      rw [← hc]
      exact .inl rfl
    · rcases kept_refill.exec (fun x hcx => hx ⟨x, hcx⟩) hc with hr | hr | hr
      · exact .inl (hr.trans hs)
      · exact .inl hr
      · exact .inr hr
  · refine .inl ?_
    rw [tick_supply, tickSupply, hs]
    rfl
  · exact .inl hs

/-! ### The bridge while it carries -/

/-- R106: while the bridge carries alone no withdrawal waits for its path. -/
theorem not_clearing_of_carrying {s : State} (hl : WithdrawalLaw s) (hb : BridgeLaw s) (hc : s.supply.carrying = true) :
    s.supply.phase = none ∨ s.supply.phase = some .opened := by
  have hsource := hb.source hc
  cases hs : s.supply.slot with
  | none =>
    have := hl.phase
    rw [hs] at this
    exact .inl (Option.not_isSome_iff_eq_none.mp (by rw [this]; decide))
  | some b =>
    refine .inr ((hl.opened b hs).mpr ?_)
    rcases (leaving_iff _).mp ((hl.slot b).mpr hs) with hw | hr
    · rw [someSource_eq b, (supplies_iff _).mpr (.inr hw)] at hsource
      cases hsource
    · exact hr

theorem unblock_of_settled {s : State} (h : s.supply.phase = none ∨ s.supply.phase = some .opened) : unblock s = s :=
  unblock_of_not_blocked (by rcases h with h | h <;> simp [h])

theorem reblock_of_settled {s : State} (h : s.supply.phase = none ∨ s.supply.phase = some .opened) : reblock s = s :=
  reblock_of_not_clearing (by rcases h with h | h <;> simp [h])

theorem retest_of_settled {s : State} (h : s.supply.phase = none ∨ s.supply.phase = some .opened) : retest s = s := by
  rw [retest, unblock_of_settled h, reblock_of_settled h]

theorem sameCell_settled {s : State} (h : s.supply.phase = none ∨ s.supply.phase = some .opened) :
    SameCell s.supply (settle s).supply := by
  rw [settle_of_not_clearing (by rcases h with h | h <;> simp [h])]
  exact (sameCell_recompute s).trans {}

/-- R105: with no source and no reserve nothing feeds the part. -/
theorem not_fed_of {s : State} (hs : someSource s = false) (hr : s.supply.reserve = 0) : ¬Fed s := by
  rw [← Bool.not_eq_true, someSource_iff] at hs
  unfold Fed
  rintro (h | h | h | h | h | h)
  · exact hs (.inr (.inl h))
  · exact hs (.inr (.inr (.inl h)))
  · exact hs (.inr (.inr (.inr (.inl h))))
  · exact hs (.inr (.inr (.inr (.inr h))))
  · exact hs (.inl h)
  · omega

/-! ### A drain -/

theorem drainTold_bay (s : State) (b : Bay) : (drainTold s).bay b = s.bay b := by
  unfold drainTold
  dsimp only
  split <;> split <;> cases b <;> rfl

theorem drainTold_phase (s : State) : (drainTold s).supply.phase = s.supply.phase := by
  unfold drainTold
  dsimp only
  split <;> split <;> rfl

theorem drainTold_going {s : State} (h : s.supply.reserve ≠ 0) : SameCell s.supply (drainTold s).supply := by
  unfold drainTold
  dsimp only
  rw [if_neg h]
  split <;> exact {}

/-- R109: the exhausted bridge stops and the system is forced off. -/
theorem drainTold_exhausted {s : State} (h : s.supply.reserve = 0) :
    (drainTold s).supply.carrying = false ∧ (drainTold s).supply.drainTimer = none ∧ .forcedOff ∈ (drainTold s).handed := by
  unfold drainTold
  dsimp only
  rw [if_pos h]
  split <;> exact ⟨rfl, rfl, by simp [exhaustBridge]⟩

theorem drainTold_low {s : State} (h : s.supply.reserve = 15) : Pending (.supply .bridgeLow) (drainTold s) := by
  unfold drainTold
  dsimp only
  rw [if_neg (by omega), if_pos h]
  exact pending_raise_self _ _

/-- What a drain that finds no withdrawal to test works out. -/
def drainEnd (s : State) : State := settle (drainTold (drained s))

theorem drain_settled {s : State} (h : s.supply.phase = none ∨ s.supply.phase = some .opened) : drain s = drainEnd s := by
  rw [drain_eq, unblock_of_settled (by rw [drainTold_phase]; exact h)]
  rfl

theorem works_drainEnd (s : State) : Works (drained s) (drainEnd s) := (works_drainTold _).trans (works_settle _)

theorem sameCell_drainEnd {s : State} (h : s.supply.phase = none ∨ s.supply.phase = some .opened) :
    SameCell (drainTold (drained s)).supply (drainEnd s).supply := sameCell_settled (by rw [drainTold_phase]; exact h)

theorem drainEnd_bay {s : State} (h : s.supply.phase = none ∨ s.supply.phase = some .opened) (b : Bay) : (drainEnd s).bay b = s.bay b := by
  have hp : (drainTold (drained s)).supply.phase ≠ some .clearing := by
    rw [drainTold_phase]
    rcases h with h | h <;> simp [drained, h]
  rw [drainEnd, settle_bay hp, drainTold_bay]
  cases b <;> rfl

theorem someSource_drainEnd {s : State} (h : s.supply.phase = none ∨ s.supply.phase = some .opened) : someSource (drainEnd s) = someSource s :=
  someSource_congr (drainEnd_bay h) (works_drainEnd s).inputs.inlet

/-! ### A refill -/

theorem works_refillEnd (s : State) : Works (refilled s) (refill s) := by
  rw [refill_eq]
  exact (works_unblock _).trans (works_settle _)

theorem refilled_bay (s : State) (b : Bay) : (refilled s).bay b = s.bay b := by cases b <;> rfl

/-- R110: the refill timer behind a refill. -/
theorem refillTimer_refill (s : State) : (refill s).supply.refillTimer =
    if (refill s).supply.carrying = false ∧ someSource (refill s) = true ∧ (refill s).supply.reserve < 60 then some (sec 5) else none := by
  have h := refillTimer_settle (s := refilled s) rfl (works_unblock (refilled s)).refill
  rw [← refill_eq] at h
  rw [h]
  refine ite_of_iff ?_
  rw [refillCondition, Bool.and_eq_true, Bool.not_eq_true', and_assoc]

/-- R100, R110: a BLOCKED withdrawal is tested with the raised reserve. -/
theorem withdrawalTested_refill {s : State} (hl : WithdrawalLaw s) :
    WithdrawalTested false { s with supply := { s.supply with reserve := min 60 (s.supply.reserve + 1) } } (refill s) := by
  have hu : ∀ b, ({ s with supply := { s.supply with reserve := min 60 (s.supply.reserve + 1) } } : State).bay b = s.bay b :=
    fun b => by cases b <;> rfl
  rw [refill_eq]
  exact withdrawalTested_of_law (again := false) hl {} (refilled_bay s) (fun b => by rw [hu]) rfl rfl
    fun b => ⟨by rw [refilled_bay, hu], rfl, rfl, rfl, rfl⟩

/-! ### The notices of a system state at the bridge -/

theorem carrying_starting {s : State} (hs : someSource s = false) (ho : s.system.state = .starting ∨ s.system.state = .run) :
    (supplyNotice .starting s).supply.carrying = true := by
  have hon := (systemOn_iff s).mpr ho
  have hc : (noticeBridge .starting s).supply.carrying = true := by
    show (if systemOn s && !someSource s then startCarrying s else s).supply.carrying = true
    rw [hon, hs]
    exact startCarrying_carrying s
  have hr := (sameCell_retest (noticeBridge .starting s)).carrying.trans hc
  exact (sameCell_settle (.inl hr)).carrying.trans hr

theorem stopping_ends {s : State} (hc : s.supply.carrying = true) (hp : s.supply.phase = none ∨ s.supply.phase = some .opened) :
    (supplyNotice .stopping s).supply.carrying = false ∧ .forcedOff ∈ (supplyNotice .stopping s).handed := by
  have hn : noticeBridge .stopping s = exhaustBridge s := if_pos hc
  have he : supplyNotice .stopping s = settle (exhaustBridge s) := by
    rw [supplyNotice_eq, hn]
    exact congrArg settle (retest_of_settled hp)
  rw [he]
  exact ⟨(sameCell_settled (s := exhaustBridge s) hp).carrying.trans rfl, (works_settle _).grows.mem (by simp [exhaustBridge])⟩

theorem dark_ends {s : State} (hd : s.system.state = .dark) : (supplyNotice .dark s).supply.carrying = false := by
  have hw := (works_endBridging s).trans (works_unblock _)
  refine carrying_returned (s := s) (.inr (.inr (.inl ?_)))
  rw [systemOn, hw.system, hd]
  rfl

/-- Settles O35: the drain of a bridge that carries alone finds no withdrawal to test; the refill and the notices by what they leave of the cell;
the timer by what every change keeps of it. -/
theorem bridgeDrainsAndRefills : Obligations.BridgeDrainsAndRefills := by
  refine ⟨fun s ha hl hb => ⟨fun hc => ?idle, fun hc => ?drains, fun hf hs ho => ?starting, fun hf hc => ?stopping, fun hf hd => ?dark⟩,
    fun s ha => ⟨fun ht => ?still, fun ht => ?refills⟩, fun s t h hs hn => (refill_of_step h hs).resolve_left hn⟩
  case idle => exact exec_own_nothing ha rfl (if_neg (by simp [hc]))
  case drains =>
    have hp := not_clearing_of_carrying hl hb hc
    have hguard : (s.supply.carrying && s.supply.drainTimer.isSome) = true := by rw [hb.drain, hc]; rfl
    have hw := works_drainEnd s
    have hcell := sameCell_drainEnd hp
    have hpower : PowerJudged s.power (finish (drainEnd s)) := hw.judged
    have hreserve : (drainEnd s).supply.reserve = s.supply.reserve - 1 := hw.inputs.reserve
    refine ⟨_, exec_own_eq ha rfl ((if_pos hguard).trans (drain_settled hp)), hreserve, supplyFollows_settle _, hpower, fun hsup hr => ?_,
      fun hr => ?_, fun hr => ?_, fun hr => ?_⟩
    · refine (hpower.1 hsup).2 (not_fed_of (s := drainEnd s) ((someSource_drainEnd hp).trans (hb.source hc)) ?_)
      rw [hreserve]
      omega
    · have hgo := drainTold_going (s := drained s) (by show s.supply.reserve - 1 ≠ 0; omega)
      exact ⟨(hcell.carrying.trans hgo.carrying).trans hc, (hcell.drain.trans hgo.drain).trans rfl⟩
    · exact (works_settle _).grows.pending (drainTold_low (s := drained s) (by show s.supply.reserve - 1 = 15; omega))
    · obtain ⟨hcarry, hdrain, hoff⟩ := drainTold_exhausted (s := drained s) (by show s.supply.reserve - 1 = 0; omega)
      have hstop := hcell.carrying.trans hcarry
      exact ⟨hstop, hcell.drain.trans hdrain, hstop, (works_settle _).grows.mem hoff⟩
  case starting =>
    have hcarry := carrying_starting (s := s.take (.supplyStateNotice .starting)) hs ho
    exact ⟨_, exec_claim_eq ha hf rfl rfl, hcarry, hcarry⟩
  case stopping =>
    obtain ⟨hcarry, hoff⟩ := stopping_ends (s := s.take (.supplyStateNotice .stopping)) hc
      (show s.supply.phase = none ∨ s.supply.phase = some .opened from not_clearing_of_carrying hl hb hc)
    exact ⟨_, exec_claim_eq ha hf rfl rfl, hcarry, hoff⟩
  case dark => exact ⟨_, exec_claim_eq ha hf rfl rfl, dark_ends (s := s.take (.supplyStateNotice .dark)) hd⟩
  case still => exact exec_own_nothing ha rfl (if_neg (by simp [ht]))
  case refills =>
    have hw := works_refillEnd s
    have hpower : PowerJudged s.power (finish (refill s)) := hw.judged
    refine ⟨_, exec_own_eq ha rfl (if_pos (isSome_of_ne_none ht)), hw.inputs.reserve, ?_, hpower, refillTimer_refill s,
      fun hl => (withdrawalTested_finish _ _ _).mpr (withdrawalTested_refill hl)⟩
    rw [refill_eq]
    exact supplyFollows_settle _

end Sys2Proof.Machine
end

section
/-!
PROOFS. The counted total at the Supply Controller, and the passing on of a slot that comes free: O37.
-/
namespace Sys2Proof.Machine

/-! ### The slot passes on -/

theorem turnCause_disconnect {r : BayRec} {x : Option WaitReason} (h : AsksDisconnect r) (hx : r.leverTaken = .opened ∨ x = some .disconnect) :
    turnCause r x = some .disconnect := by
  have hw := (wantsDisconnect_iff r).mpr h
  unfold turnCause
  by_cases ho : r.leverTaken = .opened
  · rw [if_pos ho, if_pos hw]
  · rw [if_neg ho, if_pos ⟨hx.resolve_left ho, hw⟩]

theorem turnCause_lever {r : BayRec} (h : ¬AsksDisconnect r) (ho : r.leverTaken = .opened) (x : Option WaitReason) :
    turnCause r x = some .lever := by
  rw [← wantsDisconnect_iff] at h
  rw [turnCause, if_pos ho, if_neg h]

theorem turnCause_none {r : BayRec} {x : Option WaitReason} (hl : r.leverTaken = .locked) (h : ¬(x = some .disconnect ∧ AsksDisconnect r)) :
    turnCause r x = none := by
  rw [← wantsDisconnect_iff] at h
  rw [turnCause, if_neg (by simp [hl]), if_neg h]

theorem TurnTaken.started {b : Bay} {r : BayRec} {x : Option WaitReason} {t : State} {cause : Cause} (h : TurnTaken b r x t)
    (hc : turnCause r x = some cause) : WithdrawalStarted b cause t t := by
  unfold TurnTaken at h
  rw [hc] at h
  exact h

theorem TurnTaken.idle {b : Bay} {r : BayRec} {x : Option WaitReason} {t : State} (h : TurnTaken b r x t)
    (hc : turnCause r x = none) : t.bay b = r ∧ t.supply.waiting = none ∧ t.supply.slot = none := by
  unfold TurnTaken at h
  rw [hc] at h
  exact h

/-- R103: what becomes of the waiting bay, by its turn. -/
theorem slotPassesOn_of_turn {b : Bay} {s t : State} (hl : WithdrawalLaw s)
    (h : s.supply.slot = some b → s.supply.waiting = some (otherBay b) → TurnTaken (otherBay b) (s.bay (otherBay b)) s.supply.waitReason t) :
    SlotPassesOn b s t := by
  intro hs hw
  have ht := h hs hw
  refine ⟨fun ha hx => ht.started (turnCause_disconnect ha hx), fun ha ho => ht.started (turnCause_lever ha ho _), fun ho hn => ?_⟩
  obtain ⟨hb, hwait, hslot⟩ := ht.idle (turnCause_none ho hn)
  exact ⟨by rw [hb]; exact (hl.waiting _ hw).2, hwait, hslot⟩

/-! ### The opening of a path by a counted total -/

/-- R93: the counted total stands, no path tested yet. -/
def totalTaken (total : Nat) (s : State) : State := { s with supply := { s.supply with totalHeld := total } }

theorem takeTotal_eq (total : Nat) (s : State) : takeTotal total s = testPaths (totalTaken total s) := rfl

theorem totalTaken_bay (total : Nat) (s : State) (b : Bay) : (totalTaken total s).bay b = s.bay b := by cases b <;> rfl

/-- R110: the refill timer stands as the law has it. -/
theorem refreshRefill_of_law {s : State} (h : BridgeLaw s) : refreshRefill s = s := by
  have hr := h.refill
  rw [← someSource_iff] at hr
  have ht : (if refillCondition s ∧ s.supply.reserve < 60 then some (s.supply.refillTimer.getD (sec 5)) else none) = s.supply.refillTimer := by
    cases hx : s.supply.refillTimer with
    | none =>
      rw [hx] at hr
      refine if_neg fun hc => ?_
      simp only [refillCondition, Bool.and_eq_true, Bool.not_eq_true'] at hc
      exact absurd (hr.mpr ⟨hc.1.1, hc.2, hc.1.2⟩) (by decide)
    | some n =>
      rw [hx] at hr
      obtain ⟨hc, hv, hs⟩ := hr.mp rfl
      exact if_pos ⟨by rw [refillCondition, hc, hs]; rfl, hv⟩
  unfold refreshRefill
  dsimp only
  rw [ht]

/-- R102: what stands behind the opening of a path by a removal. -/
theorem testPaths_released {b : Bay} {v : State} (hs : v.supply.slot = some b) (hp : v.supply.phase = some .clearing)
    (ht : v.supply.totalHeld ≤ v.supply.ceiling) (hc : (v.bay b).cause ≠ some .disconnect) :
    testPaths v = refreshRefill (recompute (releaseBay b (bridgedOver b v))) := by
  have he := pathTest_of_within hs hp ht
  rw [openPath_released hc] at he
  rw [testPaths, he, pathTest_of_not_clearing]
  rw [(sameSlots_recompute _).phase, releaseBay_supply]
  simp

/-- R102, R103: what stands behind the opening of a path by a DISCONNECT. -/
theorem testPaths_faulted {b : Bay} {v : State} (hs : v.supply.slot = some b) (hp : v.supply.phase = some .clearing)
    (ht : v.supply.totalHeld ≤ v.supply.ceiling) (hc : (v.bay b).cause = some .disconnect) :
    testPaths v = testPaths (recompute (freeSlot (becomeFaulted b (bridgedOver b v)))) := by
  have he := pathTest_of_within hs hp ht
  rw [openPath_faulted hc] at he
  have hw : (recompute (freeSlot (becomeFaulted b (bridgedOver b v)))).supply.waiting = none := by
    rw [(sameSlots_recompute _).waiting, freeSlot_waiting]
  rw [testPaths, testPaths, he, pathTest_twice hw]

theorem carrying_bridgedOver {b : Bay} {s : State} (hl : lastSource b s = true) (ho : systemOn s = true) :
    (bridgedOver b s).supply.carrying = true := by
  unfold bridgedOver
  rw [hl, ho]
  exact startCarrying_carrying s

/-- R102: the bridge carries behind the opening of the path of the last source. -/
theorem carrying_opened {b : Bay} {v : State} (hs : v.supply.slot = some b) (hp : v.supply.phase = some .clearing)
    (ht : v.supply.totalHeld ≤ v.supply.ceiling) (hl : lastSource b v = true) (ho : systemOn v = true) :
    (testPaths v).supply.carrying = true := by
  have h1 : (pathTest v).supply.carrying = true := by
    rw [pathTest_of_within hs hp ht, (sameCell_recompute _).carrying, (sameCell_openPath b v).carrying, carrying_bridgedOver hl ho]
  exact (sameCell_pathTest (.inl h1)).carrying.trans h1

/-- R103: the turn of the bay that waits for a slot that a DISCONNECT frees. -/
theorem turnTaken_faulted {b : Bay} {v : State} (hs : v.supply.slot = some b) (hp : v.supply.phase = some .clearing)
    (ht : v.supply.totalHeld ≤ v.supply.ceiling) (hc : (v.bay b).cause = some .disconnect) (hw : v.supply.waiting = some (otherBay b)) :
    TurnTaken (otherBay b) (v.bay (otherBay b)) v.supply.waitReason (testPaths v) := by
  have hwait : (becomeFaulted b (bridgedOver b v)).supply.waiting = some (otherBay b) := by rw [bridgedOver_waiting, hw]
  have hturn := turnStarted_freeSlot hwait
  rw [becomeFaulted_other, bridgedOver_bay, becomeFaulted_supply, (sameSlots_bridgedOver b v).reason] at hturn
  rw [testPaths_faulted hs hp ht hc]
  exact hturn.recompute.testPaths (fresh_recompute _)

theorem away_faulted {b : Bay} {v : State} (hs : v.supply.slot = some b) (hp : v.supply.phase = some .clearing)
    (ht : v.supply.totalHeld ≤ v.supply.ceiling) (hc : (v.bay b).cause = some .disconnect) (hw : v.supply.waiting ≠ some b) :
    Away b (testPaths v) ∧ (testPaths v).bay b = faultedBay (v.bay b) ∧ Pending (.bay b .fault) (testPaths v) := by
  obtain ⟨haway, hbay⟩ := freeSlot_of_not_waiting (b := b) (s := becomeFaulted b (bridgedOver b v)) (by rwa [bridgedOver_waiting])
  obtain ⟨hend, hkeep⟩ := away_testPaths haway.recompute
  have hpend : Pending (.bay b .fault) (becomeFaulted b (bridgedOver b v)) := by
    rw [becomeFaulted_eq]
    exact pending_raise_self _ _
  rw [testPaths_faulted hs hp ht hc]
  refine ⟨hend, ?_, (((works_freeSlot _).trans (works_recompute _)).trans (works_testPaths _)).grows.pending hpend⟩
  rw [hkeep, recompute_bay, hbay, becomeFaulted_bay, bridgedOver_bay]

theorem works_takeTotal (total : Nat) (s : State) : Works (totalTaken total s) (takeTotal total s) := works_testPaths _

/-- R102: what a removal's opened path leaves. -/
theorem released_end {b : Bay} {v : State} (hs : v.supply.slot = some b) (hp : v.supply.phase = some .clearing)
    (ht : v.supply.totalHeld ≤ v.supply.ceiling) (hc : (v.bay b).cause ≠ some .disconnect) :
    ((testPaths v).bay b).state = .released ∧ (testPaths v).supply.slot = some b ∧ (testPaths v).supply.phase = some .opened ∧
      Pending (.bay b .readyToRemove) (testPaths v) ∧ Fresh (testPaths v) := by
  have hslots := sameSlots_recompute (releaseBay b (bridgedOver b v))
  have hr := releaseBay_supply b (bridgedOver b v)
  rw [testPaths_released hs hp ht hc]
  refine ⟨?_, ?_, ?_, ((works_recompute _).trans (works_refreshRefill _)).grows.pending (pending_raise_self _ _), (fresh_recompute _).refreshRefill⟩
  · rw [refreshRefill_bay, recompute_bay, releaseBay_bay]
    rfl
  · exact hslots.slot.trans (by rw [hr]; exact (sameSlots_bridgedOver b v).slot.trans hs)
  · exact hslots.phase.trans (by rw [hr])

/-- Settles O37: a total that no withdrawal waits for is noted; one that a CLEARING withdrawal waits for leaves it, or opens its path. -/
theorem pathOpensWhenTheTotalFits : Obligations.PathOpensWhenTheTotalFits := by
  refine ⟨fun s total ha hb hp hf => ?noted, fun s b total ha hl hs hp hf => ?tested⟩
  case noted =>
    intro m
    refine exec_claim_eq ha hf rfl ?_
    have hlaw : BridgeLaw (totalTaken total m) := ⟨hb.reserve, hb.source, hb.drain, hb.refill⟩
    show takeTotal total m = _
    rw [takeTotal_eq, testPaths_of_not_clearing (show (totalTaken total m).supply.phase ≠ some .clearing from hp), refreshRefill_of_law hlaw]
    rfl
  case tested =>
    have hv : ∀ c, (totalTaken total (s.take (.countedTotalHandover total))).bay c = s.bay c := fun c =>
      (totalTaken_bay total _ c).trans (State.take_bay _ s c)
    have hw := works_takeTotal total (s.take (.countedTotalHandover total))
    have hexec : exec (.countedTotalHandover total) s = .next (finish (testPaths (totalTaken total (s.take (.countedTotalHandover total))))) :=
      exec_claim_eq ha hf rfl rfl
    have htotal : (testPaths (totalTaken total (s.take (.countedTotalHandover total)))).supply.totalHeld = total := hw.inputs.total
    have hpower : PowerJudged s.power (finish (testPaths (totalTaken total (s.take (.countedTotalHandover total))))) := hw.judged
    have hlast : lastSource b s = true → s.system.state = .starting ∨ s.system.state = .run →
        total ≤ s.supply.ceiling → (testPaths (totalTaken total (s.take (.countedTotalHandover total)))).supply.carrying = true :=
      fun hlast ho ht => by
        refine carrying_opened (b := b) hs hp ht ?_ ((systemOn_iff (totalTaken total (s.take _))).mpr ho)
        unfold lastSource at hlast ⊢
        rw [hv]
        exact hlast
    generalize hvdef : totalTaken total (s.take (.countedTotalHandover total)) = v at *
    have hvs : v.supply = { s.supply with totalHeld := total } := by rw [← hvdef]; rfl
    have hslot : v.supply.slot = some b := by rw [hvs]; exact hs
    have hphase : v.supply.phase = some .clearing := by rw [hvs]; exact hp
    have hwait : v.supply.waiting ≠ some b := by rw [hvs]; exact hl.holder_not_waiting hs
    refine ⟨⟨_, hexec, hpower⟩, fun ht => ?_, fun ht hc => ?_, fun ht hc => ?_⟩
    · have habove : v.supply.ceiling < v.supply.totalHeld := by rw [hvs]; exact ht
      have hstill := testPaths_of_above habove
      refine ⟨_, hexec, htotal, ?_, ?_⟩
      · rw [hstill]; exact hphase
      · rw [finish_bay, hstill, refreshRefill_bay, hv]
    · have hwithin : v.supply.totalHeld ≤ v.supply.ceiling := by rw [hvs]; exact ht
      obtain ⟨hstate, hslot', hphase', hpend, hfresh⟩ := released_end hslot hphase hwithin (by rw [hv]; exact hc)
      exact ⟨_, hexec, htotal, by rw [finish_bay]; exact hstate, hslot', hphase', hpend,
        (supplyFollows_finish _).mpr (supplyFollows_of_fresh hfresh), fun h1 h2 => hlast h1 h2 ht⟩
    · have hwithin : v.supply.totalHeld ≤ v.supply.ceiling := by rw [hvs]; exact ht
      have hcause : (v.bay b).cause = some .disconnect := by rw [hv]; exact hc
      obtain ⟨haway, hbay, hpend⟩ := away_faulted hslot hphase hwithin hcause hwait
      refine ⟨_, hexec, htotal, by rw [finish_bay, hbay]; rfl, haway.slot, hpend, fun h1 h2 => hlast h1 h2 ht, slotPassesOn_of_turn hl fun _ hother => ?_⟩
      have hturn := turnTaken_faulted hslot hphase hwithin hcause (by rw [hvs]; exact hother)
      rw [hv, hvs] at hturn
      exact turnTaken_finish hturn

end Sys2Proof.Machine
end

section
/-!
PROOFS. A bay that goes out of the supply: what becomes of the slot, of the waiting bay, of the withdrawal of the other bay and of the bridge
(R97, R103, R105).
-/
namespace Sys2Proof.Machine

/-! ### A bay that is out -/

/-- The record of the bay has left the supply, in `v`; the rest of what the supply is worked out from stands as in `s`. -/
structure Out (b : Bay) (s v : State) : Prop where
  gone : (v.bay b).supplies = false
  other : v.bay (otherBay b) = s.bay (otherBay b)
  supply : v.supply = s.supply
  system : v.system = s.system
  store : v.store = s.store

theorem out_becomeFaulted (b : Bay) (s : State) : Out b s (becomeFaulted b s) :=
  ⟨by rw [becomeFaulted_bay]; rfl, becomeFaulted_other b s, becomeFaulted_supply b s, (works_becomeFaulted b s).system,
    (works_becomeFaulted b s).store⟩

theorem Out.trans {b : Bay} {s s' v : State} (h : Out b s' v) (hb : s'.bay (otherBay b) = s.bay (otherBay b)) (hs : s'.supply = s.supply)
    (hsys : s'.system = s.system) (hst : s'.store = s.store) : Out b s v :=
  ⟨h.gone, h.other.trans hb, h.supply.trans hs, h.system.trans hsys, h.store.trans hst⟩

theorem Out.not_online {b : Bay} {s v : State} (h : Out b s v) : (v.bay b).state ≠ .online := fun ho => by
  have := (supplies_iff (v.bay b)).mpr (.inl ho)
  rw [h.gone] at this
  cases this

/-- R97: what the bay held of the slot is free. -/
theorem away_freeSlotOf {b : Bay} {v : State} (hw : v.supply.waiting ≠ some b) :
    Away b (freeSlotOf b v) ∧ (freeSlotOf b v).bay b = v.bay b := by
  unfold freeSlotOf
  split
  · exact freeSlot_of_not_waiting hw
  next hs => exact ⟨⟨hs, hw⟩, rfl⟩

theorem freeSlotOf_bay_of_not_waiting {b c : Bay} {v : State} (hw : v.supply.waiting ≠ some c) : (freeSlotOf b v).bay c = v.bay c := by
  unfold freeSlotOf
  split
  · exact (freeSlot_of_not_waiting hw).2
  · rfl

theorem freeSlotOf_of_other {b : Bay} {v : State} (hs : v.supply.slot ≠ some b) : freeSlotOf b v = v := if_neg hs

theorem freeSlotOf_of_held {b : Bay} {v : State} (hs : v.supply.slot = some b) : freeSlotOf b v = freeSlot v := if_pos hs

theorem stopWaiting_ne (b : Bay) (v : State) : (stopWaiting b v).supply.waiting ≠ some b := fun h => (waiting_of_stopWaiting h).2 rfl

theorem stopWaiting_of_not {b : Bay} {v : State} (h : v.supply.waiting ≠ some b) : stopWaiting b v = v := if_neg h

theorem Away.answerLoss {b : Bay} {v : State} (h : Away b v) : Away b (answerLoss v) ∧ (answerLoss v).bay b = v.bay b := by
  have hslots := sameSlots_answerNoSource v
  have hphase := sameButPhase_retest (answerNoSource v)
  have hre : Away b (retest (answerNoSource v)) :=
    ⟨by rw [hphase.slot, hslots.slot]; exact h.slot, by rw [hphase.waiting, hslots.waiting]; exact h.waiting⟩
  obtain ⟨hend, hbay⟩ := away_settle hre
  exact ⟨hend, hbay.trans ((retest_bay _ b).trans (answerNoSource_bay v b))⟩

theorem away_loseBay (b : Bay) (v : State) : Away b (loseBay b v) ∧ (loseBay b v).bay b = v.bay b := by
  obtain ⟨haway, hbay⟩ := away_freeSlotOf (stopWaiting_ne b v)
  obtain ⟨hend, hkeep⟩ := haway.answerLoss
  exact ⟨hend, hkeep.trans (hbay.trans (stopWaiting_bay b v b))⟩

theorem fresh_answerLoss (v : State) : Fresh (answerLoss v) := fresh_settle _

theorem fresh_loseBay (b : Bay) (v : State) : Fresh (loseBay b v) := fresh_answerLoss _

/-- R103: the slot that a bay out of the supply leaves passes to the bay that waits. -/
theorem turnStarted_out {b : Bay} {s v : State} (h : Out b s v) (hs : s.supply.slot = some b) (hw : s.supply.waiting = some (otherBay b)) :
    TurnStarted (otherBay b) (s.bay (otherBay b)) s.supply.waitReason (freeSlotOf b v) := by
  have hturn := turnStarted_freeSlot (s := v) (by rw [h.supply]; exact hw)
  rw [h.other, h.supply] at hturn
  rwa [freeSlotOf_of_held (by rw [h.supply]; exact hs)]

theorem TurnStarted.answerLoss {b : Bay} {r : BayRec} {x : Option WaitReason} {v : State} (h : TurnStarted b r x v) :
    TurnTaken b r x (answerLoss v) := by
  have hn := h.congr (works_answerNoSource v) (answerNoSource_bay v) (sameSlots_answerNoSource v)
  rw [Sys2Proof.Machine.answerLoss, hn.retest]
  exact hn.settle

theorem turnTaken_loseBay {b : Bay} {s v : State} (h : Out b s v) (hs : s.supply.slot = some b) (hw : s.supply.waiting = some (otherBay b)) :
    TurnTaken (otherBay b) (s.bay (otherBay b)) s.supply.waitReason (loseBay b v) := by
  have hn : v.supply.waiting ≠ some b := by
    rw [h.supply, hw]
    exact fun hx => otherBay_ne b (Option.some.inj hx)
  rw [loseBay, stopWaiting_of_not hn]
  exact (turnStarted_out h hs hw).answerLoss

/-- R105: with the other bay out as well and no inlet, nothing supplies. -/
theorem noSourceAnswered_loseBay {b : Bay} {s v : State} (hl : WithdrawalLaw s) (h : Out b s v)
    (ho : (s.bay (otherBay b)).state ≠ .online) (hw : (s.bay (otherBay b)).state ≠ .withdrawing) (hi : s.supply.inletPresent = false) :
    NoSourceAnswered s (finish (loseBay b v)) := by
  have hwait : (stopWaiting b v).supply.waiting ≠ some (otherBay b) := fun hx => by
    have hx := (waiting_of_stopWaiting hx).1
    rw [h.supply] at hx
    exact ho (hl.waiting _ hx).2
  have hbay : (freeSlotOf b (stopWaiting b v)).bay b = v.bay b :=
    (freeSlotOf_bay_of_not_waiting (stopWaiting_ne b v)).trans (stopWaiting_bay b v b)
  have hother : (freeSlotOf b (stopWaiting b v)).bay (otherBay b) = s.bay (otherBay b) :=
    (freeSlotOf_bay_of_not_waiting hwait).trans ((stopWaiting_bay b v _).trans h.other)
  have hworks := (works_stopWaiting b v).trans (works_freeSlotOf b (stopWaiting b v))
  have hcell : SameCell (stopWaiting b v).supply (freeSlotOf b (stopWaiting b v)).supply :=
    ite_cases (p := fun t : State => SameCell (stopWaiting b v).supply t.supply) (fun _ => sameCell_freeSlot _) {}
  refine noSourceAnswered_answerLoss ?_ (hworks.system.trans h.system) (hworks.inputs.reserve.trans (by rw [h.supply])) ?_
  · have hsup : (s.bay (otherBay b)).supplies = false := by
      rw [← Bool.not_eq_true, supplies_iff]
      exact fun hx => hx.elim ho hw
    rw [someSource_eq b, hbay, hother, h.gone, hsup, hworks.inputs.inlet, h.supply, hi]
    rfl
  · rw [hcell.carrying, (sameCell_stopWaiting b v).carrying, h.supply]

/-- The state with the bay out of the supply, as the statements write it. -/
theorem faultedAt_bay (b : Bay) (s : State) : (s.setBay b { s.bay b with state := .faulted }).bay b = { s.bay b with state := .faulted } :=
  State.setBay_bay b _ s

/-- A withdrawal of the other bay, behind a bay that has gone out and does not hold the slot. -/
theorem Out.under {b : Bay} {s v w : State} {cause : Cause} (h : Out b s v) (hu : Under (otherBay b) cause s)
    (hw : w = v ∨ w = stopWaiting b v) : Under (otherBay b) cause w ∧ w.supply.phase = s.supply.phase := by
  have hv : Under (otherBay b) cause v := hu.congr h.other (by rw [h.supply]; exact {})
  rcases hw with rfl | rfl
  · exact ⟨hv, by rw [h.supply]⟩
  · refine ⟨⟨by rw [stopWaiting_bay]; exact hv.state, by rw [stopWaiting_bay]; exact hv.cause, (stopWaiting_slot b v).trans hv.slot,
      by rw [stopWaiting_phase]; exact hv.phase, fun hx => hv.waiting (waiting_of_stopWaiting hx).1⟩, ?_⟩
    rw [stopWaiting_phase, h.supply]

/-- R99, R100, R105: the loss has the withdrawal of the other bay tested in both phases. -/
theorem withdrawalTested_loseBay {b : Bay} {s v : State} (hl : WithdrawalLaw s) (h : Out b s v) (hs : s.supply.slot ≠ some b) :
    WithdrawalTested true (s.setBay b { s.bay b with state := .faulted }) (loseBay b v) := by
  have hslot : (stopWaiting b v).supply.slot ≠ some b := by rw [stopWaiting_slot, h.supply]; exact hs
  rw [loseBay, freeSlotOf_of_other hslot]
  refine withdrawalTested_settle (again := true) fun c cause hc hcause hp _ => ?_
  rw [State.setBay_supply] at hc hp
  have hcb : c = otherBay b := eq_otherBay fun hcb => hs (hcb ▸ hc)
  subst hcb
  rw [State.setBay_otherBay] at hcause
  obtain ⟨hunder, hphase⟩ := h.under (hl.under hc hcause hp) (.inr rfl)
  have hslots := sameSlots_answerNoSource (stopWaiting b v)
  have hbay := answerNoSource_bay (stopWaiting b v)
  have hworks := (works_stopWaiting b v).trans (works_answerNoSource (stopWaiting b v))
  refine ⟨hunder.congr (hbay _) hslots, (hslots.phase.trans hphase).trans (by rw [State.setBay_supply]), ?_⟩
  have htest : SameTest (otherBay b) (s.setBay b { s.bay b with state := .faulted }) (answerNoSource (stopWaiting b v)) := by
    refine ⟨?_, ?_, ?_, ?_, ?_⟩
    · rw [otherBay_otherBay, faultedAt_bay, hbay, stopWaiting_bay]
      exact iff_of_false h.not_online (by simp)
    · rw [hworks.inputs.inlet, h.supply, State.setBay_supply]
    · rw [hworks.inputs.reserve, h.supply, State.setBay_supply]
    · rw [hworks.system, h.system, State.setBay_system]
    · rw [hworks.store, h.store, State.setBay_store]
  exact htest.bridgeBlocks.symm

/-- R103, R105: the answer to a loss, whatever the power makes of it. -/
theorem lossAnswered_loseBay {b : Bay} {s v : State} (hl : WithdrawalLaw s) (h : Out b s v) {t : State} (hp : PowerJudged s.power t)
    (hn : NoSourceAnswered s (finish (loseBay b v)) → NoSourceAnswered s t)
    (ht : ∀ u, WithdrawalTested true u (loseBay b v) → WithdrawalTested true u t) : LossAnswered b s t :=
  ⟨hp, fun ho hw hi => hn (noSourceAnswered_loseBay hl h ho hw hi), fun hs => ht _ (withdrawalTested_loseBay hl h hs)⟩

theorem lossAnswered_finish {b : Bay} {s v : State} (hl : WithdrawalLaw s) (h : Out b s v) (hp : v.power = s.power) :
    LossAnswered b s (finish (loseBay b v)) :=
  lossAnswered_loseBay hl h (hp ▸ (works_loseBay b v).judged) id fun _ => (withdrawalTested_finish _ _ _).mpr

/-! ### A bay out of the way that supplied nothing -/

/-- The end of an event that has taken a bay out of the way without a loss. -/
theorem away_leave {b : Bay} {v : State} (hw : v.supply.waiting ≠ some b) :
    Away b (settle (freeSlotOf b v)) ∧ (settle (freeSlotOf b v)).bay b = v.bay b := by
  obtain ⟨haway, hbay⟩ := away_freeSlotOf hw
  obtain ⟨hend, hkeep⟩ := away_settle haway
  exact ⟨hend, hkeep.trans hbay⟩

theorem turnTaken_leave {b : Bay} {s v : State} (h : Out b s v) (hs : s.supply.slot = some b) (hw : s.supply.waiting = some (otherBay b)) :
    TurnTaken (otherBay b) (s.bay (otherBay b)) s.supply.waitReason (settle (freeSlotOf b v)) := (turnStarted_out h hs hw).settle

theorem works_leave (b : Bay) (v : State) : Works v (settle (freeSlotOf b v)) := (works_freeSlotOf b v).trans (works_settle _)

/-- R99, R100: an event that is none of those that test a withdrawal leaves that of the other bay as it was, but for its path. -/
theorem untested_leave {b : Bay} {s v : State} {cause : Cause} (hl : WithdrawalLaw s) (h : Out b s v) (hs : s.supply.slot = some (otherBay b))
    (hc : (s.bay (otherBay b)).cause = some cause) :
    (s.supply.phase = some .blocked → HeldBlocked (otherBay b) (settle (freeSlotOf b v))) ∧
    (s.supply.phase = some .clearing →
      OnItsWay (otherBay b) cause (settle (freeSlotOf b v)) ∧ ¬HeldBlocked (otherBay b) (settle (freeSlotOf b v))) := by
  have hslot : v.supply.slot ≠ some b := by
    rw [h.supply, hs]
    exact fun hx => otherBay_ne b (Option.some.inj hx)
  rw [freeSlotOf_of_other hslot]
  refine ⟨fun hp => ?_, fun hp => ?_⟩
  · obtain ⟨hunder, hphase⟩ := h.under (hl.under hs hc (by simp [hp])) (.inl rfl)
    exact (heldBlocked_settle hunder.waiting).mpr (hunder.heldBlocked.mpr (hphase.trans hp))
  · obtain ⟨hunder, hphase⟩ := h.under (hl.under hs hc (by simp [hp])) (.inl rfl)
    refine ⟨onItsWay_settle hunder, fun hh => ?_⟩
    have := hunder.heldBlocked.mp ((heldBlocked_settle hunder.waiting).mp hh)
    rw [hphase, hp] at this
    cases this

end Sys2Proof.Machine
end

section
/-!
PROOFS. Contact made and contact lost: O38.
-/
namespace Sys2Proof.Machine

/-! ### A part whose start is over -/

/-- The part with another power. -/
def empowered (p : Power) (s : State) : State := { s with power := p }

theorem endStart_cases (s : State) : endStart s = s ∨
    (endStart s = empowered .supplied s ∧ s.power = .gained ∧ s.bayA.contact = .lost ∧ s.bayB.contact = .lost ∧ sourceWaits s = false) := by
  unfold endStart
  split
  next h => exact .inr ⟨rfl, h⟩
  · exact .inl rfl

@[simp] theorem empowered_bay (p : Power) (s : State) (b : Bay) : (empowered p s).bay b = s.bay b := by cases b <;> rfl

/-- What the power has no part in. -/
structure SameButPower (s t : State) : Prop where
  bay : ∀ b, t.bay b = s.bay b
  supply : t.supply = s.supply
  system : t.system = s.system
  store : t.store = s.store
  attention : t.attention = s.attention
  handed : t.handed = s.handed

theorem sameButPower_endStart (s : State) : SameButPower s (endStart s) := by
  rcases endStart_cases s with h | ⟨h, -⟩ <;> rw [h]
  · exact ⟨fun _ => rfl, rfl, rfl, rfl, rfl, rfl⟩
  · exact ⟨empowered_bay _ s, rfl, rfl, rfl, rfl, rfl⟩

theorem SameButPower.pending {s t : State} (h : SameButPower s t) (a : Attention) : Pending a t ↔ Pending a s := by
  unfold Pending
  rw [h.attention]

theorem SameButPower.onItsWay {s t : State} (h : SameButPower s t) (b : Bay) (cause : Cause) : OnItsWay b cause t ↔ OnItsWay b cause s := by
  unfold OnItsWay
  rw [h.bay, h.supply, h.pending, h.pending]

theorem SameButPower.heldBlocked {s t : State} (h : SameButPower s t) (b : Bay) : HeldBlocked b t ↔ HeldBlocked b s := by
  unfold HeldBlocked
  rw [h.bay, h.supply]

theorem SameButPower.bridgeBlocks {s t : State} (h : SameButPower s t) (b : Bay) : BridgeBlocks b t ↔ BridgeBlocks b s := by
  unfold BridgeBlocks
  rw [h.bay, h.supply, h.system, h.store]

theorem SameButPower.withdrawalTested {s t : State} (h : SameButPower s t) {again : Bool} {u : State} (ht : WithdrawalTested again u s) :
    WithdrawalTested again u t := by
  unfold WithdrawalTested
  simp only [h.onItsWay, h.heldBlocked, h.pending]
  exact ht

theorem SameButPower.withdrawalStarted {s t : State} (h : SameButPower s t) {b : Bay} {cause : Cause} (ht : WithdrawalStarted b cause s s) :
    WithdrawalStarted b cause t t := by
  unfold WithdrawalStarted
  rw [h.onItsWay, h.heldBlocked, h.bridgeBlocks, h.pending]
  exact ht

theorem SameButPower.turnTaken {s t : State} (h : SameButPower s t) {b : Bay} {r : BayRec} {x : Option WaitReason} (ht : TurnTaken b r x s) :
    TurnTaken b r x t := by
  unfold TurnTaken at ht ⊢
  cases hc : turnCause r x with
  | some cause =>
    rw [hc] at ht
    exact h.withdrawalStarted ht
  | none =>
    rw [hc] at ht
    exact ⟨(h.bay b).trans ht.1, by rw [h.supply]; exact ht.2.1, by rw [h.supply]; exact ht.2.2⟩

theorem SameButPower.noSourceAnswered {u s t : State} (h : SameButPower s t) (ht : NoSourceAnswered u (finish s)) :
    NoSourceAnswered u (finish t) := by
  have hp : ∀ a, Pending a (finish t) ↔ Pending a (finish s) := h.pending
  have hsup : (finish t).supply = (finish s).supply := by rw [finish_supply, finish_supply, h.supply]
  have hpath : (finish t).pins.bridgePath = (finish s).pins.bridgePath := by
    show t.supply.carrying = s.supply.carrying
    rw [h.supply]
  have hhand : (finish t).handed = (finish s).handed := h.handed
  unfold NoSourceAnswered
  rw [hp, hp, hsup, hpath, hhand]
  exact ht

theorem SameButPower.supplyFollows {s t : State} (h : SameButPower s t) (ht : SupplyFollows s) : SupplyFollows t := by
  have hsum : sourcesAdd t = sourcesAdd s := by
    unfold sourcesAdd
    rw [show t.bayA = s.bayA from h.bay .bayA, show t.bayB = s.bayB from h.bay .bayB, h.supply, h.store]
  constructor
  · rw [hsum, h.supply, h.system]; exact ht.bridge
  · rw [hsum, h.supply]; exact ht.sum
  · rw [h.supply, h.store]; exact ht.ceiling

/-- R112: the end of a part's start is judged as what went before it, and by R112 where the last pack has gone. -/
theorem powerJudged_endStart (s : State) : PowerJudged s.power (finish (endStart s)) := by
  rcases endStart_cases s with h | ⟨h, hp, hA, hB, hw⟩
  · rw [h]
    exact powerJudged_finish s
  · have hj := powerJudged_finish (empowered .supplied s)
    rw [h, hp]
    refine ⟨fun hx => (by cases hx), fun hx => (by cases hx), fun _ => ⟨fun hf _ => (hj.1 rfl).1 hf, fun _ hx => ?_⟩⟩
    rcases hx with hx | hx | hx
    · have : s.bayA.contact = .made := hx
      rw [hA] at this
      cases this
    · have : s.bayB.contact = .made := hx
      rw [hB] at this
      cases this
    · have hs := (sourceWaits_iff s).mpr hx
      rw [hw] at hs
      cases hs

/-- R112, R199: the loss of the last pack ends the start of a part that nothing feeds. -/
theorem withoutSupply_endStart {s : State} (hp : s.power = .gained) (hf : ¬Fed (finish (endStart s))) (hw : ¬SourceWaits (finish (endStart s)))
    (hA : (finish (endStart s)).bayA.contact = .lost) (hB : (finish (endStart s)).bayB.contact = .lost) : WithoutSupply (finish (endStart s)) := by
  have hsame := sameButPower_endStart s
  have hA' : s.bayA.contact = .lost := by rw [← show (endStart s).bayA = s.bayA from hsame.bay .bayA]; exact hA
  have hB' : s.bayB.contact = .lost := by rw [← show (endStart s).bayB = s.bayB from hsame.bay .bayB]; exact hB
  have hw' : sourceWaits s = false := by
    rw [← Bool.not_eq_true]
    refine fun hx => hw ?_
    have := (sourceWaits_iff s).mp hx
    unfold SourceWaits at this ⊢
    rw [finish_handed, hsame.handed]
    exact this
  have he : endStart s = empowered .supplied s := if_pos ⟨hp, hA', hB', hw'⟩
  rw [he] at hf ⊢
  exact ((powerJudged_finish (empowered .supplied s)).1 rfl).2 hf

/-! ### Contact -/

theorem makeContact_made {b : Bay} {s : State} (h : (s.bay b).contact = .made) : makeContact b s = s := if_pos h

theorem makeContact_lost {b : Bay} {s : State} (h : (s.bay b).contact = .lost) :
    makeContact b s = (s.setBay b (insertedBay (s.bay b))).raise (.bay b .inserted) := if_neg (by simp [h])

theorem loseContact_lost {b : Bay} {s : State} (h : (s.bay b).contact = .lost) : loseContact b s = s := if_pos h

/-- R67: the bay is empty and the reason told, nothing following yet. -/
def emptied (b : Bay) (x : BayReason) (s : State) : State := (s.modifyBay b emptiedBay).raise (.bay b x)

theorem loseContact_supplying {b : Bay} {s : State} (h : (s.bay b).contact = .made) (hs : (s.bay b).supplies = true) :
    loseContact b s = endStart (loseBay b (emptied b .lost s)) := by
  unfold loseContact
  rw [if_neg (by simp [h])]
  dsimp only
  rw [if_pos hs]
  rfl

theorem loseContact_outside {b : Bay} {s : State} (h : (s.bay b).contact = .made) (hs : (s.bay b).supplies = false) :
    loseContact b s = endStart (settle (freeSlotOf b (emptied b .removed s))) := by
  unfold loseContact
  rw [if_neg (by simp [h])]
  dsimp only
  rw [if_neg (by simp [hs])]
  rfl

theorem emptied_bay (b : Bay) (x : BayReason) (s : State) : (emptied b x s).bay b = emptiedBay (s.bay b) := by
  rw [emptied, State.raise_bay, State.modifyBay_bay]

theorem out_emptied (b : Bay) (x : BayReason) (c : Instr) (s : State) : Out b s (emptied b x (s.take c)) := by
  refine ⟨?_, ?_, ?_, ?_, ?_⟩
  · rw [emptied_bay]; rfl
  · rw [emptied, State.raise_bay, State.modifyBay_otherBay, State.take_bay]
  · rw [emptied, State.raise_supply, State.modifyBay_supply]; rfl
  · rw [emptied, State.raise_system, State.modifyBay_system]; rfl
  · rw [emptied, State.raise_store, State.modifyBay_store]; rfl

theorem power_emptied (b : Bay) (x : BayReason) (c : Instr) (s : State) : (emptied b x (s.take c)).power = s.power := by
  rw [emptied, State.raise_power, State.modifyBay_power]
  rfl

/-- What both kinds of loss leave, whatever the power makes of it. -/
structure ContactLost (b : Bay) (s u : State) : Prop where
  away : Away b u
  bay : u.bay b = emptiedBay (s.bay b)
  fresh : Fresh u
  power : u.power = s.power
  turn : s.supply.slot = some b → s.supply.waiting = some (otherBay b) →
    TurnTaken (otherBay b) (s.bay (otherBay b)) s.supply.waitReason u

theorem contactLost_supplying (b : Bay) (c : Instr) (s : State) : ContactLost b s (loseBay b (emptied b .lost (s.take c))) := by
  obtain ⟨haway, hbay⟩ := away_loseBay b (emptied b .lost (s.take c))
  exact ⟨haway, by rw [hbay, emptied_bay, State.take_bay], fresh_loseBay b _, (works_loseBay b _).power.trans (power_emptied b _ c s),
    turnTaken_loseBay (out_emptied b .lost c s)⟩

theorem contactLost_outside {b : Bay} {s : State} (hl : WithdrawalLaw s) (hb : (s.bay b).state ≠ .online) (c : Instr) :
    ContactLost b s (settle (freeSlotOf b (emptied b .removed (s.take c)))) := by
  have hout := out_emptied b .removed c s
  have hw : (emptied b .removed (s.take c)).supply.waiting ≠ some b := by rw [hout.supply]; exact fun hx => hb (hl.waiting b hx).2
  obtain ⟨haway, hbay⟩ := away_leave hw
  exact ⟨haway, by rw [hbay, emptied_bay, State.take_bay], fresh_settle _, (works_leave b _).power.trans (power_emptied b _ c s),
    turnTaken_leave hout⟩

/-- Settles O38: contact made by its equation; contact lost by what a bay out of the way leaves, the end of the part's start behind it. -/
theorem contactMakesAndLosesABay : Obligations.ContactMakesAndLosesABay := by
  intro s b ha
  refine ⟨fun hf => ⟨fun hc => ?made, fun hc => ?again⟩, fun hf => ⟨fun hc => ?nothing, fun hc hl => ?lost⟩⟩
  case made =>
    intro m r
    exact exec_claim_eq ha hf rfl ((makeContact_lost (s := m) (by rw [State.take_bay]; exact hc)).trans (by rw [State.take_bay]; rfl))
  case again => exact exec_claim_eq ha hf rfl (makeContact_made (by rw [State.take_bay]; exact hc))
  case nothing => exact exec_claim_eq ha hf rfl (loseContact_lost (by rw [State.take_bay]; exact hc))
  case lost =>
    intro r
    have hmade : ((s.take (.contactLoss b)).bay b).contact = .made := by rw [State.take_bay]; exact hc
    have hrest : ∀ u, ContactLost b s u → (finish (endStart u)).bay b = r ∧ (finish (endStart u)).supply.slot ≠ some b ∧
        (finish (endStart u)).supply.waiting ≠ some b ∧ SupplyFollows (finish (endStart u)) ∧ PowerJudged s.power (finish (endStart u)) ∧
        SlotPassesOn b s (finish (endStart u)) ∧
        (s.power = .gained → ¬Fed (finish (endStart u)) → ¬SourceWaits (finish (endStart u)) → (finish (endStart u)).bayA.contact = .lost →
          (finish (endStart u)).bayB.contact = .lost → WithoutSupply (finish (endStart u))) := fun u hu => by
      have hsame := sameButPower_endStart u
      refine ⟨by rw [finish_bay, hsame.bay, hu.bay]; rfl, ?_, ?_, ?_, hu.power ▸ powerJudged_endStart u, ?_,
        fun hp => withoutSupply_endStart (hu.power.trans hp)⟩
      · rw [finish_supply, hsame.supply]; exact hu.away.slot
      · rw [finish_supply, hsame.supply]; exact hu.away.waiting
      · exact (supplyFollows_finish _).mpr (hsame.supplyFollows (supplyFollows_of_fresh hu.fresh))
      · exact slotPassesOn_of_turn hl fun hs hw => turnTaken_finish (hsame.turnTaken (hu.turn hs hw))
    by_cases hsup : (s.bay b).supplies = true
    · have hu := contactLost_supplying b (.contactLoss b) s
      have hsame := sameButPower_endStart (loseBay b (emptied b .lost (s.take (.contactLoss b))))
      have hout := out_emptied b .lost (.contactLoss b) s
      have hon := (supplies_iff (s.bay b)).mp hsup
      obtain ⟨h1, h2, h3, h4, h5, h6, h7⟩ := hrest _ hu
      refine ⟨_, exec_claim_eq ha hf rfl (loseContact_supplying hmade (by rw [State.take_bay]; exact hsup)), h1, h2, h3, h4, h5, h6, h7,
        fun _ => ⟨?_, ?_⟩, fun hno hnw => absurd hon (by simp [hno, hnw])⟩
      · exact (hsame.pending _).mpr ((works_loseBay b _).grows.pending (pending_raise_self _ _))
      · exact lossAnswered_loseBay hl hout h5 hsame.noSourceAnswered
          fun u hu => (withdrawalTested_finish _ _ _).mpr (hsame.withdrawalTested hu)
    · have hoff : (s.bay b).supplies = false := by simpa using hsup
      have hnot := mt (supplies_iff (s.bay b)).mpr hsup
      have hu := contactLost_outside hl (fun hx => hnot (.inl hx)) (.contactLoss b)
      have hsame := sameButPower_endStart (settle (freeSlotOf b (emptied b .removed (s.take (.contactLoss b)))))
      have hout := out_emptied b .removed (.contactLoss b) s
      obtain ⟨h1, h2, h3, h4, h5, h6, h7⟩ := hrest _ hu
      refine ⟨_, exec_claim_eq ha hf rfl (loseContact_outside hmade (by rw [State.take_bay]; exact hoff)), h1, h2, h3, h4, h5, h6, h7,
        fun hx => absurd hx hnot, fun _ _ => ⟨?_, fun cause hs hcause => ?_⟩⟩
      · exact (hsame.pending _).mpr ((works_leave b _).grows.pending (pending_raise_self _ _))
      · obtain ⟨hblocked, hclearing⟩ := untested_leave hl hout hs hcause
        refine ⟨fun hp => ?_, fun hp => ?_⟩
        · exact (heldBlocked_finish _ _).mpr ((hsame.heldBlocked _).mpr (hblocked hp))
        · exact ⟨(onItsWay_finish _ _ _).mpr ((hsame.onItsWay _ _).mpr (hclearing hp).1),
            fun hh => (hclearing hp).2 ((hsame.heldBlocked _).mp ((heldBlocked_finish _ _).mp hh))⟩

end Sys2Proof.Machine
end

section
/-!
PROOFS. The condition queries and the answers that are missed or bad: O39.
-/
namespace Sys2Proof.Machine

/-! ### A query and its byte -/

theorem link_finish (s : State) (b : Bay) : (finish s).pins.link b = if (s.bay b).answerWindow = none then none else some 0xC7 := by
  rw [(outputsFollow_finish s).links b, finish_bay]

theorem link_queried (b : Bay) (s : State) {n : Option Nat} :
    (finish (s.setBay b { s.bay b with queryTimer := n, answerWindow := some (ms 10) })).pins.link b = some 0xC7 ∧
    (OutputsFollow s → (finish (s.setBay b { s.bay b with queryTimer := n, answerWindow := some (ms 10) })).pins.link (otherBay b) =
      s.pins.link (otherBay b)) := by
  refine ⟨?_, fun ho => ?_⟩
  · rw [link_finish, State.setBay_bay]
    rfl
  · rw [link_finish, State.setBay_otherBay, ho.links]

/-! ### A miss -/

/-- The record of a bay whose answer has been missed, before its link step moves. -/
def unheardBay (r : BayRec) : BayRec := { r with candidate := none, answerWindow := none }

theorem failAnswer_eq (b : Bay) (s : State) : failAnswer b s =
    if (missStep (unheardBay (s.bay b))).link = some .outOfStep ∧ (s.bay b).link ≠ some .outOfStep then
      (s.setBay b (missStep (unheardBay (s.bay b)))).raise (.bay b .linkOut)
    else s.setBay b (missStep (unheardBay (s.bay b))) := rfl

/-- R73: a miss in a run of fewer than four. -/
theorem missStep_counts {r : BayRec} (h : r.link = some .seeking ∨ r.link = some .inStep) (hm : r.missRun < 3) :
    missStep r = { r with goodRun := 0, missRun := r.missRun + 1 } := by
  unfold missStep
  rcases h with h | h <;> rw [h] <;> exact if_neg (by omega)

/-- R73: the fourth miss of a run. -/
theorem missStep_out {r : BayRec} (h : r.link = some .seeking ∨ r.link = some .inStep) (hm : 3 ≤ r.missRun) :
    missStep r = { r with goodRun := 0, missRun := 4, link := some .outOfStep, stepTimer := some (sec 3) } := by
  unfold missStep
  rcases h with h | h <;> rw [h] <;> exact if_pos (by omega)

/-- R73: a miss out of step. -/
theorem missStep_stays {r : BayRec} (h : r.link = some .outOfStep ∨ r.link = some .lost) : missStep r = { r with goodRun := 0 } := by
  unfold missStep
  rcases h with h | h <;> rw [h]

theorem not_out_of_running {r : BayRec} (h : r.link = some .seeking ∨ r.link = some .inStep) : r.link ≠ some .outOfStep := by
  rcases h with h | h <;> rw [h] <;> decide

theorem failAnswer_counts {b : Bay} {s : State} (h : (s.bay b).link = some .seeking ∨ (s.bay b).link = some .inStep)
    (hm : (s.bay b).missRun < 3) : failAnswer b s =
      s.setBay b { s.bay b with candidate := none, answerWindow := none, goodRun := 0, missRun := (s.bay b).missRun + 1 } := by
  rw [failAnswer_eq, missStep_counts (r := unheardBay (s.bay b)) h hm, if_neg fun hc => not_out_of_running h hc.1]
  rfl

theorem failAnswer_out {b : Bay} {s : State} (h : (s.bay b).link = some .seeking ∨ (s.bay b).link = some .inStep)
    (hm : 3 ≤ (s.bay b).missRun) : failAnswer b s =
      (s.setBay b { s.bay b with candidate := none, answerWindow := none, goodRun := 0, missRun := 4, link := some .outOfStep,
                                 stepTimer := some (sec 3) }).raise (.bay b .linkOut) := by
  rw [failAnswer_eq, missStep_out (r := unheardBay (s.bay b)) h hm, if_pos ⟨rfl, not_out_of_running h⟩]
  rfl

theorem failAnswer_stays {b : Bay} {s : State} (h : (s.bay b).link = some .outOfStep ∨ (s.bay b).link = some .lost) :
    failAnswer b s = s.setBay b { s.bay b with candidate := none, answerWindow := none, goodRun := 0 } := by
  rw [failAnswer_eq, missStep_stays (r := unheardBay (s.bay b)) h, if_neg]
  · rfl
  · rintro ⟨hl, hn⟩
    exact hn hl

theorem missStep_window (r : BayRec) : (missStep r).answerWindow = r.answerWindow := by
  unfold missStep
  repeat' split
  all_goals rfl

theorem failAnswer_window (b : Bay) (s : State) : ((failAnswer b s).bay b).answerWindow = none := by
  rw [failAnswer_eq]
  split
  · rw [State.raise_bay, State.setBay_bay, missStep_window]
    rfl
  · rw [State.setBay_bay, missStep_window]
    rfl

/-- Settles O39: a query by its byte, a miss by what it makes of the link step, and a bad answer as a miss. -/
theorem queriesAndMissedAnswers : Obligations.QueriesAndMissedAnswers := by
  intro s b ha
  refine ⟨fun hq => ?query, fun hq => ?noQuery, fun hw => ?noWindow, ?shown, fun hw => ?missed⟩
  case query =>
    intro t
    obtain ⟨hown, hother⟩ := link_queried b s (n := some (ms 250))
    exact ⟨exec_own_eq ha rfl (if_pos (isSome_of_ne_none hq)), hown, hother⟩
  case noQuery => exact exec_own_nothing ha rfl (if_neg (not_some_of_none hq))
  case noWindow => exact exec_own_nothing ha rfl (if_neg (not_some_of_none hw))
  case shown =>
    refine ⟨_, exec_own_eq ha rfl rfl, ?_⟩
    rw [link_finish]
    refine if_pos ?_
    show ((if (s.bay b).answerWindow.isSome then failAnswer b s else s).bay b).answerWindow = none
    split
    · exact failAnswer_window b s
    next h => exact Option.not_isSome_iff_eq_none.mp h
  case missed =>
    intro r
    have hexec : ∀ u, failAnswer b s = u → exec (.missedAnswer b) s = .next (finish u) := fun u hu =>
      exec_own_eq ha rfl ((if_pos (isSome_of_ne_none hw)).trans hu)
    refine ⟨fun hl hm => hexec _ (failAnswer_counts hl hm), fun hl hm => hexec _ (failAnswer_out hl hm), fun hl => hexec _ (failAnswer_stays hl),
      fun bytes hlen hbad => ?_⟩
    have hbadAnswer : takeAnswer b bytes s = failAnswer b s := by
      unfold takeAnswer
      rw [if_neg (by simp [hw, hlen]), hbad]
    rw [hexec _ rfl]
    exact exec_own_eq ha rfl hbadAnswer

end Sys2Proof.Machine
end

section
/-!
PROOFS. The requests REPROBE and EJECT: O47.
-/
namespace Sys2Proof.Machine

theorem readBay_of_none {n : Nat} (h : 2 ≤ n) : readBay n = none := by
  unfold readBay
  rw [if_neg (by omega), if_neg (by omega)]

theorem reprobeRequest_of_bay (b : Bay) (s : State) : reprobeRequest (bayCode b) s =
    require ((s.bay b).state == .faulted && (s.bay b).contact == .made) .wrongState s (s.modifyBay b reprobedBay, okReply []) := by
  unfold reprobeRequest
  rw [readBay_bayCode]

theorem ejectRequest_of_bay (b : Bay) (s : State) : ejectRequest (bayCode b) s =
    require ((s.bay b).state == .online) .wrongState s
      (require s.supply.slot.isNone .busy s (settle (startWithdrawal b .eject s), okReply [])) := by
  unfold ejectRequest
  rw [readBay_bayCode]

theorem reprobeRequest_of_none {n : Nat} (h : 2 ≤ n) (s : State) : reprobeRequest n s = refuse .badArgument s := by
  unfold reprobeRequest
  rw [readBay_of_none h]

theorem ejectRequest_of_none {n : Nat} (h : 2 ≤ n) (s : State) : ejectRequest n s = refuse .badArgument s := by
  unfold ejectRequest
  rw [readBay_of_none h]

theorem reprobed_of_no_requalify {r : BayRec} (h : r.requalify = none) : reprobedBay r =
    { r with state := .probing, answerWindow := none, candidate := none, accepted := none, stepTimer := none, link := some .seeking,
             goodRun := 0, missRun := 0, probeTimer := some (sec 2), queryTimer := some (ms 100), counted := 0 } := by
  unfold reprobedBay BayRec.recount BayRec.countedNow
  simp only [h]

/-- R104: an opened path leaves the eject window of a bay that is not withdrawn by a DISCONNECT. -/
theorem ejectWindow_settle {b : Bay} {cause : Cause} {s : State} (h : Under b cause s) (hc : cause ≠ .disconnect) :
    ((settle s).bay b).ejectWindow = (s.bay b).ejectWindow := by
  have hv := h.recompute
  have hcause : ((recompute s).bay b).cause ≠ some .disconnect := by rw [hv.cause]; simpa using hc
  rw [settle_eq]
  by_cases hp : (recompute s).supply.phase = some .clearing
  · by_cases ht : (recompute s).supply.totalHeld ≤ (recompute s).supply.ceiling
    · rw [testPaths_released hv.slot hp ht hcause, refreshRefill_bay, recompute_bay, releaseBay_bay, bridgedOver_bay, recompute_bay]
      rfl
    · rw [testPaths_of_above (by omega), refreshRefill_bay, recompute_bay]
  · rw [testPaths_of_not_clearing hp, refreshRefill_bay, recompute_bay]

theorem withdrawalStarted_answered {b : Bay} {cause : Cause} {u s : State} (r : Reply) (h : WithdrawalStarted b cause u s) :
    WithdrawalStarted b cause u (answered r s) := by
  have hb : (answered r s).bay b = s.bay b := by cases b <;> rfl
  unfold WithdrawalStarted OnItsWay HeldBlocked at h ⊢
  rw [hb]
  exact h

/-- Settles O47: the requests by their tests in order, and an accepted EJECT as the start of a withdrawal. -/
theorem reprobeAndEject : Obligations.ReprobeAndEject := by
  refine ⟨fun s ha => ⟨fun n hn => ?noBay, fun b => ⟨fun h => ?wrong, fun hs hc hq => ?reprobes⟩⟩,
    fun s ha => ⟨fun n hn => ?noPack, fun b => ⟨fun h => ?notOnline, fun hs hslot => ?busy, fun hs hslot => ?ejects⟩⟩⟩
  case noBay => exact exec_plain_refused ha rfl (reprobeRequest_of_none hn s)
  case wrong =>
    refine exec_plain_refused ha rfl ((reprobeRequest_of_bay b s).trans (require_of_false ?_))
    rcases h with h | h <;> simp [h]
  case reprobes =>
    intro r
    have hr : s.modifyBay b reprobedBay = s.setBay b r := congrArg (fun x => s.setBay b x) (reprobed_of_no_requalify hq)
    refine exec_plain_eq ha rfl (((reprobeRequest_of_bay b s).trans (require_of_true ?_)).trans ?_)
    · simp [hs, hc]
    · rw [hr]
  case noPack => exact exec_plain_refused ha rfl (ejectRequest_of_none hn s)
  case notOnline => exact exec_plain_refused ha rfl ((ejectRequest_of_bay b s).trans (require_of_false (by simpa using h)))
  case busy =>
    refine exec_plain_refused ha rfl ((ejectRequest_of_bay b s).trans ((require_of_true (by simpa using hs)).trans (require_of_false ?_)))
    simpa [Option.isSome_iff_ne_none] using hslot
  case ejects =>
    have hb := begun_startWithdrawal b .eject s
    refine ⟨_, exec_plain_eq ha rfl ((ejectRequest_of_bay b s).trans ((require_of_true (by simpa using hs)).trans
      (require_of_true (by simpa using hslot)))), rfl, ?_, supplyFollows_answered _ _, withdrawalStarted_answered _
        (hb.settle.of_iff (bridgeBlocks_startWithdrawal b .eject s).symm)⟩
    have hbay : (answered (okReply []) (settle (startWithdrawal b .eject s))).bay b = (settle (startWithdrawal b .eject s)).bay b := by
      cases b <;> rfl
    rw [hbay, ejectWindow_settle hb.under (by decide), startWithdrawal_bay]
    rfl

end Sys2Proof.Machine
end

section
/-!
PROOFS. A bay made FAULTED out of the supply, a withdrawal cancelled, a pack relocked, and the bay's timers: O43.
-/
namespace Sys2Proof.Machine

/-! ### A change of one bay's record alone -/

/-- The record of the bay may differ, and what is raised; the rest stands as in `s`. -/
structure Aside (b : Bay) (s v : State) : Prop where
  other : v.bay (otherBay b) = s.bay (otherBay b)
  supply : v.supply = s.supply
  system : v.system = s.system
  store : v.store = s.store
  power : v.power = s.power

theorem aside_modifyBay (b : Bay) (f : BayRec → BayRec) (s : State) : Aside b s (s.modifyBay b f) :=
  ⟨State.modifyBay_otherBay b f s, State.modifyBay_supply b f s, State.modifyBay_system b f s, State.modifyBay_store b f s,
    State.modifyBay_power b f s⟩

theorem Aside.refl (b : Bay) (s : State) : Aside b s s := ⟨rfl, rfl, rfl, rfl, rfl⟩

theorem Aside.trans {b : Bay} {s v w : State} (h : Aside b s v) (k : Aside b v w) : Aside b s w :=
  ⟨k.other.trans h.other, k.supply.trans h.supply, k.system.trans h.system, k.store.trans h.store, k.power.trans h.power⟩

theorem aside_raise (b : Bay) (a : Attention) (s : State) : Aside b s (s.raise a) :=
  ⟨State.raise_bay a s _, rfl, rfl, rfl, rfl⟩

theorem aside_take (b : Bay) (c : Instr) (s : State) : Aside b s (s.take c) := ⟨State.take_bay c s _, rfl, rfl, rfl, rfl⟩

theorem Aside.out {b : Bay} {s v : State} (h : Aside b s v) (hg : (v.bay b).supplies = false) : Out b s v :=
  ⟨hg, h.other, h.supply, h.system, h.store⟩

theorem Aside.out_faulted {b : Bay} {s v : State} (h : Aside b s v) : Out b s (becomeFaulted b v) :=
  (out_becomeFaulted b v).trans h.other h.supply h.system h.store

/-! ### A bay FAULTED out of the supply -/

/-- R80, R81, R85, R103, R105: what the fault of a bay that supplied leaves. -/
structure FaultedOut (b : Bay) (s t : State) : Prop where
  state : (t.bay b).state = .faulted
  requalify : (t.bay b).requalify = none
  fault : Pending (.bay b .fault) t
  away : Away b t
  follows : SupplyFollows t
  answered : LossAnswered b s t
  passes : SlotPassesOn b s t

theorem pending_becomeFaulted (b : Bay) (s : State) : Pending (.bay b .fault) (becomeFaulted b s) := by
  rw [becomeFaulted_eq]
  exact pending_raise_self _ _

theorem faultBay_supplying {b : Bay} {v : State} (h : (v.bay b).supplies = true) : faultBay b v = loseBay b (becomeFaulted b v) := if_pos h

theorem faultBay_outside {b : Bay} {v : State} (h : (v.bay b).supplies = false) : faultBay b v = becomeFaulted b v := if_neg (by simp [h])

theorem faultedOut_faultBay {b : Bay} {s v : State} (hl : WithdrawalLaw s) (h : Aside b s v) (hs : (v.bay b).supplies = true) :
    FaultedOut b s (finish (faultBay b v)) := by
  rw [faultBay_supplying hs]
  obtain ⟨haway, hbay⟩ := away_loseBay b (becomeFaulted b v)
  refine ⟨?_, ?_, (works_loseBay b _).grows.pending (pending_becomeFaulted b v), ⟨haway.slot, haway.waiting⟩,
    (supplyFollows_finish _).mpr (supplyFollows_of_fresh (fresh_loseBay b _)),
    lossAnswered_finish hl h.out_faulted ((works_becomeFaulted b v).power.trans h.power),
    slotPassesOn_of_turn hl fun hs hw => turnTaken_finish (turnTaken_loseBay h.out_faulted hs hw)⟩
  · rw [finish_bay, hbay, becomeFaulted_bay]; rfl
  · rw [finish_bay, hbay, becomeFaulted_bay]; rfl

/-! ### A withdrawal cancelled, a pack relocked -/

/-- R81: a withdrawal is cancelled. -/
theorem ended_cancelWithdrawal {b : Bay} {s v : State} (hl : WithdrawalLaw s) (h : Aside b s v) (hb : (s.bay b).state ≠ .online) :
    Away b (cancelWithdrawal b v) ∧ (cancelWithdrawal b v).bay b = onlineBay (v.bay b) ∧ Fresh (cancelWithdrawal b v) ∧
      SlotPassesOn b s (finish (cancelWithdrawal b v)) := by
  have hslots : SameSlots s.supply (endBridging (becomeOnline b v)).supply := by
    have he := sameSlots_endBridging (becomeOnline b v)
    rw [becomeOnline_eq, State.modifyBay_supply, h.supply] at he
    exact he
  have hbay : (endBridging (becomeOnline b v)).bay b = onlineBay (v.bay b) := by
    rw [endBridging_bay, becomeOnline_eq, State.modifyBay_bay]
  have hother : (endBridging (becomeOnline b v)).bay (otherBay b) = s.bay (otherBay b) := by
    rw [endBridging_bay, becomeOnline_eq, State.modifyBay_otherBay, h.other]
  have hwait : (endBridging (becomeOnline b v)).supply.waiting ≠ some b := by
    rw [hslots.waiting]
    exact fun hx => hb (hl.waiting b hx).2
  obtain ⟨haway, hkeep⟩ := away_freeSlotOf hwait
  have hun := sameButPhase_unblock (freeSlotOf b (endBridging (becomeOnline b v)))
  obtain ⟨hend, hlast⟩ := away_settle (s := unblock (freeSlotOf b (endBridging (becomeOnline b v))))
    ⟨by rw [hun.slot]; exact haway.slot, by rw [hun.waiting]; exact haway.waiting⟩
  refine ⟨hend, hlast.trans ((unblock_bay _ b).trans (hkeep.trans hbay)), fresh_settle _, slotPassesOn_of_turn hl fun hs hw => turnTaken_finish ?_⟩
  have hturn := turnStarted_freeSlot (s := endBridging (becomeOnline b v)) (by rw [hslots.waiting]; exact hw)
  rw [hother, hslots.reason] at hturn
  rw [cancelWithdrawal, freeSlotOf_of_held (by rw [hslots.slot]; exact hs), hturn.unblock]
  exact hturn.settle

theorem passesRelock_iff (r : BayRec) : r.passesRelock = true ↔ SoundAtRelock r := by
  unfold BayRec.passesRelock SoundAtRelock
  rw [← wantsDisconnect_iff]
  cases r.accepted with
  | none => simp
  | some c => simp [and_assoc, and_left_comm, and_comm]

theorem relock_of_sound {b : Bay} {v : State} (h : SoundAtRelock (v.bay b)) : relock b v = cancelWithdrawal b v :=
  if_pos ((passesRelock_iff _).mpr h)

theorem relock_of_unsound {b : Bay} {v : State} (h : ¬SoundAtRelock (v.bay b)) :
    relock b v = settle (freeSlotOf b (becomeFaulted b v)) := if_neg fun hp => h ((passesRelock_iff _).mp hp)

/-- R82: a pack that fails the test of a relock. -/
theorem ended_relock {b : Bay} {s v : State} (hl : WithdrawalLaw s) (h : Aside b s v) (hb : (s.bay b).state ≠ .online)
    (hn : ¬SoundAtRelock (v.bay b)) :
    Away b (relock b v) ∧ (relock b v).bay b = faultedBay (v.bay b) ∧ Fresh (relock b v) ∧ Pending (.bay b .fault) (relock b v) ∧
      SlotPassesOn b s (finish (relock b v)) := by
  have hwait : (becomeFaulted b v).supply.waiting ≠ some b := by
    rw [becomeFaulted_supply, h.supply]
    exact fun hx => hb (hl.waiting b hx).2
  obtain ⟨haway, hbay⟩ := away_leave hwait
  rw [relock_of_unsound hn]
  exact ⟨haway, by rw [hbay, becomeFaulted_bay], fresh_settle _, (works_leave b _).grows.pending (pending_becomeFaulted b v),
    slotPassesOn_of_turn hl fun hs hw => turnTaken_finish (turnTaken_leave h.out_faulted hs hw)⟩

/-- R81, R82, R103: what stands behind the end of a withdrawal that a lever or a window ends. -/
def WayOutEnded (b : Bay) (s t : State) : Prop :=
  t.supply.slot ≠ some b ∧ SupplyFollows t ∧ SlotPassesOn b s t ∧
  ((s.bay b).state = .withdrawing → (t.bay b).state = .online) ∧
  ((s.bay b).state = .released → SoundAtRelock (s.bay b) → (t.bay b).state = .online) ∧
  ((s.bay b).state = .released → ¬SoundAtRelock (s.bay b) → (t.bay b).state = .faulted ∧ Pending (.bay b .fault) t)

theorem wayOutEnded_cancel {b : Bay} {s v : State} (hl : WithdrawalLaw s) (h : Aside b s v) (hb : (s.bay b).state ≠ .online)
    (hs : (s.bay b).state = .released → SoundAtRelock (s.bay b)) : WayOutEnded b s (finish (cancelWithdrawal b v)) := by
  obtain ⟨haway, hbay, hfresh, hpass⟩ := ended_cancelWithdrawal hl h hb
  have hon : ((finish (cancelWithdrawal b v)).bay b).state = .online := by rw [finish_bay, hbay]; rfl
  exact ⟨haway.slot, (supplyFollows_finish _).mpr (supplyFollows_of_fresh hfresh), hpass, fun _ => hon, fun _ _ => hon,
    fun hr hn => absurd (hs hr) hn⟩

theorem wayOutEnded_unsound {b : Bay} {s v : State} (hl : WithdrawalLaw s) (h : Aside b s v) (hb : (s.bay b).state = .released)
    (hn : ¬SoundAtRelock (v.bay b)) (hs : ¬SoundAtRelock (s.bay b)) : WayOutEnded b s (finish (relock b v)) := by
  obtain ⟨haway, hbay, hfresh, hpend, hpass⟩ := ended_relock hl h (by simp [hb]) hn
  exact ⟨haway.slot, (supplyFollows_finish _).mpr (supplyFollows_of_fresh hfresh), hpass, fun hw => (by rw [hb] at hw; cases hw),
    fun _ hx => absurd hx hs, fun _ _ => ⟨by rw [finish_bay, hbay]; rfl, hpend⟩⟩

/-! ### The timers -/

/-- R73: the link step has become LOST. -/
def lostBay (r : BayRec) : BayRec := { r with link := some .lost, stepTimer := none }

theorem loseLink_eq (b : Bay) (s : State) : loseLink b s =
    match (s.bay b).state with
    | .qualified | .online | .withdrawing => faultBay b (s.modifyBay b lostBay)
    | .empty | .probing | .released | .faulted => s.modifyBay b lostBay := rfl

theorem loseLink_faults {b : Bay} {s : State} (h : (s.bay b).state = .qualified ∨ (s.bay b).state = .online ∨ (s.bay b).state = .withdrawing) :
    loseLink b s = faultBay b (s.modifyBay b lostBay) := by
  rw [loseLink_eq]
  rcases h with h | h | h <;> rw [h]

theorem loseLink_keeps {b : Bay} {s : State} (h : ¬((s.bay b).state = .qualified ∨ (s.bay b).state = .online ∨ (s.bay b).state = .withdrawing)) :
    loseLink b s = s.modifyBay b lostBay := by
  rw [loseLink_eq]
  cases hx : (s.bay b).state <;> simp_all

theorem Moved.stepTimer {r r' : BayRec} (h : Moved r r') : r'.stepTimer = r.stepTimer := (congrArg BayRec.stepTimer h.same :)

theorem moved_loseLink (b : Bay) (s : State) : Moved (lostBay (s.bay b)) ((loseLink b s).bay b) := by
  by_cases h : (s.bay b).state = .qualified ∨ (s.bay b).state = .online ∨ (s.bay b).state = .withdrawing
  · have hm := (works_faultBay b (s.modifyBay b lostBay)).moved b
    rw [State.modifyBay_bay] at hm
    rwa [loseLink_faults h]
  · rw [loseLink_keeps h, State.modifyBay_bay]
    exact .refl _

theorem WithdrawalLaw.not_slot {s : State} (h : WithdrawalLaw s) {b : Bay} (hb : (s.bay b).state ≠ .withdrawing)
    (hr : (s.bay b).state ≠ .released) : s.supply.slot ≠ some b := fun hs =>
  ((leaving_iff _).mp ((h.slot b).mpr hs)).elim hb hr

/-- R73: the fault of a QUALIFIED bay touches no supply. -/
theorem qualified_faulted {b : Bay} {s v : State} (hl : WithdrawalLaw s) (h : Aside b s v) (hq : (s.bay b).state = .qualified)
    (hv : (v.bay b).state = .qualified) :
    ((finish (faultBay b v)).bay b).state = .faulted ∧ Pending (.bay b .fault) (finish (faultBay b v)) ∧
      (finish (faultBay b v)).supply.slot ≠ some b := by
  have hout : (v.bay b).supplies = false := by simp [BayRec.supplies, BayRec.pathClosed, hv]
  rw [faultBay_outside hout]
  refine ⟨by rw [finish_bay, becomeFaulted_bay]; rfl, pending_becomeFaulted b v, ?_⟩
  have hs := hl.not_slot (b := b) (by simp [hq]) (by simp [hq])
  rwa [finish_supply, becomeFaulted_supply, h.supply]

/-- Settles O43: the three timers of a bay, each by the operation that its expiry is. -/
theorem bayTimersExpire : Obligations.BayTimersExpire := by
  intro s b ha hl
  have hlaw := (hl.part b).bay
  refine ⟨fun h => ?notProbing, fun h => ?probing, fun h => ?inStep, fun h => ?outOfStep, fun h => ?noWindow, fun h => ?window⟩
  case notProbing => exact exec_own_nothing ha rfl (if_neg fun hc => h hc.2)
  case probing =>
    have ht : (s.bay b).probeTimer.isSome = true := by rw [hlaw.probe, h]; rfl
    refine ⟨_, exec_own_eq ha rfl (if_pos ⟨ht, h⟩), ?_, ?_, pending_becomeFaulted b s, ?_⟩
    · rw [finish_bay, becomeFaulted_bay]; rfl
    · rw [finish_bay, becomeFaulted_bay]; rfl
    · rw [finish_supply, becomeFaulted_supply]
  case inStep => exact exec_own_nothing ha rfl (if_neg fun hc => h hc.2)
  case outOfStep =>
    have ht : (s.bay b).stepTimer.isSome = true := by rw [hlaw.step, h]; rfl
    have hmoved := moved_loseLink b s
    have haside := aside_modifyBay b lostBay s
    have hstate : ((s.modifyBay b lostBay).bay b).state = (s.bay b).state := by rw [State.modifyBay_bay]; rfl
    have hlost : (s.bay b).state = .online ∨ (s.bay b).state = .withdrawing → FaultedOut b s (finish (loseLink b s)) := fun hx => by
      rw [loseLink_faults (.inr hx)]
      exact faultedOut_faultBay hl haside (by rw [supplies_iff, hstate]; exact hx)
    refine ⟨_, exec_own_eq ha rfl (if_pos ⟨ht, h⟩), by rw [finish_bay]; exact hmoved.link, by rw [finish_bay]; exact hmoved.stepTimer,
      fun hx => ?_, fun hx => ?_, fun hx => ?_⟩
    · rcases hx with hq | hx
      · rw [loseLink_faults (.inl hq)]
        exact qualified_faulted hl haside hq (hstate.trans hq)
      · have hf := hlost hx
        exact ⟨hf.state, hf.fault, hf.away.slot⟩
    · have hf := hlost hx
      exact ⟨hf.follows, hf.away.waiting, hf.answered, hf.passes⟩
    · rw [loseLink_keeps (by rcases hx with hx | hx | hx <;> simp [hx]), finish_bay]
      exact hstate
  case noWindow => exact exec_own_nothing ha rfl (if_neg (not_some_of_none h))
  case window =>
    have hwin := isSome_of_ne_none h
    have hcause := hlaw.window hwin
    have hleave : (s.bay b).leaving = true := by rw [← hlaw.cause, hcause]; rfl
    have hnot : (s.bay b).state ≠ .online := by
      rcases (leaving_iff _).mp hleave with hx | hx <;> rw [hx] <;> decide
    have hexec : ∀ u, expireEject b s = u → exec (.ejectWindowExpiry b) s = .next (finish u) := fun u hu =>
      exec_own_eq ha rfl ((if_pos hwin).trans hu)
    obtain ⟨-, hbay, -, -⟩ := ended_cancelWithdrawal hl (Aside.refl b s) hnot
    have hcancel : expireEject b s = cancelWithdrawal b s → ((s.bay b).state = .released → SoundAtRelock (s.bay b)) →
        ∃ t, exec (.ejectWindowExpiry b) s = .next t ∧ (t.bay b).ejectWindow = none ∧ (t.bay b).cause = none ∧ WayOutEnded b s t :=
      fun hu hsound => ⟨_, hexec _ hu, by rw [finish_bay, hbay]; rfl, by rw [finish_bay, hbay]; rfl,
        wayOutEnded_cancel hl (Aside.refl b s) hnot hsound⟩
    rcases (leaving_iff _).mp hleave with hx | hx
    · exact hcancel (by unfold expireEject; rw [hx]) fun hr => by rw [hx] at hr; cases hr
    · have hu : expireEject b s = relock b s := by unfold expireEject; rw [hx]
      by_cases hsound : SoundAtRelock (s.bay b)
      · exact hcancel (hu.trans (relock_of_sound hsound)) fun _ => hsound
      · obtain ⟨-, hbay', -, -, -⟩ := ended_relock hl (Aside.refl b s) hnot hsound
        exact ⟨_, hexec _ hu, by rw [finish_bay, hbay']; rfl, by rw [finish_bay, hbay']; rfl,
          wayOutEnded_unsound hl (Aside.refl b s) hx hsound hsound⟩

end Sys2Proof.Machine
end

section
/-!
PROOFS. The requalify: O44.
-/
namespace Sys2Proof.Machine

theorem askRequalify_online {b : Bay} {s : State} (h : (s.bay b).state = .online) :
    askRequalify b s = settle (s.modifyBay b startRequalify) := if_pos h

theorem askRequalify_elsewhere {b : Bay} {s : State} (h : (s.bay b).state ≠ .online) : askRequalify b s = s := if_neg h

/-- R84: the capability that a requalify holds. -/
def heldBy (r : BayRec) : Nat := (r.requalify.map Requalify.held).getD r.counted

theorem startRequalify_requalify (r : BayRec) :
    (startRequalify r).requalify = some { remaining := sec 2, held := heldBy r } ∧ (startRequalify r).counted = heldBy r := ⟨rfl, rfl⟩

theorem not_asks_of_none {r : BayRec} (h : r.accepted = none) : ¬AsksDisconnect r := by
  rintro ⟨-, c, hc, -⟩
  rw [h] at hc
  cases hc

theorem OnItsWay.states {b : Bay} {cause : Cause} {t : State} (h : OnItsWay b cause t) (hc : cause ≠ .disconnect) :
    (t.bay b).state = .withdrawing ∨ (t.bay b).state = .released := by
  obtain ⟨-, ⟨hw, -⟩ | ⟨-, -, hr, -⟩ | ⟨hd, -⟩⟩ := h
  · exact .inl hw
  · exact .inr hr
  · exact absurd hd hc

/-- R98, R103: an ONLINE bay through the end of an event that leaves its request as it was. -/
theorem online_settle {b : Bay} {s : State} (hslot : s.supply.slot ≠ some b) (hw : s.supply.waiting = some b → s.supply.slot = some (otherBay b)) :
    (s.supply.waiting ≠ some b → (settle s).bay b = s.bay b ∧ Away b (settle s)) ∧
    (s.supply.waiting = some b →
      ((settle s).bay b = s.bay b ∧ ((settle s).supply.waiting = some b ∨ (settle s).supply.slot = none)) ∨
      (∃ cause, turnCause (s.bay b) s.supply.waitReason = some cause ∧ WithdrawalStarted b cause (settle s) (settle s))) := by
  refine ⟨fun hn => (away_settle ⟨hslot, hn⟩).symm, fun hx => ?_⟩
  rcases waiting_settle hx (hw hx) with ⟨hb, hwait, -⟩ | ⟨-, -, hturn⟩
  · exact .inl ⟨hb, .inl hwait⟩
  · cases hc : turnCause (s.bay b) s.supply.waitReason with
    | none =>
      obtain ⟨hb, -, hs⟩ := hturn.idle hc
      exact .inl ⟨hb, .inr hs⟩
    | some cause => exact .inr ⟨cause, rfl, hturn.started hc⟩

theorem turnCause_some_of_not_asking {r : BayRec} {x : Option WaitReason} {cause : Cause} (h : ¬AsksDisconnect r)
    (hc : turnCause r x = some cause) : cause = .lever ∧ r.leverTaken = .opened := by
  rw [← wantsDisconnect_iff] at h
  unfold turnCause at hc
  split at hc
  next ho =>
    exact ⟨(Option.some.inj hc).symm, ho⟩
  · rw [if_neg fun hx => h hx.2] at hc
    cases hc

theorem turnCause_some_of_asking {r : BayRec} {x : Option WaitReason} {cause : Cause} (h : AsksDisconnect r)
    (hc : turnCause r x = some cause) : cause = .disconnect := by
  have hw := (wantsDisconnect_iff r).mpr h
  unfold turnCause at hc
  split at hc
  · exact (Option.some.inj hc).symm
  · split at hc
    · exact (Option.some.inj hc).symm
    · cases hc

/-- The hypotheses of the two lemmas above at a bay that is ONLINE under the law. -/
theorem WithdrawalLaw.online_slots {s v : State} {b : Bay} (hl : WithdrawalLaw s) (hb : (s.bay b).state = .online) (hv : v.supply = s.supply) :
    v.supply.slot ≠ some b ∧ (v.supply.waiting = some b → v.supply.slot = some (otherBay b)) := by
  rw [hv]
  exact ⟨hl.not_slot (by simp [hb]) (by simp [hb]), fun hw => (hl.waiting b hw).1⟩

/-- Settles O44: a requalify starts by the record's change, the end of the event behind it; one that runs out is the fault of a bay that supplies. -/
theorem requalifyHoldsTheCapability : Obligations.RequalifyHoldsTheCapability := by
  intro s b ha hl
  refine ⟨fun hf => ⟨fun h => ?elsewhere, fun h => ?starts⟩, fun h => ?none, fun h => ?runsOut⟩
  case elsewhere => exact exec_claim_eq ha hf rfl (askRequalify_elsewhere (by rwa [State.take_bay]))
  case none => exact exec_own_nothing ha rfl (if_neg (not_some_of_none h))
  case runsOut =>
    have hsup : (s.bay b).supplies = true := (supplies_iff _).mpr ((hl.part b).bay.requalify (isSome_of_ne_none h))
    have hf := faultedOut_faultBay hl (Aside.refl b s) hsup
    exact ⟨_, exec_own_eq ha rfl (if_pos (isSome_of_ne_none h)), hf.state, hf.requalify, hf.fault, hf.away.slot, hf.away.waiting, hf.follows,
      hf.answered, hf.passes⟩
  case starts =>
    have hbay : ((s.take (.requalify b)).modifyBay b startRequalify).bay b = startRequalify (s.bay b) := by
      rw [State.modifyBay_bay, State.take_bay]
    have hsup : ((s.take (.requalify b)).modifyBay b startRequalify).supply = s.supply := State.modifyBay_supply _ _ _
    obtain ⟨hslot, hwaits⟩ := hl.online_slots h hsup
    obtain ⟨hfree, hqueued⟩ := online_settle hslot hwaits
    have hmoved := (works_settle ((s.take (.requalify b)).modifyBay b startRequalify)).moved b
    have hcases := settle_bay_cases hwaits
    rw [hbay] at hmoved hcases hfree hqueued
    rw [hsup] at hfree hqueued
    have hnot : ¬AsksDisconnect (startRequalify (s.bay b)) := not_asks_of_none rfl
    have hexec : exec (.requalify b) s = .next (finish (settle ((s.take (.requalify b)).modifyBay b startRequalify))) :=
      exec_claim_eq ha hf rfl (askRequalify_online (by rw [State.take_bay]; exact h))
    have hfollows := supplyFollows_settle ((s.take (.requalify b)).modifyBay b startRequalify)
    generalize settle ((s.take (.requalify b)).modifyBay b startRequalify) = t at *
    have hqueued' : s.supply.waiting = some b →
        ((t.bay b = startRequalify (s.bay b)) ∧ (t.supply.waiting = some b ∨ t.supply.slot = none)) ∨
        ((s.bay b).leverTaken = .opened ∧ WithdrawalStarted b .lever t t) := fun hw => by
      refine (hqueued hw).imp_right fun ⟨cause, hc, hstart⟩ => ?_
      obtain ⟨rfl, ho⟩ := turnCause_some_of_not_asking hnot hc
      exact ⟨ho, hstart⟩
    refine ⟨_, hexec, ?_, ?_, ?_, hfollows, fun hn => ?_, fun hw => ?_, fun hr => ?_⟩
    · rw [finish_bay]; exact hmoved.accepted
    · rw [finish_bay]; exact (congrArg BayRec.candidate hmoved.same :)
    · rw [finish_bay]; exact (congrArg BayRec.goodRun hmoved.same :)
    · rw [finish_bay, (hfree hn).1]; exact h
    · refine (hqueued' hw).imp (fun ⟨hb, hx⟩ => ⟨by rw [finish_bay, hb]; exact h, hx⟩) fun ⟨ho, hstart⟩ => ⟨ho, ?_⟩
      exact (withdrawalStarted_finish _ _ _ _).mpr ((withdrawalStarted_of_finish _ _ _ _).mpr hstart)
    · rw [finish_bay] at hr ⊢
      refine ⟨heldBy (s.bay b), ?_⟩
      have hkeep : (t.bay b).requalify = (startRequalify (s.bay b)).requalify ∧ (t.bay b).counted = (startRequalify (s.bay b)).counted := by
        rcases hcases with hb | ⟨cause, hb⟩ | ⟨r, hleft⟩
        · rw [hb]; exact ⟨rfl, rfl⟩
        · rw [hb]; exact ⟨rfl, rfl⟩
        · by_cases hw : s.supply.waiting = some b
          · rcases hqueued' hw with ⟨hb, -⟩ | ⟨-, hstart⟩
            · rw [hb]; exact ⟨rfl, rfl⟩
            · rcases hstart.1.states (by decide) with hx | hx
              · exact absurd hx hleft.not_online.2.1
              · exact absurd hx hr
          · rw [(hfree hw).1]; exact ⟨rfl, rfl⟩
      obtain ⟨hrq, hct⟩ := startRequalify_requalify (s.bay b)
      refine ⟨hkeep.1.trans hrq, hkeep.2.trans hct, fun hn => ?_, fun q hq => ?_⟩
      · rw [heldBy, hn]; rfl
      · rw [heldBy, hq]; rfl

end Sys2Proof.Machine
end

section
/-!
PROOFS. A bay that comes ONLINE, and the lever levels: O45.
-/
namespace Sys2Proof.Machine

/-! ### A bay comes ONLINE -/

/-- R99, R100, R108, R110: what stands behind a bay's coming ONLINE from outside the supply. -/
structure CameOnline (b : Bay) (s : State) (r : BayRec) (t : State) : Prop where
  bay : t.bay b = onlineBay r
  away : Away b t
  fresh : Fresh t
  carrying : t.supply.carrying = false
  tested : WithdrawalTested false (withOnline b s) t
  refill : s.supply.refillTimer = none → s.supply.reserve < 60 → t.supply.refillTimer = some (sec 5)

theorem withOnline_bay (b : Bay) (s : State) : (withOnline b s).bay b = { s.bay b with state := .online } := State.setBay_bay b _ s

theorem withOnline_other (b : Bay) (s : State) : (withOnline b s).bay (otherBay b) = s.bay (otherBay b) := State.setBay_otherBay b _ s

theorem withOnline_supply (b : Bay) (s : State) : (withOnline b s).supply = s.supply := State.setBay_supply b _ s

theorem cameOnline_bringOnline {b : Bay} {s v : State} (hl : WithdrawalLaw s) (h : Aside b s v) (hb : (s.bay b).state.outside = true) :
    CameOnline b s (v.bay b) (bringOnline b v) := by
  obtain ⟨ho, hw, hr⟩ := BayState.ne_of_outside hb
  have hsup : (becomeOnline b v).supply = s.supply := by rw [becomeOnline_eq, State.modifyBay_supply, h.supply]
  have hbay : (becomeOnline b v).bay b = onlineBay (v.bay b) := by rw [becomeOnline_eq, State.modifyBay_bay]
  have hother : (becomeOnline b v).bay (otherBay b) = s.bay (otherBay b) := by rw [becomeOnline_eq, State.modifyBay_otherBay, h.other]
  have hend := sameSlots_endBridging (becomeOnline b v)
  have hun := sameButPhase_unblock (endBridging (becomeOnline b v))
  have hebay := endBridging_bay (becomeOnline b v)
  have haway : Away b (unblock (endBridging (becomeOnline b v))) := by
    constructor
    · rw [hun.slot, hend.slot, hsup]; exact hl.not_slot hw hr
    · rw [hun.waiting, hend.waiting, hsup]; exact fun hx => ho (hl.waiting b hx).2
  have honline : (unblock (endBridging (becomeOnline b v))).bay b = onlineBay (v.bay b) := by rw [unblock_bay, hebay, hbay]
  have hinert : Inert (unblock (endBridging (becomeOnline b v))) :=
    .inr (.inr (.inr ⟨b, by rw [honline]; rfl, haway⟩))
  obtain ⟨hlast, hkeep⟩ := away_settle haway
  have hstate : (bringOnline b v).bay b = onlineBay (v.bay b) := hkeep.trans honline
  refine ⟨hstate, hlast, fresh_settle _, carrying_returned hinert, ?_, fun ht hr => ?_⟩
  · refine withdrawalTested_settle (again := false) (v := endBridging (becomeOnline b v)) fun c cause hc hcause hp _ => ?_
    rw [withOnline_supply] at hc hp
    have hcb : c = otherBay b := eq_otherBay fun hcb => hl.not_slot hw hr (hcb ▸ hc)
    subst hcb
    rw [withOnline_other] at hcause
    have hunder : Under (otherBay b) cause (endBridging (becomeOnline b v)) :=
      (hl.under hc hcause hp).congr (by rw [hebay, hother]) (by rw [← hsup]; exact hend)
    have hworks := (works_becomeOnline b v).trans (works_endBridging _)
    have htest : SameTest (otherBay b) (withOnline b s) (endBridging (becomeOnline b v)) := by
      refine ⟨?_, ?_, ?_, ?_, ?_⟩
      · rw [otherBay_otherBay, withOnline_bay, hebay, hbay]
        exact iff_of_true rfl rfl
      · rw [hworks.inputs.inlet, h.supply, withOnline_supply]
      · rw [hworks.inputs.reserve, h.supply, withOnline_supply]
      · rw [hworks.system, h.system, withOnline, State.setBay_system]
      · rw [hworks.store, h.store, withOnline, State.setBay_store]
    exact ⟨hunder, by rw [hend.phase, hsup, withOnline_supply], htest.bridgeBlocks.symm⟩
  · refine refill_returned (by rw [hsup]; exact ht) (by rw [hsup]; exact hr) hinert ?_
    show someSource (bringOnline b v) = true
    rw [someSource_eq b, hstate]
    rfl

/-- R79: a QUALIFIED bay comes ONLINE and says so again. -/
theorem cameOnline_qualified {b : Bay} {s v : State} (hl : WithdrawalLaw s) (h : Aside b s v) (hb : (s.bay b).state.outside = true) :
    CameOnline b s (v.bay b) (qualifiedOnline b v) ∧ Pending (.bay b .qualified) (qualifiedOnline b v) := by
  refine ⟨?_, (works_bringOnline b _).grows.pending (pending_raise_self _ _)⟩
  have hc := cameOnline_bringOnline hl (h.trans (aside_raise b (.bay b .qualified) v)) hb
  rw [State.raise_bay] at hc
  exact hc

/-! ### A lever level newly taken -/

/-- R65: the record of a bay that takes a new level. -/
def leverBay (level : Lever) (r : BayRec) : BayRec := { r with leverInput := level, leverTaken := level }

theorem changeLever_opened {b : Bay} {s : State} (hd : s.supply.deferral = false) (hl : (s.bay b).leverInput ≠ .opened) :
    changeLever b .opened s = leverOpened b (s.modifyBay b (leverBay .opened)) := by
  have hset : leverSet b .opened (s.modifyBay b fun r => { r with leverInput := .opened }) = s.modifyBay b (leverBay .opened) :=
    modifyBay_modifyBay b _ _ s
  rw [changeLever_taken hd hl, ← hset]
  rfl

theorem changeLever_locked {b : Bay} {s : State} (hd : s.supply.deferral = false) (hl : (s.bay b).leverInput ≠ .locked) :
    changeLever b .locked s = leverLocked b (s.modifyBay b (leverBay .locked)) := by
  have hset : leverSet b .locked (s.modifyBay b fun r => { r with leverInput := .locked }) = s.modifyBay b (leverBay .locked) :=
    modifyBay_modifyBay b _ _ s
  rw [changeLever_taken hd hl, ← hset]
  rfl

theorem leverBay_bay (b : Bay) (level : Lever) (s : State) : (s.modifyBay b (leverBay level)).bay b = leverBay level (s.bay b) :=
  State.modifyBay_bay b _ s

theorem requestWithdrawal_free {b : Bay} {x : WaitReason} {s : State} (h : s.supply.slot = none) :
    requestWithdrawal b x s = startWithdrawal b x.cause s := if_neg (by simp [h])

/-- R98: the bay waits while the other holds the slot. -/
def waitingFor (b : Bay) (x : WaitReason) (s : State) : State :=
  { s with supply := { s.supply with waiting := some b, waitReason := some x } }

theorem requestWithdrawal_held {b : Bay} {x : WaitReason} {s : State} {o : Bay} (h : s.supply.slot = some o) :
    requestWithdrawal b x s = waitingFor b x s := if_pos (by simp [h])

theorem waitingFor_bay (b : Bay) (x : WaitReason) (s : State) (c : Bay) : (waitingFor b x s).bay c = s.bay c := by cases c <;> rfl

/-- R98: the request of an ONLINE bay while nobody holds the slot. -/
theorem requested_free {b : Bay} {x : WaitReason} {s v : State} (h : Aside b s v) (hs : s.supply.slot = none) :
    WithdrawalStarted b x.cause s (settle (requestWithdrawal b x v)) := by
  rw [requestWithdrawal_free (by rw [h.supply]; exact hs)]
  refine (begun_startWithdrawal b x.cause v).settle.of_iff ((bridgeBlocks_startWithdrawal b x.cause v).trans ?_).symm
  exact SameTest.bridgeBlocks ⟨by rw [h.other], by rw [h.supply], by rw [h.supply], h.system, h.store⟩

/-- R98: the request of an ONLINE bay while the other bay's path is not tested. -/
theorem requested_held {b : Bay} {x : WaitReason} {s v : State} (h : Aside b s v) (hs : s.supply.slot = some (otherBay b))
    (hp : s.supply.phase ≠ some .clearing) :
    (settle (requestWithdrawal b x v)).bay b = v.bay b ∧ (settle (requestWithdrawal b x v)).supply.waiting = some b ∧
      (settle (requestWithdrawal b x v)).supply.waitReason = some x := by
  have hphase : (waitingFor b x v).supply.phase ≠ some .clearing := by
    show v.supply.phase ≠ _
    rw [h.supply]
    exact hp
  have hslots := sameSlots_settle hphase
  rw [requestWithdrawal_held (by rw [h.supply]; exact hs)]
  exact ⟨(settle_bay hphase b).trans (waitingFor_bay b x v b), hslots.waiting, hslots.reason⟩

/-- R98, R103: the request of an ONLINE bay where the other bay's path is tested in the same event. -/
theorem requested_clearing {b : Bay} {x : WaitReason} {s v : State} (h : Aside b s v) (hs : s.supply.slot = some (otherBay b)) :
    ((settle (requestWithdrawal b x v)).bay b = v.bay b ∧ (settle (requestWithdrawal b x v)).supply.waiting = some b ∧
      (settle (requestWithdrawal b x v)).supply.waitReason = some x) ∨
    ((settle (requestWithdrawal b x v)).supply.slot ≠ some (otherBay b) ∧
      TurnTaken b (v.bay b) (some x) (settle (requestWithdrawal b x v))) := by
  rw [requestWithdrawal_held (by rw [h.supply]; exact hs)]
  rcases waiting_settle (s := waitingFor b x v) rfl (by show v.supply.slot = _; rw [h.supply]; exact hs) with ⟨hb, hw, hr, -⟩ | ⟨-, haway, hturn⟩
  · exact .inl ⟨hb.trans (waitingFor_bay b x v b), hw, hr⟩
  · rw [waitingFor_bay] at hturn
    exact .inr ⟨haway.slot, hturn⟩

theorem withdrawalStarted_finish_self {b : Bay} {cause : Cause} {t : State} (h : WithdrawalStarted b cause t t) :
    WithdrawalStarted b cause (finish t) (finish t) := (withdrawalStarted_finish _ _ _ _).mpr ((withdrawalStarted_of_finish _ _ _ _).mpr h)

/-! ### OPEN -/

theorem leverOpened_online {b : Bay} {s : State} (h : (s.bay b).state = .online) :
    leverOpened b s = settle (requestWithdrawal b .lever s) := by
  unfold leverOpened
  rw [h]

theorem modifyBay_id {b : Bay} {f : BayRec → BayRec} {s : State} (h : f (s.bay b) = s.bay b) : s.modifyBay b f = s := by
  show s.setBay b (f (s.bay b)) = s
  rw [h, setBay_self]

theorem ejectToLever_of_not {b : Bay} {s : State} (h : (s.bay b).cause ≠ some .eject) : ejectToLever b s = s := modifyBay_id (if_neg h)

theorem ejectToLever_of_eject {b : Bay} {s : State} (h : (s.bay b).cause = some .eject) :
    ejectToLever b s = s.setBay b { s.bay b with cause := some .lever, ejectWindow := none } :=
  congrArg (fun r => s.setBay b r) (if_pos h)

theorem leverOpened_not_eject {b : Bay} {s : State} (h : (s.bay b).state ≠ .online) (hc : (s.bay b).cause ≠ some .eject) :
    leverOpened b s = s := by
  unfold leverOpened
  split
  next ho => exact absurd ho h
  all_goals first
    | exact ejectToLever_of_not hc
    | rfl

theorem leverOpened_eject {b : Bay} {s : State} (h : (s.bay b).leaving = true) (hc : (s.bay b).cause = some .eject) :
    leverOpened b s = s.setBay b { s.bay b with cause := some .lever, ejectWindow := none } := by
  unfold leverOpened
  rcases (leaving_iff _).mp h with hx | hx <;> rw [hx] <;> exact ejectToLever_of_eject hc

/-! ### LOCKED -/

theorem leverLocked_qualified {b : Bay} {s : State} (h : (s.bay b).state = .qualified) (hk : (s.bay b).link = some .inStep) :
    leverLocked b s = qualifiedOnline b s := by
  unfold leverLocked
  rw [h]
  exact if_pos hk

theorem leverLocked_online {b : Bay} {s : State} (h : (s.bay b).state = .online) : leverLocked b s = lockWaiting b s := by
  unfold leverLocked
  rw [h]

theorem leverLocked_withdrawing {b : Bay} {s : State} (h : (s.bay b).state = .withdrawing) (hc : (s.bay b).cause = some .lever) :
    leverLocked b s = cancelWithdrawal b s := by
  unfold leverLocked
  rw [h]
  exact if_pos hc

theorem leverLocked_released {b : Bay} {s : State} (h : (s.bay b).state = .released) (hc : (s.bay b).cause = some .lever) :
    leverLocked b s = relock b s := by
  unfold leverLocked
  rw [h]
  exact if_pos hc

theorem lockWaiting_of_not {b : Bay} {s : State} (h : s.supply.waiting ≠ some b) : lockWaiting b s = s := if_neg h

/-- R79 to R82: the LOCKED levels that change nothing but the record. -/
theorem leverLocked_still {b : Bay} {s : State}
    (h : (s.bay b).state = .empty ∨ (s.bay b).state = .probing ∨ (s.bay b).state = .faulted ∨
      ((s.bay b).state = .qualified ∧ (s.bay b).link ≠ some .inStep) ∨ ((s.bay b).state = .online ∧ s.supply.waiting ≠ some b) ∨
      (((s.bay b).state = .withdrawing ∨ (s.bay b).state = .released) ∧ (s.bay b).cause ≠ some .lever)) : leverLocked b s = s := by
  unfold leverLocked
  rcases h with h | h | h | ⟨h, hk⟩ | ⟨h, hw⟩ | ⟨h | h, hc⟩ <;> rw [h]
  · exact if_neg hk
  · exact lockWaiting_of_not hw
  · exact if_neg hc
  · exact if_neg hc

theorem lockWaiting_bay (b : Bay) (s : State) (c : Bay) : (lockWaiting b s).bay c = s.bay c := by
  unfold lockWaiting
  split
  · split
    · cases c <;> rfl
    · exact stopWaiting_bay b s c
  · rfl

theorem lockWaiting_slot (b : Bay) (s : State) : (lockWaiting b s).supply.slot = s.supply.slot ∧ (lockWaiting b s).supply.phase = s.supply.phase := by
  unfold lockWaiting
  split
  · split
    · exact ⟨rfl, rfl⟩
    · exact ⟨stopWaiting_slot b s, stopWaiting_phase b s⟩
  · exact ⟨rfl, rfl⟩

/-- R80, R103: the waiting of a bay whose lever is locked. -/
theorem lockWaiting_waits {b : Bay} {s : State} (h : s.supply.waiting = some b) :
    (AsksDisconnect (s.bay b) → (lockWaiting b s).supply.waiting = some b ∧ (lockWaiting b s).supply.waitReason = some .disconnect) ∧
    (¬AsksDisconnect (s.bay b) → (lockWaiting b s).supply.waiting = none ∧ (lockWaiting b s).supply.waitReason = none) := by
  rw [← wantsDisconnect_iff]
  unfold lockWaiting
  rw [if_pos h]
  refine ⟨fun ha => ?_, fun ha => ?_⟩
  · rw [if_pos ha]
    exact ⟨h, rfl⟩
  · rw [if_neg ha, stopWaiting, if_pos h]
    exact ⟨rfl, rfl⟩

/-! ### The statement -/

/-- R65, R98, R99, R103: a lever newly OPEN. -/
theorem lever_opens {s : State} {b : Bay} (ha : Alive s) (hl : WithdrawalLaw s) (hd : s.supply.deferral = false)
    (hi : (s.bay b).leverInput = .locked) : ∃ t, exec (.leverEvent b .opened) s = .next t ∧
      (t.bay b).leverInput = .opened ∧ (t.bay b).leverTaken = .opened ∧
      ((s.bay b).state = .online → s.supply.slot = none → SupplyFollows t ∧ WithdrawalStarted b .lever s t) ∧
      ((s.bay b).state = .online → s.supply.slot = some (otherBay b) → s.supply.phase ≠ some .clearing →
        (t.bay b).state = .online ∧ t.supply.waiting = some b ∧ t.supply.waitReason = some .lever) ∧
      ((s.bay b).state = .online → s.supply.slot = some (otherBay b) → s.supply.phase = some .clearing →
        ((t.bay b).state = .online ∧ t.supply.waiting = some b ∧ t.supply.waitReason = some .lever) ∨
        (t.supply.slot ≠ some (otherBay b) ∧ (AsksDisconnect (s.bay b) → WithdrawalStarted b .disconnect t t) ∧
          (¬AsksDisconnect (s.bay b) → WithdrawalStarted b .lever t t))) ∧
      ((s.bay b).state ≠ .online → (s.bay b).cause ≠ some .eject →
        t = finish (s.setBay b { s.bay b with leverInput := .opened, leverTaken := .opened })) ∧
      ((s.bay b).cause = some .eject → t = finish (s.setBay b
        { s.bay b with leverInput := .opened, leverTaken := .opened, cause := some .lever, ejectWindow := none })) := by
  have hexec : exec (.leverEvent b .opened) s = .next (finish (leverOpened b (s.modifyBay b (leverBay .opened)))) :=
    exec_own_eq ha rfl (changeLever_opened hd (by simp [hi]))
  have haside := aside_modifyBay b (leverBay .opened) s
  have hbay := leverBay_bay b .opened s
  have hm := (works_leverOpened b (s.modifyBay b (leverBay .opened))).moved b
  rw [hbay] at hm
  have hstate : ((s.modifyBay b (leverBay .opened)).bay b).state = (s.bay b).state := by rw [hbay]; rfl
  have hcause : ((s.modifyBay b (leverBay .opened)).bay b).cause = (s.bay b).cause := by rw [hbay]; rfl
  refine ⟨_, hexec, by rw [finish_bay]; exact hm.leverInput, by rw [finish_bay]; exact hm.leverTaken, fun ho hs => ?_, fun ho hs hp => ?_,
    fun ho hs hp => ?_, fun ho hc => ?_, fun hc => ?_⟩
  · rw [leverOpened_online (hstate.trans ho)]
    exact ⟨supplyFollows_settle _, (withdrawalStarted_finish _ _ _ _).mpr (requested_free haside hs)⟩
  · rw [leverOpened_online (hstate.trans ho)]
    obtain ⟨hb, hw, hr⟩ := requested_held (x := .lever) haside hs hp
    exact ⟨by rw [finish_bay, hb]; exact hstate.trans ho, hw, hr⟩
  · rw [leverOpened_online (hstate.trans ho)]
    rcases requested_clearing (x := .lever) haside hs with ⟨hb, hw, hr⟩ | ⟨hslot, hturn⟩
    · exact .inl ⟨by rw [finish_bay, hb]; exact hstate.trans ho, hw, hr⟩
    · rw [hbay] at hturn
      exact .inr ⟨hslot, fun hasks => withdrawalStarted_finish_self (hturn.started (turnCause_disconnect hasks (.inl rfl))),
        fun hasks => withdrawalStarted_finish_self (hturn.started
          (turnCause_lever (r := leverBay .opened (s.bay b)) hasks rfl _))⟩
  · rw [leverOpened_not_eject (by rw [hstate]; exact ho) (by rw [hcause]; exact hc)]
    rfl
  · have hleave : ((s.modifyBay b (leverBay .opened)).bay b).leaving = true := by
      rw [BayRec.leaving, hstate]
      have := (hl.part b).bay.cause
      rw [hc] at this
      exact this.symm
    rw [leverOpened_eject hleave (hcause.trans hc), hbay]
    cases b <;> rfl

/-- R79 to R82, R99, R100, R103, R108: a lever newly LOCKED. -/
theorem lever_locks {s : State} {b : Bay} (ha : Alive s) (hl : WithdrawalLaw s) (hd : s.supply.deferral = false)
    (hi : (s.bay b).leverInput = .opened) : ∃ t, exec (.leverEvent b .locked) s = .next t ∧
      (t.bay b).leverInput = .locked ∧ (t.bay b).leverTaken = .locked ∧
      ((s.bay b).state = .qualified → (s.bay b).link = some .inStep → (t.bay b).state = .online ∧ Pending (.bay b .qualified) t ∧
        SupplyFollows t ∧ t.supply.carrying = false ∧ WithdrawalTested false (withOnline b s) t ∧
        (s.supply.refillTimer = none → s.supply.reserve < 60 → t.supply.refillTimer = some (sec 5))) ∧
      ((s.bay b).state = .online → (t.bay b).state = .online ∧ t.supply.slot = s.supply.slot ∧
        t.supply.phase = s.supply.phase ∧ (s.supply.waiting = some b →
          (AsksDisconnect (s.bay b) → t.supply.waiting = some b ∧ t.supply.waitReason = some .disconnect) ∧
          (¬AsksDisconnect (s.bay b) → t.supply.waiting = none ∧ t.supply.waitReason = none))) ∧
      ((s.bay b).cause = some .lever → t.supply.slot ≠ some b ∧ SupplyFollows t ∧ SlotPassesOn b s t ∧
        ((s.bay b).state = .withdrawing → (t.bay b).state = .online) ∧
        ((s.bay b).state = .released → SoundAtRelock (s.bay b) → (t.bay b).state = .online) ∧
        ((s.bay b).state = .released → ¬SoundAtRelock (s.bay b) → (t.bay b).state = .faulted ∧ Pending (.bay b .fault) t)) ∧
      ((s.bay b).state = .empty ∨ (s.bay b).state = .probing ∨ (s.bay b).state = .faulted ∨
          ((s.bay b).state = .qualified ∧ (s.bay b).link ≠ some .inStep) ∨
          ((s.bay b).state = .online ∧ s.supply.waiting ≠ some b) ∨
          (((s.bay b).state = .withdrawing ∨ (s.bay b).state = .released) ∧ (s.bay b).cause ≠ some .lever) →
        t = finish (s.setBay b { s.bay b with leverInput := .locked, leverTaken := .locked })) := by
  have hexec : exec (.leverEvent b .locked) s = .next (finish (leverLocked b (s.modifyBay b (leverBay .locked)))) :=
    exec_own_eq ha rfl (changeLever_locked hd (by simp [hi]))
  have haside := aside_modifyBay b (leverBay .locked) s
  have hbay := leverBay_bay b .locked s
  have hm := (works_leverLocked b (s.modifyBay b (leverBay .locked))).moved b
  rw [hbay] at hm
  have hstate : ((s.modifyBay b (leverBay .locked)).bay b).state = (s.bay b).state := by rw [hbay]; rfl
  have hcause : ((s.modifyBay b (leverBay .locked)).bay b).cause = (s.bay b).cause := by rw [hbay]; rfl
  have hlink : ((s.modifyBay b (leverBay .locked)).bay b).link = (s.bay b).link := by rw [hbay]; rfl
  have hsound : SoundAtRelock ((s.modifyBay b (leverBay .locked)).bay b) ↔ SoundAtRelock (s.bay b) := by rw [hbay]; exact Iff.rfl
  have hsupply : (s.modifyBay b (leverBay .locked)).supply = s.supply := haside.supply
  refine ⟨_, hexec, by rw [finish_bay]; exact hm.leverInput, by rw [finish_bay]; exact hm.leverTaken, fun hq hk => ?_, fun ho => ?_,
    fun hc => ?_, fun hx => ?_⟩
  · rw [leverLocked_qualified (hstate.trans hq) (hlink.trans hk)]
    obtain ⟨hon, hpend⟩ := cameOnline_qualified hl haside (by rw [hq]; rfl)
    exact ⟨by rw [finish_bay, hon.bay]; rfl, hpend, (supplyFollows_finish _).mpr (supplyFollows_of_fresh hon.fresh), hon.carrying,
      (withdrawalTested_finish _ _ _).mpr hon.tested, hon.refill⟩
  · rw [leverLocked_online (hstate.trans ho)]
    obtain ⟨hslot, hphase⟩ := lockWaiting_slot b (s.modifyBay b (leverBay .locked))
    rw [hsupply] at hslot hphase
    refine ⟨by rw [finish_bay, lockWaiting_bay]; exact hstate.trans ho, hslot, hphase, fun hw => ?_⟩
    have := lockWaiting_waits (s := s.modifyBay b (leverBay .locked)) (by rw [hsupply]; exact hw)
    rw [hbay] at this
    exact this
  · have hleave : (s.bay b).leaving = true := by
      have := (hl.part b).bay.cause
      rw [hc] at this
      exact this.symm
    have hnot : (s.bay b).state ≠ .online := by
      rcases (leaving_iff _).mp hleave with hx | hx <;> rw [hx] <;> decide
    have hcancel : leverLocked b (s.modifyBay b (leverBay .locked)) = cancelWithdrawal b (s.modifyBay b (leverBay .locked)) →
        ((s.bay b).state = .released → SoundAtRelock (s.bay b)) →
        WayOutEnded b s (finish (leverLocked b (s.modifyBay b (leverBay .locked)))) := fun hu hs => by
      rw [hu]
      exact wayOutEnded_cancel hl haside hnot hs
    rcases (leaving_iff _).mp hleave with hx | hx
    · exact hcancel (leverLocked_withdrawing (hstate.trans hx) (hcause.trans hc)) fun hr => by rw [hx] at hr; cases hr
    · have hu := leverLocked_released (hstate.trans hx) (hcause.trans hc)
      by_cases hs : SoundAtRelock (s.bay b)
      · exact hcancel (hu.trans (relock_of_sound (hsound.mpr hs))) fun _ => hs
      · rw [hu]
        exact wayOutEnded_unsound hl haside hx (mt hsound.mp hs) hs
  · rw [leverLocked_still (by rw [hstate, hcause, hlink, hsupply]; exact hx)]
    rfl

/-- Settles O45: a level that the input has, a lever newly OPEN, a lever newly LOCKED. -/
theorem leversMoveTheBays : Obligations.LeversMoveTheBays := fun s b ha hl =>
  ⟨exec_own_nothing ha rfl (changeLever_same b s), lever_opens ha hl, lever_locks ha hl⟩

end Sys2Proof.Machine
end

section
/-!
PROOFS. A changed policy at a Bay Unit: O46.
-/
namespace Sys2Proof.Machine

theorem changePolicy_same {b : Bay} {p : Policy} {s : State} (h : (s.bay b).policy = p) : changePolicy b p s = s := if_pos h

theorem changePolicy_act {b : Bay} {s : State} (h : (s.bay b).policy ≠ .act) :
    changePolicy b .act s = settle (actDisconnect b (s.modifyBay b (policyBay .act))) := if_neg h

theorem changePolicy_refer {b : Bay} {s : State} (h : (s.bay b).policy ≠ .refer) :
    changePolicy b .refer s = settle (referWaiting b (s.modifyBay b (policyBay .refer))) := if_neg h

/-- R76: what the new policy makes of the bay, the supply not yet worked out. -/
def policyTaken (b : Bay) (p : Policy) (s : State) : State :=
  match p with
  | .act => actDisconnect b (s.modifyBay b (policyBay .act))
  | .refer => referWaiting b (s.modifyBay b (policyBay .refer))

theorem changePolicy_new {b : Bay} {p : Policy} {s : State} (h : (s.bay b).policy ≠ p) : changePolicy b p s = settle (policyTaken b p s) := by
  cases p with
  | act => exact changePolicy_act h
  | refer => exact changePolicy_refer h

theorem works_policyTaken (b : Bay) (p : Policy) (s : State) : Works (s.modifyBay b (policyBay p)) (policyTaken b p s) := by
  cases p with
  | act => exact works_actDisconnect b _
  | refer => exact works_referWaiting b _

/-- R74: what a bay counts by its record while no requalify runs. -/
theorem counted_of_follows {r : BayRec} {c : Condition} (h : CountedFollows r) (hq : r.requalify = none) (ha : r.accepted = some c) :
    r.counted = countsNow c r.exhausted r.policy := by
  unfold CountedFollows at h
  rw [hq, ha] at h
  exact h

theorem requalify_moved {r r' : BayRec} (h : Moved r r') (hr : r.requalify = none) : r'.requalify = none := by
  rcases h.requalify with hq | hq
  · exact hq.trans hr
  · exact hq

theorem actDisconnect_asks {b : Bay} {s : State} (ho : (s.bay b).state = .online) (hw : s.supply.waiting ≠ some b)
    (hx : AsksDisconnect (s.bay b)) : actDisconnect b s = requestWithdrawal b .disconnect s :=
  if_pos ⟨ho, hw, (wantsDisconnect_iff _).mpr hx⟩

theorem referWaiting_locked {b : Bay} {s : State} (hw : s.supply.waiting = some b) (hl : (s.bay b).leverTaken = .locked) :
    referWaiting b s = stopWaiting b s := by
  rw [referWaiting, if_pos hw, if_neg (by simp [hl])]

/-- R103: a bay whose lever is OPEN waits on by its lever, as if it had just asked. -/
theorem referWaiting_opened {b : Bay} {s : State} {o : Bay} (hw : s.supply.waiting = some b) (hs : s.supply.slot = some o)
    (hl : (s.bay b).leverTaken = .opened) : referWaiting b s = requestWithdrawal b .lever s := by
  rw [requestWithdrawal_held hs, referWaiting, if_pos hw, if_pos hl, waitingFor]
  dsimp only
  rw [hw]

/-- R103: a bay that stops waiting stays ONLINE. -/
theorem stopped_waiting {b : Bay} {v : State} (hs : v.supply.slot ≠ some b) :
    (settle (stopWaiting b v)).bay b = v.bay b ∧ (settle (stopWaiting b v)).supply.waiting ≠ some b := by
  obtain ⟨haway, hbay⟩ := away_settle (b := b) (s := stopWaiting b v) ⟨by rw [stopWaiting_slot]; exact hs, stopWaiting_ne b v⟩
  exact ⟨hbay.trans (stopWaiting_bay b v b), haway.waiting⟩

/-- Settles O46: the policy by its record, ACT as a request of the bay, REFER by what becomes of its waiting. -/
theorem policyChangeRecountsTheBay : Obligations.PolicyChangeRecountsTheBay := by
  intro s b p ha hl hf
  have hown : ∀ q, ((s.take (.policyChange b q)).bay b) = s.bay b := fun q => State.take_bay _ s b
  refine ⟨fun hp => exec_claim_eq ha hf rfl (changePolicy_same (by rw [hown]; exact hp)), fun hp => ?_⟩
  have haside : Aside b s ((s.take (.policyChange b p)).modifyBay b (policyBay p)) := (aside_take b _ s).trans (aside_modifyBay b _ _)
  have hbay : ((s.take (.policyChange b p)).modifyBay b (policyBay p)).bay b = policyBay p (s.bay b) := by rw [State.modifyBay_bay, hown]
  have hm := ((works_policyTaken b p (s.take (.policyChange b p))).trans (works_settle _)).moved b
  rw [hbay] at hm
  have hsup := haside.supply
  refine ⟨_, exec_claim_eq ha hf rfl (changePolicy_new (by rw [hown]; exact hp)), by rw [finish_bay]; exact hm.policy, supplyFollows_settle _,
    fun c hc hq he hr => ?counted, fun hact ho hreq hw => ?act, fun hrefer hw => ?refer⟩
  case counted =>
    rw [finish_bay, counted_of_follows (hm.counted (countedFollows_recount _)) (requalify_moved hm hq) (hm.accepted.trans hc), hm.policy,
      show _ = (s.bay b).exhausted from (congrArg BayRec.exhausted hm.same :), he, countsNow, if_neg (by simp [hr])]
    rfl
  case act =>
    subst hact
    obtain ⟨c, hc, hdis⟩ := Option.map_eq_some_iff.mp hreq
    have hasks : AsksDisconnect (policyBay .act (s.bay b)) := ⟨rfl, c, hc, hdis⟩
    have htaken : policyTaken b .act (s.take (.policyChange b .act)) =
        requestWithdrawal b .disconnect ((s.take (.policyChange b .act)).modifyBay b (policyBay .act)) :=
      actDisconnect_asks (by rw [hbay]; exact ho) (by rw [hsup]; exact hw) (by rw [hbay]; exact hasks)
    rw [htaken]
    refine ⟨fun hs => (withdrawalStarted_finish _ _ _ _).mpr (requested_free haside hs), fun hs hphase => ?_, fun hs hphase => ?_⟩
    · obtain ⟨hb, hwait, hreason⟩ := requested_held (x := .disconnect) haside hs hphase
      exact ⟨by rw [finish_bay, hb, hbay]; exact ho, hwait, hreason⟩
    · refine (requested_clearing (x := .disconnect) haside hs).imp (fun ⟨hb, hwait, hreason⟩ => ?_) fun ⟨hslot, hturn⟩ => ?_
      · exact ⟨by rw [finish_bay, hb, hbay]; exact ho, hwait, hreason⟩
      · rw [hbay] at hturn
        exact ⟨hslot, withdrawalStarted_finish_self (hturn.started (turnCause_disconnect hasks (.inr rfl)))⟩
  case refer =>
    subst hrefer
    obtain ⟨hother, hon⟩ := hl.waiting b hw
    have hnot : ¬AsksDisconnect (policyBay .refer (s.bay b)) := fun hx => by cases hx.1
    refine ⟨fun hlock => ?_, fun hopen => ?_⟩
    · have htaken : policyTaken b .refer (s.take (.policyChange b .refer)) =
          stopWaiting b ((s.take (.policyChange b .refer)).modifyBay b (policyBay .refer)) :=
        referWaiting_locked (by rw [hsup]; exact hw) (by rw [hbay]; exact hlock)
      obtain ⟨hb, hwait⟩ := stopped_waiting (b := b) (v := (s.take (.policyChange b .refer)).modifyBay b (policyBay .refer))
        (by rw [hsup]; exact hl.not_slot (by simp [hon]) (by simp [hon]))
      rw [htaken]
      exact ⟨by rw [finish_bay, hb, hbay]; exact hon, hwait⟩
    · have htaken : policyTaken b .refer (s.take (.policyChange b .refer)) =
          requestWithdrawal b .lever ((s.take (.policyChange b .refer)).modifyBay b (policyBay .refer)) :=
        referWaiting_opened (by rw [hsup]; exact hw) (by rw [hsup]; exact hother) (by rw [hbay]; exact hopen)
      rw [htaken]
      refine (requested_clearing (x := .lever) haside hother).imp (fun ⟨hb, hwait, hreason⟩ => ?_) fun ⟨hslot, hturn⟩ => ?_
      · exact ⟨by rw [finish_bay, hb, hbay]; exact hon, hwait, hreason⟩
      · rw [hbay] at hturn
        exact ⟨hslot, withdrawalStarted_finish_self (hturn.started (turnCause_lever hnot hopen _))⟩

end Sys2Proof.Machine
end

section
/-!
PROOFS. The answers of a pack: how their bytes are read, what a good one leaves of the bay that hears it, and one that accepts nothing: O40.
-/
namespace Sys2Proof.Machine

/-! ### The bytes -/

theorem readAnswer_eq (b0 b1 b2 b3 b4 b5 : Byte) (more : List Byte) : readAnswer (b0 :: b1 :: b2 :: b3 :: b4 :: b5 :: more) =
    if b0 + b1 + b2 + b3 + b4 + b5 = 0 then
      (readPackState b0).bind fun ps => (readPackRequest b4).bind fun pr =>
        if fromLE [b1, b2] ≤ 800 ∧ b3.toNat ≤ 100 then
          some { condition := { state := ps, capability := fromLE [b1, b2], request := pr }, charge := b3.toNat }
        else none
    else none := by
  by_cases hsum : b0 + b1 + b2 + b3 + b4 + b5 = 0
  · rw [if_pos hsum]
    simp only [readAnswer, if_pos hsum]
    cases readPackState b0 with
    | none => rfl
    | some ps => cases readPackRequest b4 <;> rfl
  · rw [if_neg hsum]
    simp only [readAnswer, if_neg hsum]

theorem readAnswer_short {bytes : List Byte} (h : bytes.length < 6) : readAnswer bytes = none := by
  unfold readAnswer
  split
  · simp at h
    omega
  · rfl

theorem readPackState_code (s : PackState) : readPackState (byte s.code) = some s := by cases s <;> decide

theorem readPackRequest_code (r : PackRequest) : readPackRequest (byte r.code) = some r := by cases r <;> decide

theorem code_of_readPackState {b : Byte} {s : PackState} (h : readPackState b = some s) : b.toNat = s.code := by
  unfold readPackState at h
  split at h
  next hb => cases h; rw [hb]; rfl
  · split at h
    next hb => cases h; rw [hb]; rfl
    · cases h

theorem code_of_readPackRequest {b : Byte} {r : PackRequest} (h : readPackRequest b = some r) : b.toNat = r.code := by
  unfold readPackRequest at h
  split at h
  next hb => cases h; rw [hb]; rfl
  · split at h
    next hb => cases h; rw [hb]; rfl
    · split at h
      next hb => cases h; rw [hb]; rfl
      · cases h

theorem fromLE_pair (a b : Byte) : fromLE [a, b] = a.toNat + 256 * b.toNat := by simp [fromLE]

theorem fromLE_byte {n : Nat} (h : n < 65536) : fromLE [byte n, byte (n / 256)] = n := by
  rw [fromLE_pair]
  simp only [byte, BitVec.toNat_ofNat]
  omega

/-- R192: six bytes whose sum is 0. -/
theorem sum_check (b0 b1 b2 b3 b4 : Byte) : b0 + b1 + b2 + b3 + b4 + -([b0, b1, b2, b3, b4].sum) = 0 := by
  simp only [List.sum_cons, List.sum_nil]
  bv_omega

theorem readAnswer_encoded {c : Condition} {charge : Nat} (more : List Byte) (hc : c.capability ≤ 800) (hx : charge ≤ 100) :
    let body := [byte c.state.code, byte c.capability, byte (c.capability / 256), byte charge, byte c.request.code]
    readAnswer (body ++ (-(body.sum)) :: more) = some { condition := c, charge := charge } := by
  intro body
  show readAnswer (byte c.state.code :: byte c.capability :: byte (c.capability / 256) :: byte charge :: byte c.request.code ::
    -(body.sum) :: more) = _
  rw [readAnswer_eq, if_pos (sum_check _ _ _ _ _), readPackState_code, readPackRequest_code, fromLE_byte (by omega), toNat_byte (by omega)]
  exact if_pos ⟨hc, hx⟩

theorem readAnswer_decoded {b0 b1 b2 b3 b4 b5 : Byte} {more : List Byte} {a : Answer}
    (h : readAnswer (b0 :: b1 :: b2 :: b3 :: b4 :: b5 :: more) = some a) :
    b0 + b1 + b2 + b3 + b4 + b5 = 0 ∧ b0.toNat = a.condition.state.code ∧
    b1.toNat + 256 * b2.toNat = a.condition.capability ∧ a.condition.capability ≤ 800 ∧ b3.toNat = a.charge ∧ a.charge ≤ 100 ∧
    b4.toNat = a.condition.request.code := by
  rw [readAnswer_eq] at h
  split at h
  next hsum =>
    obtain ⟨ps, hps, h⟩ := Option.bind_eq_some_iff.mp h
    obtain ⟨pr, hpr, h⟩ := Option.bind_eq_some_iff.mp h
    split at h
    next hr =>
      cases h
      exact ⟨hsum, code_of_readPackState hps, (fromLE_pair b1 b2).symm, hr.1, rfl, hr.2, code_of_readPackRequest hpr⟩
    · cases h
  · cases h

/-! ### The record of a bay that hears a good answer -/

/-- What the link step's move leaves of the record. -/
theorem goodStep_keeps (r : BayRec) : goodStep r =
    { r with goodRun := (goodStep r).goodRun, missRun := (goodStep r).missRun, link := (goodStep r).link, stepTimer := (goodStep r).stepTimer } := by
  unfold goodStep
  repeat' split
  all_goals rfl

/-- R71 to R74: the record of a bay that has heard a good answer. -/
theorem answerHeard_heard (p : Profile) (a : Answer) (r : BayRec) : AnswerHeard p.lowCharge a r (heardBay p a r) := by
  have hk := goodStep_keeps r
  refine ⟨rfl, rfl, rfl, rfl, linkMoves_goodStep r, countedFollows_recount _, ?_, ?_, ?_, ?_, ?_, ?_⟩
  · exact (congrArg BayRec.leverInput hk :)
  · exact (congrArg BayRec.leverTaken hk :)
  · exact (congrArg BayRec.deferred hk :)
  · exact (congrArg BayRec.contact hk :)
  · exact (congrArg BayRec.policy hk :)
  · exact (congrArg BayRec.queryTimer hk :)

/-- A bay that is moved after it has heard an answer has still heard it. -/
theorem AnswerHeard.moved {low : Nat} {a : Answer} {r u u' : BayRec} (h : AnswerHeard low a r u) (hm : Moved u u') : AnswerHeard low a r u' := by
  obtain ⟨hcand, hcharge, hexh, hwin, hlink, hcount, hli, hlt, hdef, hcon, hpol, hq⟩ := h
  have hs := hm.same
  have hm1 : u'.goodRun = u.goodRun := (congrArg BayRec.goodRun hs :)
  have hm2 : u'.missRun = u.missRun := (congrArg BayRec.missRun hs :)
  refine ⟨(congrArg BayRec.candidate hs :).trans hcand, (congrArg BayRec.charge hs :).trans hcharge, (congrArg BayRec.exhausted hs :).trans hexh,
    (congrArg BayRec.answerWindow hs :).trans hwin, ?_, hm.counted hcount, hm.leverInput.trans hli, hm.leverTaken.trans hlt,
    hm.deferred.trans hdef, hm.contact.trans hcon, hm.policy.trans hpol, (congrArg BayRec.queryTimer hs :).trans hq⟩
  unfold LinkMoves at hlink ⊢
  rw [hm.link, hm.stepTimer, hm1, hm2]
  exact hlink

theorem heardBay_keeps (p : Profile) (a : Answer) (r : BayRec) :
    (heardBay p a r).state = r.state ∧ (heardBay p a r).accepted = r.accepted ∧ (heardBay p a r).requalify = r.requalify ∧
      (heardBay p a r).policy = r.policy ∧ (heardBay p a r).leverTaken = r.leverTaken ∧ (heardBay p a r).cause = r.cause ∧
      (heardBay p a r).ejectWindow = r.ejectWindow := by
  have hk := goodStep_keeps r
  exact ⟨(congrArg BayRec.state hk :), (congrArg BayRec.accepted hk :), (congrArg BayRec.requalify hk :), (congrArg BayRec.policy hk :),
    (congrArg BayRec.leverTaken hk :), (congrArg BayRec.cause hk :), (congrArg BayRec.ejectWindow hk :)⟩

end Sys2Proof.Machine
end

section
/-!
PROOFS. A good answer that accepts nothing: O40.
-/
namespace Sys2Proof.Machine

/-! ### How a good answer is taken -/

/-- R71 to R74: the bay has heard the answer, nothing following yet. -/
def heardAt (b : Bay) (a : Answer) (s : State) : State := s.modifyBay b (heardBay s.profile a)

theorem heardAt_bay (b : Bay) (a : Answer) (s : State) : (heardAt b a s).bay b = heardBay s.profile a (s.bay b) := State.modifyBay_bay b _ s

theorem aside_heardAt (b : Bay) (a : Answer) (s : State) : Aside b s (heardAt b a s) := aside_modifyBay b _ s

theorem readAnswer_long {bytes : List Byte} {a : Answer} (h : readAnswer bytes = some a) : 6 ≤ bytes.length := by
  refine Classical.byContradiction fun hn => ?_
  rw [readAnswer_short (by omega)] at h
  cases h

theorem takeAnswer_of_good {b : Bay} {bytes : List Byte} {a : Answer} {s : State} (hw : (s.bay b).answerWindow ≠ none)
    (h : readAnswer bytes = some a) : takeAnswer b bytes s = hearAnswer b a s := by
  have hl := readAnswer_long h
  unfold takeAnswer
  rw [if_neg (by simp [hw, hl]), h]

theorem takeAnswer_of_none {b : Bay} {bytes : List Byte} {s : State} (hw : (s.bay b).answerWindow = none) : takeAnswer b bytes s = s :=
  if_pos (.inl (by simp [hw]))

theorem hearAnswer_repeats {b : Bay} {a : Answer} {s : State}
    (h : (s.bay b).candidate ≠ some a.condition ∨ (s.bay b).accepted = some a.condition) :
    hearAnswer b a s = linkReturned b (s.bay b) settle (heardAt b a s) :=
  if_neg fun hc => h.elim (fun h => h hc.1) fun h => hc.2 h

theorem hearAnswer_accepts {b : Bay} {a : Answer} {s : State} (hc : (s.bay b).candidate = some a.condition)
    (ha : (s.bay b).accepted ≠ some a.condition) :
    hearAnswer b a s = linkReturned b (s.bay b) id (acceptCondition b a.condition (heardAt b a s)) := if_pos ⟨hc, ha⟩

theorem comesBack_iff (r u : BayRec) : r.comesBack u = true ↔
    u.state = .qualified ∧ u.leverTaken = .locked ∧ u.link = some .inStep ∧ r.link ≠ some .inStep := by
  simp [BayRec.comesBack, and_assoc]

theorem linkReturned_comes {b : Bay} {r : BayRec} {f : State → State} {s : State} (h : r.comesBack (s.bay b) = true) :
    linkReturned b r f s = qualifiedOnline b s := if_pos h

theorem linkReturned_stays {b : Bay} {r : BayRec} {f : State → State} {s : State} (h : ¬r.comesBack (s.bay b) = true) :
    linkReturned b r f s = f s := if_neg h

/-! ### The end of an event at a bay that is not under way -/

/-- R97: a bay that neither is ONLINE nor withdraws keeps its record through the end of an event. -/
theorem settle_bay_outside {b : Bay} {s v : State} (hl : WithdrawalLaw s) (h : v.supply = s.supply) (ho : (s.bay b).state ≠ .online)
    (hw : (s.bay b).state ≠ .withdrawing) : (settle v).bay b = v.bay b := by
  by_cases hs : s.supply.slot = some b
  · have hr : (s.bay b).state = .released := ((leaving_iff _).mp ((hl.slot b).mpr hs)).resolve_left hw
    have hp := (hl.opened b hs).mpr hr
    exact settle_bay (by rw [h, hp]; decide) b
  · exact (away_settle (b := b) (s := v) ⟨by rw [h]; exact hs, by rw [h]; exact fun hx => ho (hl.waiting b hx).2⟩).2

theorem BayLaw.no_requalify {r : BayRec} (h : BayLaw r) (ho : r.state ≠ .online) (hw : r.state ≠ .withdrawing) : r.requalify = none := by
  refine Classical.byContradiction fun hn => ?_
  exact (h.requalify (isSome_of_ne_none hn)).elim ho hw

/-- R84: a requalify goes on as long as the bay supplies. -/
theorem requalify_settle {b : Bay} {s v : State} (hl : WithdrawalLaw s) (h : v.supply = s.supply)
    (hs : (v.bay b).state = (s.bay b).state) (hq : (v.bay b).requalify = (s.bay b).requalify) :
    ((settle v).bay b).requalify =
      if ((settle v).bay b).state = .online ∨ ((settle v).bay b).state = .withdrawing then (s.bay b).requalify else none := by
  rcases settle_bay_cases (b := b) (s := v) (by rw [h]; exact fun hw => (hl.waiting b hw).1) with hb | ⟨cause, hb⟩ | ⟨r, hleft⟩
  · rw [hb, hs, hq]
    split
    · rfl
    next hn => exact (hl.part b).bay.no_requalify (fun hx => hn (.inl hx)) fun hx => hn (.inr hx)
  · rw [hb, if_pos (.inr rfl)]
    exact hq
  · obtain ⟨h1, h2, -⟩ := hleft.not_online
    rw [hleft.requalify, if_neg (by simp [h1, h2])]

/-- What a good answer that accepts nothing makes of the state. -/
theorem works_repeated (b : Bay) (a : Answer) (s : State) : Works (heardAt b a s) (linkReturned b (s.bay b) settle (heardAt b a s)) :=
  .ite (works_qualifiedOnline b _) (works_settle _)

theorem quiet_repeated (b : Bay) (a : Answer) (s : State) {x : BayReason} (hx : x.fromOutside = true) :
    Pending (.bay b x) (linkReturned b (s.bay b) settle (heardAt b a s)) ↔ Pending (.bay b x) s := by
  refine ((works_repeated b a s).quiet b x hx).trans ?_
  unfold Pending heardAt
  rw [State.modifyBay_attention]

/-- R97, R99, R101: a withdrawal through the end of an event that tests no more than its path. -/
theorem withdrawing_settle {b : Bay} {s v : State} {cause : Cause} (hu : Under b cause v) (h : v.supply.phase = s.supply.phase) :
    OnItsWay b cause (settle v) ∧ (s.supply.phase = some .blocked → (settle v).supply.phase = some .blocked) ∧
      (s.supply.phase = some .clearing → ¬HeldBlocked b (settle v)) := by
  have hheld := (heldBlocked_settle hu.waiting).trans hu.heldBlocked
  refine ⟨onItsWay_settle hu, fun hp => (hheld.mpr (h.trans hp)).2.2, fun hp hh => ?_⟩
  have := hheld.mp hh
  rw [h, hp] at this
  cases this

/-- The withdrawal under way at a bay that withdraws. -/
theorem WithdrawalLaw.under_of_withdrawing {s : State} (h : WithdrawalLaw s) {b : Bay} {cause : Cause} (hb : (s.bay b).state = .withdrawing)
    (hc : (s.bay b).cause = some cause) : Under b cause s := by
  have hs := (h.slot b).mp ((leaving_iff _).mpr (.inl hb))
  refine h.under hs hc fun hp => ?_
  have := (h.opened b hs).mp hp
  rw [hb] at this
  cases this

/-- A change of the bay's record that leaves its withdrawal under way. -/
theorem Under.aside {b : Bay} {cause cause' : Cause} {s v : State} (h : Under b cause s) (hv : v.supply = s.supply)
    (hs : (v.bay b).state = (s.bay b).state) (hc : (v.bay b).cause = some cause') : Under b cause' v :=
  ⟨hs.trans h.state, hc, by rw [hv]; exact h.slot, by rw [hv]; exact h.phase, by rw [hv]; exact h.waiting⟩

/-- R71 to R74, R79: what a good answer that accepts nothing leaves. -/
theorem repeated_answer {s : State} {b : Bay} {bytes : List Byte} {a : Answer} (ha : Alive s) (hr : readAnswer bytes = some a)
    (hwin : (s.bay b).answerWindow ≠ none)
    (hrep : (s.bay b).candidate ≠ some a.condition ∨ (s.bay b).accepted = some a.condition) (hl : WithdrawalLaw s) :
      ∃ t, exec (.goodAnswer b bytes) s = .next t ∧
      SupplyFollows t ∧ AnswerHeard s.store.working.lowCharge a (s.bay b) (t.bay b) ∧ (t.bay b).accepted = (s.bay b).accepted ∧
      (t.bay b).requalify =
        (if (t.bay b).state = .online ∨ (t.bay b).state = .withdrawing then (s.bay b).requalify else none) ∧
      (∀ x, x = .inserted ∨ x = .removed ∨ x = .lost ∨ x = .packRequest ∨ x = .linkOut →
        (Pending (.bay b x) t ↔ Pending (.bay b x) s)) ∧
      ((s.bay b).state = .probing ∨ (s.bay b).state = .released ∨ (s.bay b).state = .faulted →
        (t.bay b).state = (s.bay b).state) ∧
      ((s.bay b).state = .qualified →
        ((s.bay b).leverTaken = .locked → (s.bay b).link ≠ some .inStep → (t.bay b).link = some .inStep →
          (t.bay b).state = .online ∧ Pending (.bay b .qualified) t ∧ WithdrawalTested false (withOnline b s) t) ∧
        ((s.bay b).leverTaken = .opened ∨ (s.bay b).link = some .inStep ∨ (t.bay b).link ≠ some .inStep →
          (t.bay b).state = .qualified)) ∧
      ((s.bay b).state = .online → s.supply.waiting ≠ some b → (t.bay b).state = .online) ∧
      ((s.bay b).state = .online → s.supply.waiting = some b →
        ((t.bay b).state = .online ∧ (t.supply.waiting = some b ∨ t.supply.slot = none)) ∨
        (¬AsksDisconnect (s.bay b) ∧ (s.bay b).leverTaken = .opened ∧ WithdrawalStarted b .lever t t) ∨
        (AsksDisconnect (s.bay b) ∧ WithdrawalStarted b .disconnect t t)) ∧
      (∀ cause, (s.bay b).state = .withdrawing → (s.bay b).cause = some cause → OnItsWay b cause t ∧
        (s.supply.phase = some .blocked → t.supply.phase = some .blocked) ∧
        (s.supply.phase = some .clearing → ¬HeldBlocked b t)) := by
  have hexec : exec (.goodAnswer b bytes) s = .next (finish (linkReturned b (s.bay b) settle (heardAt b a s))) :=
    exec_own_eq ha rfl ((takeAnswer_of_good hwin hr).trans (hearAnswer_repeats hrep))
  have hbay := heardAt_bay b a s
  have haside := aside_heardAt b a s
  have hm := (works_repeated b a s).moved b
  rw [hbay] at hm
  obtain ⟨hstate, hacc, hreq, hpol, hlever, hcause, -⟩ := heardBay_keeps s.profile a (s.bay b)
  have hheard := (answerHeard_heard s.profile a (s.bay b)).moved hm
  have hquiet : ∀ x, x = .inserted ∨ x = .removed ∨ x = .lost ∨ x = .packRequest ∨ x = .linkOut →
      (Pending (.bay b x) (linkReturned b (s.bay b) settle (heardAt b a s)) ↔ Pending (.bay b x) s) := fun x hx =>
    quiet_repeated b a s (by rcases hx with rfl | rfl | rfl | rfl | rfl <;> rfl)
  have hasks : AsksDisconnect (heardBay s.profile a (s.bay b)) ↔ AsksDisconnect (s.bay b) := by
    unfold AsksDisconnect
    rw [hpol, hacc]
  by_cases hback : (s.bay b).comesBack (heardBay s.profile a (s.bay b)) = true
  · obtain ⟨hq, hlock, hin, hout⟩ := (comesBack_iff _ _).mp hback
    rw [hstate] at hq
    rw [hlever] at hlock
    obtain ⟨hon, hpend⟩ := cameOnline_qualified hl haside (by rw [hq]; rfl)
    have he : linkReturned b (s.bay b) settle (heardAt b a s) = qualifiedOnline b (heardAt b a s) := linkReturned_comes (by rw [hbay]; exact hback)
    have hnew : ((linkReturned b (s.bay b) settle (heardAt b a s)).bay b).state = .online := by rw [he, hon.bay]; rfl
    refine ⟨_, hexec, ?_, ?_, ?_, ?_, hquiet, fun hx => ?_, fun _ => ⟨fun _ _ _ => ⟨?_, ?_, ?_⟩, fun hx => ?_⟩, fun ho => ?_, fun ho => ?_,
      fun cause hw => ?_⟩
    · rw [he]; exact (supplyFollows_finish _).mpr (supplyFollows_of_fresh hon.fresh)
    · rw [finish_bay]; exact hheard
    · rw [finish_bay]; exact hm.accepted.trans hacc
    · rw [finish_bay, if_pos (.inl hnew), (hl.part b).bay.no_requalify (by simp [hq]) (by simp [hq]), he, hon.bay]
      rfl
    · rw [hq] at hx; rcases hx with hx | hx | hx <;> cases hx
    · rw [finish_bay]; exact hnew
    · rw [he]; exact hpend
    · rw [he]; exact (withdrawalTested_finish _ _ _).mpr hon.tested
    · rcases hx with hx | hx | hx
      · rw [hlock] at hx; cases hx
      · exact absurd hx hout
      · rw [finish_bay] at hx; exact absurd (hm.link.trans hin) hx
    · rw [hq] at ho; cases ho
    · rw [hq] at ho; cases ho
    · rw [hq] at hw; cases hw
  · have he : linkReturned b (s.bay b) settle (heardAt b a s) = settle (heardAt b a s) := linkReturned_stays (by rw [hbay]; exact hback)
    rw [he] at hm hheard hquiet hexec
    have hsup := haside.supply
    have hstill : (s.bay b).state ≠ .online → (s.bay b).state ≠ .withdrawing → ((settle (heardAt b a s)).bay b).state = (s.bay b).state :=
      fun h1 h2 => by rw [settle_bay_outside hl hsup h1 h2, hbay, hstate]
    refine ⟨_, hexec, supplyFollows_settle _, ?_, ?_, ?_, hquiet, fun hx => ?_, fun hq => ⟨fun hlock hout hin => ?_, fun _ => ?_⟩, fun ho hw => ?_,
      fun ho hw => ?_, fun cause hw hc => ?_⟩
    · rw [finish_bay]; exact hheard
    · rw [finish_bay]; exact hm.accepted.trans hacc
    · rw [finish_bay]
      exact requalify_settle hl hsup (by rw [hbay, hstate]) (by rw [hbay, hreq])
    · rw [finish_bay]
      exact hstill (by rcases hx with hx | hx | hx <;> simp [hx]) (by rcases hx with hx | hx | hx <;> simp [hx])
    · rw [finish_bay] at hin
      exact absurd ((comesBack_iff _ _).mpr ⟨hstate.trans hq, hlever.trans hlock, hm.link.symm.trans hin, hout⟩) hback
    · rw [finish_bay, hstill (by simp [hq]) (by simp [hq]), hq]
    · obtain ⟨hslot, hwaits⟩ := hl.online_slots ho hsup
      rw [finish_bay, ((online_settle hslot hwaits).1 (by rw [hsup]; exact hw)).1, hbay, hstate, ho]
    · obtain ⟨hslot, hwaits⟩ := hl.online_slots ho hsup
      rcases (online_settle hslot hwaits).2 (by rw [hsup]; exact hw) with ⟨hb, hx⟩ | ⟨cause, hc, hstart⟩
      · exact .inl ⟨by rw [finish_bay, hb, hbay, hstate, ho], hx⟩
      · rw [hbay] at hc
        have hstart' := withdrawalStarted_finish_self hstart
        by_cases hx : AsksDisconnect (s.bay b)
        · rw [turnCause_some_of_asking (hasks.mpr hx) hc] at hstart'
          exact .inr (.inr ⟨hx, hstart'⟩)
        · obtain ⟨hcl, hop⟩ := turnCause_some_of_not_asking (mt hasks.mp hx) hc
          rw [hcl] at hstart'
          exact .inr (.inl ⟨hx, hlever.symm.trans hop, hstart'⟩)
    · have hu := (hl.under_of_withdrawing hw hc).aside hsup (by rw [hbay, hstate]) (by rw [hbay, hcause, hc])
      obtain ⟨h1, h2, h3⟩ := withdrawing_settle (s := s) hu (by rw [hsup])
      exact ⟨(onItsWay_finish _ _ _).mpr h1, h2, fun hp hh => h3 hp ((heldBlocked_finish _ _).mp hh)⟩

/-- Settles O40: the bytes by how they are read; an answer no query awaits; one that accepts nothing. -/
theorem answersAreReadAndBecomeCandidates : Obligations.AnswersAreReadAndBecomeCandidates :=
  ⟨⟨fun _ _ more hc hx => readAnswer_encoded more hc hx, fun _ _ _ _ _ _ _ _ h => readAnswer_decoded h, fun _ h => readAnswer_short h⟩,
    fun _ _ _ _ ha hr => ⟨fun hw => exec_own_nothing ha rfl (takeAnswer_of_none hw), repeated_answer ha hr⟩⟩

end Sys2Proof.Machine
end

section
/-!
PROOFS. An acceptance: the record of the bay that accepts, the reaction of its state, and what the return of the link adds: O41 and O42.
-/
namespace Sys2Proof.Machine

/-! ### The record that accepts -/

/-- R72 to R75: the bay has accepted the condition and told a request newly made, nothing following yet. -/
def acceptedAt (b : Bay) (a : Answer) (s : State) : State :=
  let s1 := (heardAt b a s).modifyBay b (acceptedBay a.condition)
  if raisesPackRequest ((heardAt b a s).bay b) a.condition then s1.raise (.bay b .packRequest) else s1

/-- The record that the acceptance leaves. -/
def newRecord (p : Profile) (a : Answer) (r : BayRec) : BayRec := acceptedBay a.condition (heardBay p a r)

theorem acceptCondition_heard (b : Bay) (a : Answer) (s : State) : acceptCondition b a.condition (heardAt b a s) =
    reactAccepted b a.condition (failsRequalify ((heardAt b a s).bay b) a.condition) (acceptedAt b a s) := rfl

theorem acceptedAt_bay (b : Bay) (a : Answer) (s : State) : (acceptedAt b a s).bay b = newRecord s.profile a (s.bay b) := by
  have h : ((heardAt b a s).modifyBay b (acceptedBay a.condition)).bay b = newRecord s.profile a (s.bay b) := by
    rw [State.modifyBay_bay, heardAt_bay]
    rfl
  unfold acceptedAt
  dsimp only
  split
  · rw [State.raise_bay, h]
  · exact h

theorem aside_acceptedAt (b : Bay) (a : Answer) (s : State) : Aside b s (acceptedAt b a s) := by
  have h := (aside_heardAt b a s).trans (aside_modifyBay b (acceptedBay a.condition) _)
  unfold acceptedAt
  dsimp only
  split
  · exact h.trans (aside_raise b _ _)
  · exact h

theorem newRecord_keeps (p : Profile) (a : Answer) (r : BayRec) :
    (newRecord p a r).state = r.state ∧ (newRecord p a r).policy = r.policy ∧ (newRecord p a r).leverTaken = r.leverTaken ∧
      (newRecord p a r).cause = r.cause ∧ (newRecord p a r).ejectWindow = r.ejectWindow ∧ (newRecord p a r).link = (goodStep r).link := by
  obtain ⟨hs, -, -, hp, hl, hc, hw⟩ := heardBay_keeps p a r
  exact ⟨hs, hp, hl, hc, hw, rfl⟩

theorem newRecord_accepted (p : Profile) (a : Answer) (r : BayRec) :
    (newRecord p a r).accepted = some a.condition ∧ (newRecord p a r).requalify = none := ⟨rfl, rfl⟩

theorem answerHeard_newRecord (p : Profile) (a : Answer) (r : BayRec) : AnswerHeard p.lowCharge a r (newRecord p a r) := by
  obtain ⟨hcand, hcharge, hexh, hwin, hlink, -, hli, hlt, hdef, hcon, hpol, hq⟩ := answerHeard_heard p a r
  exact ⟨hcand, hcharge, hexh, hwin, hlink, countedFollows_recount _, hli, hlt, hdef, hcon, hpol, hq⟩

theorem asks_newRecord (p : Profile) (a : Answer) (r : BayRec) :
    AsksDisconnect (newRecord p a r) ↔ r.policy = .act ∧ a.condition.request = .disconnect := by
  unfold AsksDisconnect
  rw [(newRecord_keeps p a r).2.1, (newRecord_accepted p a r).1]
  simp

theorem unfit_newRecord (p : Profile) (a : Answer) (r : BayRec) : (newRecord p a r).unfit a.condition = true ↔
    a.condition.state = .fault ∨ a.condition.capability = 0 ∨ (r.policy = .act ∧ a.condition.request = .disconnect) := by
  unfold BayRec.unfit
  rw [(newRecord_keeps p a r).2.1]
  simp [or_assoc]

theorem raisesPackRequest_heard (p : Profile) (a : Answer) (r : BayRec) : raisesPackRequest (heardBay p a r) a.condition = true ↔
    r.policy = .refer ∧ a.condition.request ≠ .none ∧ r.state ≠ .faulted ∧ r.accepted.map Condition.request ≠ some a.condition.request := by
  obtain ⟨hs, hacc, -, hp, -⟩ := heardBay_keeps p a r
  unfold raisesPackRequest
  rw [hs, hacc, hp]
  simp [and_assoc, and_left_comm, and_comm]

theorem failsRequalify_heard (p : Profile) (a : Answer) (r : BayRec) : failsRequalify (heardBay p a r) a.condition = true ↔
    r.requalify ≠ none ∧ a.condition.capability = 0 := by
  unfold failsRequalify
  rw [(heardBay_keeps p a r).2.2.1]
  simp [Option.isSome_iff_ne_none]

/-- R75: PACK_REQUEST goes out with the acceptance, or stands as it stood. -/
theorem packRequest_acceptedAt (b : Bay) (a : Answer) (s : State) :
    (raisesPackRequest (heardBay s.profile a (s.bay b)) a.condition = true → Pending (.bay b .packRequest) (acceptedAt b a s)) ∧
    (raisesPackRequest (heardBay s.profile a (s.bay b)) a.condition ≠ true →
      (Pending (.bay b .packRequest) (acceptedAt b a s) ↔ Pending (.bay b .packRequest) s)) := by
  rw [← heardAt_bay]
  unfold acceptedAt
  dsimp only
  refine ⟨fun h => ?_, fun h => ?_⟩
  · rw [if_pos h]
    exact pending_raise_self _ _
  · rw [if_neg h]
    unfold Pending heardAt
    rw [State.modifyBay_attention, State.modifyBay_attention]

/-! ### The reaction and the return of the link -/

/-- R72 to R85: what the second of two agreeing answers makes of the state. -/
def acceptance (b : Bay) (a : Answer) (s : State) : State :=
  reactAccepted b a.condition (failsRequalify (heardBay s.profile a (s.bay b)) a.condition) (acceptedAt b a s)

theorem exec_accepts {b : Bay} {bytes : List Byte} {a : Answer} {s : State} (ha : Alive s) (hr : readAnswer bytes = some a)
    (hw : (s.bay b).answerWindow ≠ none) (hc : (s.bay b).candidate = some a.condition) (hn : (s.bay b).accepted ≠ some a.condition) :
    exec (.goodAnswer b bytes) s = .next (finish (linkReturned b (s.bay b) id (acceptance b a s))) := by
  refine exec_own_eq ha rfl ((takeAnswer_of_good hw hr).trans ((hearAnswer_accepts hc hn).trans ?_))
  rw [acceptCondition_heard, heardAt_bay]
  rfl

theorem works_acceptance (b : Bay) (a : Answer) (s : State) : Works (acceptedAt b a s) (acceptance b a s) := works_reactAccepted b _ _ _

theorem works_returned_acceptance (b : Bay) (a : Answer) (s : State) :
    Works (acceptedAt b a s) (linkReturned b (s.bay b) id (acceptance b a s)) :=
  (works_acceptance b a s).trans (.ite (works_qualifiedOnline b _) (.refl _))

/-- R79: the return of the link concerns a QUALIFIED bay alone. -/
theorem returned_of_not_qualified {b : Bay} {a : Answer} {s : State} (h : ((acceptance b a s).bay b).state ≠ .qualified) :
    linkReturned b (s.bay b) id (acceptance b a s) = acceptance b a s :=
  linkReturned_stays fun hc => h ((comesBack_iff _ _).mp hc).1

/-- What every acceptance leaves, whatever the bay's state. -/
theorem heard_accepted (b : Bay) (a : Answer) (s : State) :
    ((finish (linkReturned b (s.bay b) id (acceptance b a s))).bay b).accepted = some a.condition ∧
    AnswerHeard s.store.working.lowCharge a (s.bay b) ((finish (linkReturned b (s.bay b) id (acceptance b a s))).bay b) ∧
    ((finish (linkReturned b (s.bay b) id (acceptance b a s))).bay b).requalify = none := by
  have hm := (works_returned_acceptance b a s).moved b
  rw [acceptedAt_bay] at hm
  rw [finish_bay]
  exact ⟨hm.accepted, (answerHeard_newRecord s.profile a (s.bay b)).moved hm, requalify_moved hm rfl⟩

theorem acceptance_probing {b : Bay} {a : Answer} {s : State} (h : (s.bay b).state = .probing) :
    acceptance b a s = acceptProbing b a.condition (acceptedAt b a s) := by
  unfold acceptance reactAccepted
  rw [acceptedAt_bay, (newRecord_keeps _ _ _).1, h]

theorem acceptance_qualified {b : Bay} {a : Answer} {s : State} (h : (s.bay b).state = .qualified) : acceptance b a s =
    if (newRecord s.profile a (s.bay b)).unfit a.condition then becomeFaulted b (acceptedAt b a s) else acceptedAt b a s := by
  unfold acceptance reactAccepted
  rw [acceptedAt_bay, (newRecord_keeps _ _ _).1, h]

theorem acceptance_online {b : Bay} {a : Answer} {s : State} (h : (s.bay b).state = .online) : acceptance b a s =
    acceptOnline b a.condition (failsRequalify (heardBay s.profile a (s.bay b)) a.condition) (acceptedAt b a s) := by
  unfold acceptance reactAccepted
  rw [acceptedAt_bay, (newRecord_keeps _ _ _).1, h]

theorem acceptance_withdrawing {b : Bay} {a : Answer} {s : State} (h : (s.bay b).state = .withdrawing) : acceptance b a s =
    acceptWithdrawing b a.condition (failsRequalify (heardBay s.profile a (s.bay b)) a.condition) (acceptedAt b a s) := by
  unfold acceptance reactAccepted
  rw [acceptedAt_bay, (newRecord_keeps _ _ _).1, h]

theorem acceptance_held {b : Bay} {a : Answer} {s : State} (h : (s.bay b).state = .released ∨ (s.bay b).state = .faulted) :
    acceptance b a s = acceptedAt b a s := by
  unfold acceptance reactAccepted
  rw [acceptedAt_bay, (newRecord_keeps _ _ _).1]
  rcases h with h | h <;> rw [h]

/-- R85: the acceptance fails: a FAULT, or the capability 0 at the end of a requalify. -/
def Fails (a : Answer) (r : BayRec) : Prop := a.condition.state = .fault ∨ (r.requalify ≠ none ∧ a.condition.capability = 0)

theorem fails_iff (p : Profile) (a : Answer) (r : BayRec) :
    (a.condition.state = .fault ∨ failsRequalify (heardBay p a r) a.condition = true) ↔ Fails a r := by
  rw [failsRequalify_heard]
  exact Iff.rfl

theorem acceptance_fails {b : Bay} {a : Answer} {s : State} (h : (s.bay b).state = .online ∨ (s.bay b).state = .withdrawing)
    (hf : Fails a (s.bay b)) : acceptance b a s = faultBay b (acceptedAt b a s) := by
  have hx := (fails_iff s.profile a (s.bay b)).mpr hf
  rcases h with h | h
  · rw [acceptance_online h]
    exact if_pos hx
  · rw [acceptance_withdrawing h]
    exact if_pos hx

theorem acceptance_asks_online {b : Bay} {a : Answer} {s : State} (h : (s.bay b).state = .online) (hf : ¬Fails a (s.bay b))
    (hx : AsksDisconnect (newRecord s.profile a (s.bay b))) :
    acceptance b a s = settle (requestWithdrawal b .disconnect (acceptedAt b a s)) := by
  rw [acceptance_online h, acceptOnline, if_neg (mt (fails_iff s.profile a (s.bay b)).mp hf), acceptedAt_bay,
    if_pos ((wantsDisconnect_iff _).mpr hx)]

theorem acceptance_goes_on_online {b : Bay} {a : Answer} {s : State} (h : (s.bay b).state = .online) (hf : ¬Fails a (s.bay b))
    (hx : ¬AsksDisconnect (newRecord s.profile a (s.bay b))) : acceptance b a s = settle (acceptedAt b a s) := by
  rw [acceptance_online h, acceptOnline, if_neg (mt (fails_iff s.profile a (s.bay b)).mp hf), acceptedAt_bay,
    if_neg (mt (wantsDisconnect_iff _).mp hx)]

theorem acceptance_asks_withdrawing {b : Bay} {a : Answer} {s : State} (h : (s.bay b).state = .withdrawing) (hf : ¬Fails a (s.bay b))
    (hx : AsksDisconnect (newRecord s.profile a (s.bay b))) : acceptance b a s = settle (turnToDisconnect b (acceptedAt b a s)) := by
  rw [acceptance_withdrawing h, acceptWithdrawing, if_neg (mt (fails_iff s.profile a (s.bay b)).mp hf), acceptedAt_bay,
    if_pos ((wantsDisconnect_iff _).mpr hx)]

theorem acceptance_goes_on_withdrawing {b : Bay} {a : Answer} {s : State} (h : (s.bay b).state = .withdrawing) (hf : ¬Fails a (s.bay b))
    (hx : ¬AsksDisconnect (newRecord s.profile a (s.bay b))) : acceptance b a s = settle (acceptedAt b a s) := by
  rw [acceptance_withdrawing h, acceptWithdrawing, if_neg (mt (fails_iff s.profile a (s.bay b)).mp hf), acceptedAt_bay,
    if_neg (mt (wantsDisconnect_iff _).mp hx)]

/-- R80, R81, R85, R105: an acceptance that fails a bay that supplies. -/
theorem failed_acceptance {b : Bay} {a : Answer} {s : State} (hl : WithdrawalLaw s)
    (h : (s.bay b).state = .online ∨ (s.bay b).state = .withdrawing) (hf : Fails a (s.bay b)) :
    FaultedOut b s (finish (linkReturned b (s.bay b) id (acceptance b a s))) := by
  have hsup : ((acceptedAt b a s).bay b).supplies = true := by
    rw [supplies_iff, acceptedAt_bay, (newRecord_keeps _ _ _).1]
    exact h
  have hout := faultedOut_faultBay hl (aside_acceptedAt b a s) hsup
  have he := acceptance_fails h hf
  rw [← he] at hout
  have hstate := hout.state
  rw [finish_bay] at hstate
  rwa [returned_of_not_qualified (by rw [hstate]; decide)]

theorem settle_not_qualified {b : Bay} {s v : State} (hl : WithdrawalLaw s) (hv : v.supply = s.supply) (hs : (v.bay b).state ≠ .qualified) :
    ((settle v).bay b).state ≠ .qualified := by
  rcases settle_bay_cases (b := b) (s := v) (by rw [hv]; exact fun hw => (hl.waiting b hw).1) with hb | ⟨cause, hb⟩ | ⟨r, hleft⟩
  · rw [hb]; exact hs
  · rw [hb]; simp [withdrawingBay]
  · exact hleft.not_online.2.2

theorem requested_not_qualified {b : Bay} {x : WaitReason} {s v : State} (hl : WithdrawalLaw s) (h : Aside b s v) (hb : (s.bay b).state = .online)
    (hv : (v.bay b).state = .online) : ((settle (requestWithdrawal b x v)).bay b).state ≠ .qualified := by
  have hslot := hl.not_slot (b := b) (by simp [hb]) (by simp [hb])
  cases hs : s.supply.slot with
  | none =>
    have hbegun := begun_startWithdrawal b x.cause v
    rw [requestWithdrawal_free (by rw [h.supply]; exact hs)]
    rcases settle_bay_of_not_waiting hbegun.under.waiting with hx | hx
    · rw [hx, hbegun.under.state]; decide
    · exact hx.not_online.2.2
  | some o =>
    have ho : o = otherBay b := eq_otherBay fun ho => hslot (by rw [hs, ho])
    rw [requestWithdrawal_held (by rw [h.supply]; exact hs)]
    rcases settle_bay_cases (b := b) (s := waitingFor b x v) (fun _ => by
      show v.supply.slot = _
      rw [h.supply, hs, ho]) with hx | ⟨cause, hx⟩ | ⟨r, hx⟩
    · rw [hx, waitingFor_bay, hv]; decide
    · rw [hx]; simp [withdrawingBay]
    · exact hx.not_online.2.2

end Sys2Proof.Machine
end

section
/-!
PROOFS. An acceptance in PROBING, and in an ONLINE bay that fails or is asked to withdraw: O41.
-/
namespace Sys2Proof.Machine

/-- What an event makes of the state when the second of two agreeing answers comes. -/
def accepting (b : Bay) (a : Answer) (s : State) : State := finish (linkReturned b (s.bay b) id (acceptance b a s))

theorem accepting_of_not_qualified {b : Bay} {a : Answer} {s : State} (h : ((acceptance b a s).bay b).state ≠ .qualified) :
    accepting b a s = finish (acceptance b a s) := congrArg finish (returned_of_not_qualified h)

/-- R75: PACK_REQUEST after the whole event. -/
theorem packRequest_accepting (b : Bay) (a : Answer) (s : State) :
    (raisesPackRequest (heardBay s.profile a (s.bay b)) a.condition = true → Pending (.bay b .packRequest) (accepting b a s)) ∧
    (raisesPackRequest (heardBay s.profile a (s.bay b)) a.condition ≠ true →
      (Pending (.bay b .packRequest) (accepting b a s) ↔ Pending (.bay b .packRequest) s)) := by
  have hworks := works_returned_acceptance b a s
  obtain ⟨hraised, hkept⟩ := packRequest_acceptedAt b a s
  exact ⟨fun h => hworks.grows.pending (hraised h), fun h => (hworks.quiet b .packRequest rfl).trans (hkept h)⟩

/-! ### PROBING -/

theorem probing_unfit {b : Bay} {a : Answer} {s : State} (h : (s.bay b).state = .probing)
    (hu : (newRecord s.profile a (s.bay b)).unfit a.condition = true) :
    ((accepting b a s).bay b).probeTimer = none ∧ ((accepting b a s).bay b).state = .faulted ∧ Pending (.bay b .fault) (accepting b a s) := by
  have he : acceptance b a s = becomeFaulted b (acceptedAt b a s) := by
    rw [acceptance_probing h, acceptProbing_eq, acceptedAt_bay]
    exact if_pos hu
  have hbay : (acceptance b a s).bay b = faultedBay ((acceptedAt b a s).bay b) := by rw [he, becomeFaulted_bay]
  rw [accepting_of_not_qualified (by rw [hbay]; exact fun hx => by cases hx), finish_bay, hbay]
  refine ⟨rfl, rfl, ?_⟩
  rw [he]
  exact pending_becomeFaulted b _

theorem probing_opened {b : Bay} {a : Answer} {s : State} (h : (s.bay b).state = .probing)
    (hu : ¬(newRecord s.profile a (s.bay b)).unfit a.condition = true) (hv : (s.bay b).leverTaken = .opened) :
    ((accepting b a s).bay b).probeTimer = none ∧ ((accepting b a s).bay b).state = .qualified ∧
      Pending (.bay b .qualified) (accepting b a s) := by
  have hlever : (newRecord s.profile a (s.bay b)).leverTaken = .opened := (newRecord_keeps _ _ _).2.2.1.trans hv
  have he : acceptance b a s = ((acceptedAt b a s).raise (.bay b .qualified)).modifyBay b qualifiedBay := by
    rw [acceptance_probing h, acceptProbing_eq, acceptedAt_bay, if_neg hu, hlever]
  have hbay : (acceptance b a s).bay b = qualifiedBay (newRecord s.profile a (s.bay b)) := by
    rw [he, State.modifyBay_bay, State.raise_bay, acceptedAt_bay]
  have hstay : accepting b a s = finish (acceptance b a s) := congrArg finish <| linkReturned_stays fun hc => by
    have hlock := ((comesBack_iff _ _).mp hc).2.1
    rw [hbay] at hlock
    cases hlever.symm.trans hlock
  rw [hstay, finish_bay, hbay]
  refine ⟨rfl, rfl, ?_⟩
  rw [he]
  exact (Works.modifyBay (moved_qualified _)).grows.pending (pending_raise_self _ _)

theorem probing_locked {b : Bay} {a : Answer} {s : State} (hl : WithdrawalLaw s) (h : (s.bay b).state = .probing)
    (hu : ¬(newRecord s.profile a (s.bay b)).unfit a.condition = true) (hv : (s.bay b).leverTaken = .locked) :
    ((accepting b a s).bay b).probeTimer = none ∧ Pending (.bay b .qualified) (accepting b a s) ∧
      ((accepting b a s).bay b).state = .online ∧ SupplyFollows (accepting b a s) ∧
      WithdrawalTested false (withOnline b s) (accepting b a s) := by
  have hlever : (newRecord s.profile a (s.bay b)).leverTaken = .locked := (newRecord_keeps _ _ _).2.2.1.trans hv
  have he : acceptance b a s = bringOnline b ((acceptedAt b a s).raise (.bay b .qualified)) := by
    rw [acceptance_probing h, acceptProbing_eq, acceptedAt_bay, if_neg hu, hlever]
  have hon := cameOnline_bringOnline hl ((aside_acceptedAt b a s).trans (aside_raise b (.bay b .qualified) _)) (by rw [h]; rfl)
  rw [← he] at hon
  rw [accepting_of_not_qualified (by rw [hon.bay]; exact fun hx => by cases hx), finish_bay, hon.bay]
  refine ⟨rfl, ?_, rfl, (supplyFollows_finish _).mpr (supplyFollows_of_fresh hon.fresh), (withdrawalTested_finish _ _ _).mpr hon.tested⟩
  rw [he]
  exact (works_bringOnline b _).grows.pending (pending_raise_self _ _)

/-! ### ONLINE under a DISCONNECT -/

/-- R80, R98, R99, R103: the withdrawal that a DISCONNECT under ACT starts, or the waiting of the bay. -/
theorem asked_accepting {b : Bay} {a : Answer} {s : State} (hl : WithdrawalLaw s) (h : (s.bay b).state = .online)
    (hf : ¬Fails a (s.bay b)) (hp : (s.bay b).policy = .act) (hq : a.condition.request = .disconnect) :
    (s.supply.slot = none → SupplyFollows (accepting b a s) ∧ WithdrawalStarted b .disconnect s (accepting b a s)) ∧
    (s.supply.slot = some (otherBay b) → s.supply.phase ≠ some .clearing → ((accepting b a s).bay b).state = .online ∧
      (accepting b a s).supply.waiting = some b ∧ (accepting b a s).supply.waitReason = some .disconnect) ∧
    (s.supply.slot = some (otherBay b) → s.supply.phase = some .clearing →
      (((accepting b a s).bay b).state = .online ∧ (accepting b a s).supply.waiting = some b ∧
        (accepting b a s).supply.waitReason = some .disconnect) ∨
      ((accepting b a s).supply.slot ≠ some (otherBay b) ∧ WithdrawalStarted b .disconnect (accepting b a s) (accepting b a s))) := by
  have haside := aside_acceptedAt b a s
  have hasks := (asks_newRecord s.profile a (s.bay b)).mpr ⟨hp, hq⟩
  have hstate : ((acceptedAt b a s).bay b).state = .online := by rw [acceptedAt_bay]; exact (newRecord_keeps _ _ _).1.trans h
  have he := acceptance_asks_online h hf hasks
  have ht : accepting b a s = finish (settle (requestWithdrawal b .disconnect (acceptedAt b a s))) := by
    rw [← he]
    exact accepting_of_not_qualified (by rw [he]; exact requested_not_qualified hl haside h hstate)
  rw [ht]
  refine ⟨fun hs => ?_, fun hs hph => ?_, fun hs _ => ?_⟩
  · exact ⟨supplyFollows_settle _, (withdrawalStarted_finish _ _ _ _).mpr (requested_free haside hs)⟩
  · obtain ⟨hb, hw, hr⟩ := requested_held (x := .disconnect) haside hs hph
    exact ⟨by rw [finish_bay, hb, hstate], hw, hr⟩
  · rcases requested_clearing (x := .disconnect) haside hs with ⟨hb, hw, hr⟩ | ⟨hslot, hturn⟩
    · exact .inl ⟨by rw [finish_bay, hb, hstate], hw, hr⟩
    · rw [acceptedAt_bay] at hturn
      exact .inr ⟨hslot, withdrawalStarted_finish_self (hturn.started (turnCause_disconnect hasks (.inr rfl)))⟩

/-- Settles O41: what every acceptance leaves, then the acceptance in PROBING and in ONLINE. -/
theorem agreeingAnswersAreAccepted : Obligations.AgreeingAnswersAreAccepted := by
  intro s b bytes a ha hl hr hw hc hn unfit asksAnew
  obtain ⟨hacc, hheard, -⟩ := heard_accepted b a s
  obtain ⟨hraised, hkept⟩ := packRequest_accepting b a s
  have hask : raisesPackRequest (heardBay s.profile a (s.bay b)) a.condition = true ↔ asksAnew := raisesPackRequest_heard _ _ _
  have hunfit : (newRecord s.profile a (s.bay b)).unfit a.condition = true ↔ unfit := unfit_newRecord _ _ _
  refine ⟨accepting b a s, exec_accepts ha hr hw hc hn, hacc, hheard, fun hx => hraised (hask.mpr hx), fun hx => hkept (mt hask.mp hx),
    fun hs => ?_, fun hs hfault => ?_, fun hs hready hreq hp hq => ?_⟩
  · by_cases hu : unfit
    · obtain ⟨htimer, hfaulted, hpend⟩ := probing_unfit hs (hunfit.mpr hu)
      exact ⟨htimer, fun _ => ⟨hfaulted, hpend⟩, fun hx => absurd hu hx⟩
    · have hu' := mt hunfit.mp hu
      cases hv : (s.bay b).leverTaken with
      | opened =>
        obtain ⟨htimer, hstate, hpend⟩ := probing_opened hs hu' hv
        exact ⟨htimer, fun hx => absurd hx hu, fun _ => ⟨hpend, fun _ => hstate, fun hx => by cases hx⟩⟩
      | locked =>
        obtain ⟨htimer, hpend, honline⟩ := probing_locked hl hs hu' hv
        exact ⟨htimer, fun hx => absurd hx hu, fun _ => ⟨hpend, (fun hx => by cases hx), fun _ => honline⟩⟩
  · have hout := failed_acceptance hl (.inl hs) (.inl hfault)
    exact ⟨hout.state, hout.fault, hout.away.waiting, hout.follows, hout.answered⟩
  · refine asked_accepting hl hs (fun hf => ?_) hp hq
    rcases hf with hf | ⟨hf, hz⟩
    · rw [hready] at hf; cases hf
    · rcases hreq with hreq | hreq
      · exact hf hreq
      · omega

end Sys2Proof.Machine
end

section
/-!
PROOFS. An acceptance in QUALIFIED, in a bay that goes on supplying, and in one that only holds it: O42.
-/
namespace Sys2Proof.Machine

/-! ### QUALIFIED -/

/-- R73: the second good answer in a row returns a link that is neither IN_STEP nor LOST. -/
def LinkReturns (r : BayRec) : Prop := r.link ≠ some .inStep ∧ r.link ≠ some .lost ∧ 1 ≤ r.goodRun

theorem goodStep_returns {r : BayRec} (hl : r.link ≠ none) :
    (goodStep r).link = some .inStep ∧ r.link ≠ some .inStep ↔ LinkReturns r := by
  obtain ⟨-, hseek, hin, hout, hlost⟩ := linkMoves_goodStep r
  unfold LinkReturns
  cases h : r.link with
  | none => exact absurd h hl
  | some l =>
    cases l with
    | seeking => rw [(hseek h).1]; simp [Nat.one_le_iff_ne_zero]
    | inStep => simp
    | outOfStep =>
      by_cases hg : 1 ≤ r.goodRun
      · rw [((hout h).1 hg).1]; simp [hg]
      · rw [((hout h).2 (by omega)).1]; simp [hg]
    | lost => rw [(hlost h).1]; simp

/-- A bay that holds a pack polls it. -/
theorem BayLaw.link_of_not_empty {r : BayRec} (h : BayLaw r) (hs : r.state ≠ .empty) : r.link ≠ none := by
  have hc : r.contact = .made := by
    cases hx : r.contact with
    | made => rfl
    | lost => exact absurd (h.contact.mp hx) hs
  have := h.link
  rw [hc] at this
  exact fun hn => by rw [hn] at this; cases this

theorem qualified_unfit {b : Bay} {a : Answer} {s : State} (h : (s.bay b).state = .qualified)
    (hu : (newRecord s.profile a (s.bay b)).unfit a.condition = true) :
    ((accepting b a s).bay b).state = .faulted ∧ Pending (.bay b .fault) (accepting b a s) := by
  have he : acceptance b a s = becomeFaulted b (acceptedAt b a s) := by
    rw [acceptance_qualified h]
    exact if_pos hu
  have hbay : (acceptance b a s).bay b = faultedBay ((acceptedAt b a s).bay b) := by rw [he, becomeFaulted_bay]
  rw [accepting_of_not_qualified (by rw [hbay]; exact fun hx => by cases hx), finish_bay, hbay]
  refine ⟨rfl, ?_⟩
  rw [he]
  exact pending_becomeFaulted b _

/-- R78, R79: the acceptance leaves a QUALIFIED bay as it is, and its link brings it ONLINE. -/
theorem qualified_fit {b : Bay} {a : Answer} {s : State} (hl : WithdrawalLaw s) (h : (s.bay b).state = .qualified)
    (hu : ¬(newRecord s.profile a (s.bay b)).unfit a.condition = true) :
    ((s.bay b).leverTaken = .locked → LinkReturns (s.bay b) → ((accepting b a s).bay b).state = .online ∧
      Pending (.bay b .qualified) (accepting b a s) ∧ SupplyFollows (accepting b a s) ∧
      WithdrawalTested false (withOnline b s) (accepting b a s)) ∧
    ((s.bay b).leverTaken = .opened ∨ ¬LinkReturns (s.bay b) → ((accepting b a s).bay b).state = .qualified) := by
  have he : acceptance b a s = acceptedAt b a s := by
    rw [acceptance_qualified h]
    exact if_neg hu
  obtain ⟨hstate, -, hlever, -, -, hlink⟩ := newRecord_keeps s.profile a (s.bay b)
  have hsome := (hl.part b).bay.link_of_not_empty (by rw [h]; decide)
  have hback : (s.bay b).comesBack ((acceptance b a s).bay b) = true ↔ (s.bay b).leverTaken = .locked ∧ LinkReturns (s.bay b) := by
    rw [comesBack_iff, he, acceptedAt_bay, hstate, hlever, hlink, goodStep_returns hsome, h]
    simp
  unfold accepting
  refine ⟨fun hk hx => ?_, fun hx => ?_⟩
  · rw [linkReturned_comes (hback.mpr ⟨hk, hx⟩), he]
    obtain ⟨hon, hpend⟩ := cameOnline_qualified hl (aside_acceptedAt b a s) (by rw [h]; rfl)
    exact ⟨by rw [finish_bay, hon.bay]; rfl, hpend, (supplyFollows_finish _).mpr (supplyFollows_of_fresh hon.fresh),
      (withdrawalTested_finish _ _ _).mpr hon.tested⟩
  · have hstay : ¬(s.bay b).comesBack ((acceptance b a s).bay b) = true := fun hc => by
      obtain ⟨hk, hret⟩ := hback.mp hc
      rcases hx with hx | hx
      · rw [hk] at hx; cases hx
      · exact hx hret
    rw [linkReturned_stays hstay]
    show ((finish (acceptance b a s)).bay b).state = _
    rw [finish_bay, he, acceptedAt_bay, hstate, h]

/-! ### A bay that goes on -/

theorem accepting_goes_on_online {b : Bay} {a : Answer} {s : State} (hl : WithdrawalLaw s) (h : (s.bay b).state = .online)
    (hf : ¬Fails a (s.bay b)) (hx : ¬AsksDisconnect (newRecord s.profile a (s.bay b))) :
    accepting b a s = finish (settle (acceptedAt b a s)) := by
  have he := acceptance_goes_on_online h hf hx
  rw [← he]
  refine accepting_of_not_qualified ?_
  rw [he]
  refine settle_not_qualified hl (aside_acceptedAt b a s).supply ?_
  rw [acceptedAt_bay, (newRecord_keeps _ _ _).1, h]
  decide

/-- R97, R101 to R103: the acceptance of an ONLINE bay that is not asked to withdraw. -/
theorem online_accepting {b : Bay} {a : Answer} {s : State} (hl : WithdrawalLaw s) (h : (s.bay b).state = .online)
    (hf : ¬Fails a (s.bay b)) (hx : ¬((s.bay b).policy = .act ∧ a.condition.request = .disconnect)) :
    SupplyFollows (accepting b a s) ∧ (s.supply.waiting ≠ some b → ((accepting b a s).bay b).state = .online) ∧
    (s.supply.waiting = some b →
      (((accepting b a s).bay b).state = .online ∧
        ((accepting b a s).supply.waiting = some b ∨ (accepting b a s).supply.slot = none)) ∨
      ((s.bay b).leverTaken = .opened ∧ WithdrawalStarted b .lever (accepting b a s) (accepting b a s))) := by
  have hasks := mt (asks_newRecord s.profile a (s.bay b)).mp hx
  have hsup := (aside_acceptedAt b a s).supply
  have hstate : ((acceptedAt b a s).bay b).state = .online := by rw [acceptedAt_bay]; exact (newRecord_keeps _ _ _).1.trans h
  obtain ⟨hslot, hwaits⟩ := hl.online_slots h hsup
  obtain ⟨hfree, hturn⟩ := online_settle hslot hwaits
  rw [hsup] at hfree hturn
  rw [accepting_goes_on_online hl h hf hasks]
  refine ⟨supplyFollows_settle _, fun hn => ?_, fun hw => ?_⟩
  · rw [finish_bay, (hfree hn).1, hstate]
  · rcases hturn hw with ⟨hb, hrest⟩ | ⟨cause, hc, hstart⟩
    · exact .inl ⟨by rw [finish_bay, hb, hstate], hrest⟩
    · rw [acceptedAt_bay] at hc
      obtain ⟨rfl, ho⟩ := turnCause_some_of_not_asking hasks hc
      exact .inr ⟨(newRecord_keeps _ _ _).2.2.1.symm.trans ho, withdrawalStarted_finish_self hstart⟩

/-- R74: the counted capability is afresh that of the condition accepted. -/
theorem counted_accepting (b : Bay) (a : Answer) (s : State) : ((accepting b a s).bay b).counted =
    countsNow a.condition (decide (a.charge ≤ s.store.working.lowCharge)) (s.bay b).policy := by
  obtain ⟨hacc, hheard, hreq⟩ := heard_accepted b a s
  obtain ⟨-, -, hexhausted, -, -, hcounted, -, -, -, -, hpolicy, -⟩ := hheard
  rw [← hexhausted, ← hpolicy]
  exact counted_of_follows hcounted hreq hacc

theorem turnToDisconnect_bay (b : Bay) (s : State) :
    (turnToDisconnect b s).bay b = { s.bay b with cause := some .disconnect, ejectWindow := none } := State.modifyBay_bay b _ s

/-- R97, R101: how a withdrawal that `v` leaves under way ends the event of an acceptance. -/
theorem withdrawing_accepting {b : Bay} {cause : Cause} {a : Answer} {s v : State} (hl : WithdrawalLaw s) (hu : Under b cause v)
    (hv : v.supply = s.supply) (he : acceptance b a s = settle v) :
    SupplyFollows (accepting b a s) ∧ OnItsWay b cause (accepting b a s) ∧
      (s.supply.phase = some .blocked → (accepting b a s).supply.phase = some .blocked) ∧
      (s.supply.phase = some .clearing → ¬HeldBlocked b (accepting b a s)) ∧
      (((accepting b a s).bay b).ejectWindow = (v.bay b).ejectWindow ∨ ((accepting b a s).bay b).ejectWindow = none) := by
  have ht : accepting b a s = finish (settle v) := by
    rw [← he]
    refine accepting_of_not_qualified ?_
    rw [he]
    exact settle_not_qualified hl hv (by rw [hu.state]; decide)
  obtain ⟨hway, hblocked, hheld⟩ := withdrawing_settle (s := s) hu (by rw [hv])
  rw [ht]
  refine ⟨supplyFollows_settle _, (onItsWay_finish _ _ _).mpr hway, hblocked, fun hp hh => hheld hp ((heldBlocked_finish _ _).mp hh), ?_⟩
  rw [finish_bay]
  rcases settle_bay_of_not_waiting hu.waiting with hb | hb
  · exact .inl (by rw [hb])
  · exact hb.window

/-! ### A bay that only holds the acceptance -/

theorem held_accepting {b : Bay} {a : Answer} {s : State} (h : (s.bay b).state = .released ∨ (s.bay b).state = .faulted) :
    (accepting b a s).bay b = newRecord s.profile a (s.bay b) ∧ (accepting b a s).supply.slot = s.supply.slot ∧
      (accepting b a s).supply.phase = s.supply.phase := by
  have he := acceptance_held (a := a) h
  have hstate : ((acceptance b a s).bay b).state = (s.bay b).state := by rw [he, acceptedAt_bay]; exact (newRecord_keeps _ _ _).1
  have ht : accepting b a s = finish (acceptedAt b a s) := by
    rw [← he]
    refine accepting_of_not_qualified ?_
    rw [hstate]
    rcases h with h | h <;> rw [h] <;> decide
  rw [ht]
  refine ⟨by rw [finish_bay, acceptedAt_bay], ?_, ?_⟩
  · rw [finish_supply, (aside_acceptedAt b a s).supply]
  · rw [finish_supply, (aside_acceptedAt b a s).supply]

/-- Settles O42: the acceptance by the state of the bay. -/
theorem acceptanceInTheOtherStates : Obligations.AcceptanceInTheOtherStates := by
  intro s b bytes a ha hl hr hw hc hn c asks fails returns
  obtain ⟨hacc, hheard, hreq⟩ := heard_accepted b a s
  have hunfit : (newRecord s.profile a (s.bay b)).unfit a.condition = true ↔ c.state = .fault ∨ c.capability = 0 ∨ asks :=
    unfit_newRecord _ _ _
  have hasks : AsksDisconnect (newRecord s.profile a (s.bay b)) ↔ asks := asks_newRecord _ _ _
  have hbay := acceptedAt_bay b a s
  have hsup := (aside_acceptedAt b a s).supply
  obtain ⟨hstate, -, -, hcause, hwindow, -⟩ := newRecord_keeps s.profile a (s.bay b)
  refine ⟨accepting b a s, exec_accepts ha hr hw hc hn, hacc, hheard, fun hs => ⟨fun hu => qualified_unfit hs (hunfit.mpr hu),
    fun hready hcap hnot => ?_⟩, fun hs hf => ?_, fun hs hf hx hwait => ?_, fun hs hf hx hwait => ?_, fun cause hs hcs hf => ?_, fun hs => ?_⟩
  · have hfit : ¬(newRecord s.profile a (s.bay b)).unfit a.condition = true := fun hu => by
      rcases hunfit.mp hu with hfault | hzero | hx
      · rw [hready] at hfault; cases hfault
      · omega
      · exact hnot hx
    obtain ⟨honline, hstays⟩ := qualified_fit hl hs hfit
    exact ⟨hacc, honline, hstays⟩
  · have hout := failed_acceptance hl hs hf
    exact ⟨hout.state, hout.requalify, hout.fault, hout.away.slot, hout.away.waiting, hout.follows, hout.answered, hout.passes⟩
  · obtain ⟨hfollows, honline, -⟩ := online_accepting hl hs hf hx
    exact ⟨honline hwait, hacc, hreq, hfollows, counted_accepting b a s⟩
  · obtain ⟨-, -, hturn⟩ := online_accepting hl hs hf hx
    exact ⟨hacc, hreq, hturn hwait⟩
  · have hunder := hl.under_of_withdrawing hs hcs
    by_cases hx : asks
    · have hu := hunder.aside (v := turnToDisconnect b (acceptedAt b a s)) (cause' := .disconnect)
        ((State.modifyBay_supply b _ _).trans hsup) (by rw [turnToDisconnect_bay, hbay]; exact hstate) (by rw [turnToDisconnect_bay])
      obtain ⟨hfollows, hway, hblocked, hheld, hwin⟩ := withdrawing_accepting hl hu ((State.modifyBay_supply b _ _).trans hsup)
        (acceptance_asks_withdrawing hs hf (hasks.mpr hx))
      rw [turnToDisconnect_bay] at hwin
      exact ⟨hacc, hreq, hfollows, hblocked, hheld, fun _ => ⟨hway, hwin.elim id id⟩, fun hy => absurd hx hy⟩
    · have hu := hunder.aside hsup (by rw [hbay, hstate]) (by rw [hbay, hcause, hcs])
      obtain ⟨hfollows, hway, hblocked, hheld, -⟩ := withdrawing_accepting hl hu hsup
        (acceptance_goes_on_withdrawing hs hf (mt hasks.mp hx))
      exact ⟨hacc, hreq, hfollows, hblocked, hheld, fun hy => absurd hy hx, fun _ => hway⟩
  · obtain ⟨hb, hslot, hphase⟩ := held_accepting (a := a) hs
    refine ⟨?_, hslot, hphase⟩
    rw [hb, ← hstate, ← hcause, ← hwindow]
    rfl

end Sys2Proof.Machine
end

section
/-!
PROOFS. What every event, every request and every claim hands over and does to the attention state: each party hands over claims of its own alone.
-/
namespace Sys2Proof.Machine

/-! ### The events of a block -/

theorem acts_changeButton (down : Bool) (s : State) : Acts .systemPower s (changeButton down s) := .ite (.refl s) (.system _ s)

theorem acts_enterDark (s : State) : Acts .systemPower s (enterDark s) := acts_enterState _ s

theorem acts_judgePress (s : State) : Acts .systemPower s (judgePress s) := .ite (acts_enterState _ s) (.system _ s)

theorem acts_failLine (n : Line) (s : State) : Acts .sequencer s (failLine n s) := acts_episodeHand (.of_route rfl) _ s

theorem Acts.store (r : StoreRec) (s : State) : Acts p s { s with store := r } := .same rfl rfl

theorem acts_endStore (passes : Bool) (s : State) : Acts .profileStore s (endStore passes s) := by
  unfold endStore
  split
  · exact (Acts.store _ s).trans (.raise _ _)
  · exact .refl s

/-- The block whose timer, input or sensor an event is. -/
def eventBlock (c : Instr) : Party :=
  if isLoadEvent c then .loadManager
  else if isLightCommand c then .backlight
  else if isMotionCommand c then .motionMonitor
  else if isEpisodeCommand c then .sequencer
  else if isSystemCommand c then .systemPower
  else if isStoreCommand c then .profileStore
  else .supplyController

theorem acts_eventChange (c : Instr) (s : State) : Acts (eventBlock c) s (eventChange c s) := by
  by_cases hs : isSupplyCommand c = true
  · have hb : eventBlock c = .supplyController := by
      cases c <;> simp only [isSupplyCommand, Bool.false_eq_true] at hs <;> rfl
    rw [hb]
    exact (side_supplyEvent hs s).acts
  · by_cases ho : isOwnEvent c = true
    · cases c <;> simp only [isOwnEvent, isSupplyCommand, Bool.false_eq_true, not_true_eq_false] at ho hs
      case graceExpiry i => exact acts_expireGrace i s
      case holdoffExpiry i => exact acts_expireHoldoff i s
      case lapse i => exact acts_lapseEntry i s
      case readEvent front rear => exact .ite (acts_readSensors front rear s) (.refl s)
      case rampStep => exact .ite (.light _ s) (.refl s)
      case pinExpiry => exact .ite (acts_expirePin s) (.refl s)
      case sampleEvent reading => exact .ite (acts_takeSample reading s) (.refl s)
      case doneInputChange n active => exact acts_changeDone n active s
      case parkTimerExpiry n => exact .ite (acts_failLine n s) (.refl s)
      case unparkTimerExpiry n => exact .ite (acts_finishLift n s) (.refl s)
      case buttonChange down => exact acts_changeButton down s
      case pressTimerExpiry => exact .ite (acts_judgePress s) (.refl s)
      case holdTimerExpiry => exact .ite (acts_enterDark s) (.refl s)
      case startTimerExpiry => exact .ite (acts_enterDark s) (.refl s)
      case stopTimerExpiry => exact .ite (acts_enterDark s) (.refl s)
      case storeTimerExpiry passes => exact acts_endStore passes s
    · rw [eventChange_of_not_own (by simpa using ho)]
      exact .refl s

/-! ### The claims -/

/-- The party that speaks for the one that takes a claim: the Supply Controller speaks for the Bay Units. -/
def Party.speaker : Party → Party
  | .bayUnit _ => .supplyController
  | p => p

theorem acts_systemTakes (c : Instr) (s : State) : Acts .systemPower s (systemTakes c s) := by
  unfold systemTakes
  split
  · exact .ite (.refl s) (acts_enterDark s)
  · exact .refl s

theorem acts_attentionTakes (c : Instr) (s : State) : Acts .attention s (attentionTakes c s) := by
  unfold attentionTakes
  split
  · exact acts_emptied _ s
  · exact .refl s

theorem acts_receives (p : Party) (c : Instr) (s : State) : Acts p.speaker s (receives p c s) := by
  cases p with
  | loadManager => exact acts_loadTakes c s
  | supplyController => exact (side_supplyTakes c s).acts
  | bayUnit b => exact (side_bayTakes c s).acts
  | backlight => exact acts_lightTakes c s
  | motionMonitor => exact acts_motionTakes c s
  | sequencer => exact acts_sequencerTakes c s
  | attention => exact acts_attentionTakes c s
  | systemPower => exact acts_systemTakes c s
  | inputs => exact .refl s
  | profileStore => exact .refl s

/-! ### The requests -/

theorem ReasonsLaw.acknowledge {r : AttentionRec} (h : ReasonsLaw r) (i : Fin 30) (reasons : Byte) : ReasonsLaw (r.acknowledge i reasons) := by
  intro j
  have hj := h j
  by_cases hij : j = i
  · subst hij
    have hset : (r.acknowledge j reasons).sets[j] = r.sets[j] &&& ~~~reasons := by simp [AttentionRec.acknowledge]
    rw [hset, BitVec.and_assoc, BitVec.and_comm (~~~reasons), ← BitVec.and_assoc, hj]
    exact BitVec.zero_and
  · have hne : i.val ≠ j.val := fun he => hij (Fin.ext he.symm)
    have hset : (r.acknowledge i reasons).sets[j] = r.sets[j] := by simp [AttentionRec.acknowledge, hne]
    rw [hset]
    exact hj

theorem acts_acknowledge (source : Nat) (reasons : Byte) (s : State) : Acts .attention s (acknowledgeRequest source reasons s).1 := by
  unfold acknowledgeRequest
  split
  · exact .require ⟨⟨[], (List.append_nil _).symm, fun c hc => by cases hc⟩, rfl, fun h => h.acknowledge _ _⟩
  · exact .refl s

theorem sent_settingClaims (n : Nat) (q : Profile) : ∀ c ∈ settingClaims n q, SentBy .profileStore c := by
  unfold settingClaims
  repeat' split
  · exact fun c hc => sentBy_of_mem (.of_route rfl) hc
  · exact fun c hc => sentBy_of_mem (.of_route rfl) hc
  · exact fun c hc => sentBy_of_mem (.of_route rfl) hc
  · exact fun c hc => sentBy_of_mem (.of_route rfl) hc
  · exact fun c hc => by cases hc

theorem acts_writeProfile (n : Nat) (q : Profile) (s : State) : Acts .profileStore s (writeProfile n q s) :=
  .ite (.refl s) ⟨⟨_, rfl, sent_settingClaims n q⟩, rfl, id⟩

theorem acts_profileWrite (n : Nat) (value : List Byte) (s : State) : Acts .profileStore s (profileWriteRequest n value s).1 := by
  refine .require (.require (.require ?_))
  split
  · exact .refl s
  · exact acts_writeProfile _ _ s

theorem bayStatusRequest_state (bay : Nat) (s : State) : (bayStatusRequest bay s).1 = s := by
  unfold bayStatusRequest
  split <;> rfl

theorem lightStatusRequest_state (part : Nat) (s : State) : (lightStatusRequest part s).1 = s := by
  unfold lightStatusRequest
  split
  · rfl
  · split <;> rfl

theorem profileReadRequest_state (n : Nat) (s : State) : (profileReadRequest n s).1 = s := by
  unfold profileReadRequest
  split <;> rfl

theorem acts_of_state_eq {x : State × Reply} {s : State} (h : x.1 = s) : Acts p s x.1 := by
  rw [h]
  exact .refl s

/-- What a request does, but for the two that change the masks. -/
theorem acts_request {c : Instr} (hr : c ≠ .partReset) (hm : ∀ m, c ≠ .mask m) (s : State) :
    ∃ p, p ≠ .inputs ∧ Acts p s (requestChange c s).1 := by
  by_cases hl : isLoadRequest c = true
  · exact ⟨_, by decide, acts_loadRequest hl s⟩
  by_cases hs : isSupplyCommand c = true
  · exact ⟨_, by decide, (side_supplyRequest hs s).acts⟩
  by_cases ho : isPlainRequest c = true
  · cases c <;> simp [isPlainRequest, isFrame, isRequest, isLoadRequest, isSupplyCommand] at hl hs ho
    case bayStatus bay => exact ⟨.attention, by decide, acts_of_state_eq (bayStatusRequest_state bay s)⟩
    case supplyStatus => exact ⟨.attention, by decide, .refl s⟩
    case lightStatus part => exact ⟨.attention, by decide, acts_of_state_eq (lightStatusRequest_state part s)⟩
    case curveSet points => exact ⟨_, by decide, .require (.require (.require (acts_retargetAfter _ s)))⟩
    case curveAdd q => exact ⟨_, by decide, .require (.require (.require (acts_retargetAfter _ s)))⟩
    case curveRemove lux => exact ⟨_, by decide, .require (acts_retargetAfter _ s)⟩
    case panel value => exact ⟨_, by decide, .require (.ite (.refl s) (acts_retargetAfter _ s))⟩
    case pin level duration => exact ⟨_, by decide, .require (acts_retargetAfter _ s)⟩
    case unpin => exact ⟨_, by decide, .require (acts_retargetAfter _ s)⟩
    case fallStatus => exact ⟨.attention, by decide, .refl s⟩
    case arm => exact ⟨.motionMonitor, by decide, .ite (.refl s) (.motion _ s)⟩
    case disarm => exact ⟨.motionMonitor, by decide, (Acts.motion _ s).trans (.hand (.of_route rfl) _)⟩
    case simulateFall => exact ⟨.motionMonitor, by decide, .require ((Acts.motion _ s).trans (.hand (.of_route rfl) _))⟩
    case resume => exact ⟨_, by decide, .require (acts_enterRecovering s)⟩
    case ready => exact ⟨_, by decide, .require (acts_enterState _ s)⟩
    case powerOff => exact ⟨_, by decide, .require (acts_enterState _ s)⟩
    case partReset => exact absurd rfl hr
    case profileRead n => exact ⟨.profileStore, by decide, acts_of_state_eq (profileReadRequest_state n s)⟩
    case profileWrite n value => exact ⟨_, by decide, acts_profileWrite n value s⟩
    case profileStore => exact ⟨.profileStore, by decide, .require (.store _ s)⟩
    case summary => exact ⟨.attention, by decide, .refl s⟩
    case acknowledge source reasons => exact ⟨_, by decide, acts_acknowledge source reasons s⟩
    case mask m => exact absurd rfl (hm m)
  · rw [requestChange_of_no_request (by simpa using ho) (by simpa using hl)]
    exact ⟨.attention, by decide, .refl s⟩

end Sys2Proof.Machine
end

section
/-!
PROOFS. The order in which what was handed over is taken: O4.
-/
namespace Sys2Proof.Machine

/-! ### What waits before a command -/

theorem passes_front {c : Instr} {x : Route} {front : List Instr} (hc : route c = some x) (hfront : ∀ y ∈ front, route y ≠ some x) :
    ∀ y ∈ front, (y != c) = true := fun y hy => bne_iff_ne.mpr fun he => hfront y hy (he ▸ hc)

theorem filter_front {c : Instr} {x : Route} {front : List Instr} (hc : route c = some x) (hfront : ∀ y ∈ front, route y ≠ some x) :
    front.filter (fun y => route y == route c) = [] :=
  List.filter_eq_nil_iff.mpr fun y hy he => hfront y hy ((beq_iff_eq.mp he).trans hc)

theorem filter_resets {front : List Instr} (hfront : ∀ y ∈ front, isLoadReset y = false) : front.filter isLoadReset = [] :=
  List.filter_eq_nil_iff.mpr fun y hy he => by rw [hfront y hy] at he; cases he

/-- The commands that share a route with one that no party has handed over before the first of them. -/
theorem before_of_front {c d : Instr} {x : Route} {front back : List Instr} {s : State} (hs : s.handed = front ++ d :: back)
    (hc : route c = some x) (hd : route d = some x) (hne : d ≠ c) (hfront : ∀ y ∈ front, route y ≠ some x) :
    s.before c = d :: (back.takeWhile fun y => y != c).filter fun y => route y == route c := by
  rw [State.before, hs, List.takeWhile_append_of_pos (passes_front hc hfront), List.filter_append, filter_front hc hfront,
    List.takeWhile_cons_of_pos (p := fun y => y != c) (bne_iff_ne.mpr hne), List.nil_append,
    List.filter_cons_of_pos (p := fun y => route y == route c) (beq_iff_eq.mpr (hd.trans hc.symm))]

theorem foremost_of_front {d : Instr} {x : Route} {front back : List Instr} {s : State} (hs : s.handed = front ++ d :: back)
    (hd : route d = some x) (hfront : ∀ y ∈ front, route y ≠ some x) : Foremost d s := by
  unfold Foremost
  rw [State.before, hs, List.takeWhile_append_of_pos (passes_front hd hfront), List.takeWhile_cons_of_neg (by simp), List.append_nil,
    filter_front hd hfront]

/-- What comes behind on other routes does not wait before a command. -/
theorem filter_takeWhile_append {α : Type} {p q : α → Bool} (l : List α) {new : List α} (h : ∀ y ∈ new, p y = false) :
    ((l ++ new).takeWhile q).filter p = (l.takeWhile q).filter p := by
  have hnone : (new.takeWhile q).filter p = [] :=
    List.filter_eq_nil_iff.mpr fun y hy he => by rw [h y (List.takeWhile_subset q hy)] at he; cases he
  rw [List.takeWhile_append]
  split
  next hall =>
    rw [List.filter_append, hnone, List.append_nil, (List.takeWhile_prefix q).eq_of_length hall]
  · rfl

theorem erase_of_front {d : Instr} {front back : List Instr} (h : d ∉ front) : (front ++ d :: back).erase d = front ++ back := by
  rw [List.erase_append_right _ h, List.erase_cons_head]

/-! ### What taking a claim leaves waiting -/

/-- No party hands a claim to itself. -/
theorem route_sender_ne {c : Instr} {r : Route} (h : route c = some r) : r.receiver.speaker ≠ r.sender := by
  cases c <;> simp only [route, reduceCtorEq, Option.some.injEq] at h <;> subst h <;> simp [Party.speaker]

theorem route_of_sentBy {p : Party} {c : Instr} {x : Route} (h : SentBy p c) (hx : p ≠ x.sender) : route c ≠ some x := by
  obtain ⟨r, hr, rfl⟩ := h
  rw [hr]
  rintro ⟨⟩
  exact hx rfl

/-- What the receiver of a claim leaves handed over: nothing new on the claim's own route. -/
theorem handed_taken {d : Instr} {x : Route} {front back : List Instr} {s : State} (ha : Alive s) (hs : s.handed = front ++ d :: back)
    (hd : route d = some x) (hfront : ∀ y ∈ front, route y ≠ some x) :
    ∃ new, (taken (receives x.receiver) s d).handed = front ++ back ++ new ∧ ∀ y ∈ new, route y ≠ some x := by
  obtain ⟨new, hnew, hsent⟩ := (acts_receives x.receiver d (s.take d)).handed
  refine ⟨new, ?_, fun y hy => route_of_sentBy (hsent y hy) (route_sender_ne hd)⟩
  rw [taken, eventState, if_neg ha]
  exact hnew.trans (congrArg (· ++ new) ((congrArg (·.erase d) hs).trans (erase_of_front fun hy => hfront d hy hd)))

/-- R149, R157: a claim behind an older one of its route, once that has been taken. -/
theorem claim_in_order {c d : Instr} {front back : List Instr} {s : State} {x : Route} (hs : s.handed = front ++ d :: back)
    (hc : route c = some x) (hd : route d = some x) (hne : d ≠ c) (hfront : ∀ y ∈ front, route y ≠ some x) :
    ∃ t, exec d s = .next t ∧ exec c s = exec c t := by
  have hexec : exec d s = .next (taken (receives x.receiver) s d) := by
    rw [exec_claim hd, handover, inOrder_of_foremost (foremost_of_front hs hd hfront)]
  refine ⟨_, hexec, ?_⟩
  by_cases ha : Alive s
  · obtain ⟨new, hnew, hother⟩ := handed_taken ha hs hd hfront
    have hbefore : (taken (receives x.receiver) s d).before c = (back.takeWhile fun y => y != c).filter fun y => route y == route c := by
      rw [State.before, hnew, filter_takeWhile_append _ fun y hy => beq_eq_false_iff_ne.mpr (hc ▸ hother y hy),
        List.takeWhile_append_of_pos (passes_front hc hfront), List.filter_append, filter_front hc hfront, List.nil_append]
    rw [exec_claim hc, exec_claim hc, handover, handover, inOrder_of_before (before_of_front hs hc hd hne hfront), State.inOrder, hbefore]
  · have hstop : taken (receives x.receiver) s d = s := if_pos (Classical.not_not.mp ha)
    rw [hstop]

/-! ### A load request behind a reset -/

theorem isLoadReset_of_reset {d : Instr} (h : d = .loadManagerPartReset ∨ d = .loadManagerSystemOffClear) : isLoadReset d = true := by
  rcases h with rfl | rfl <;> rfl

theorem not_isLoadReset {y : Instr} (h : y ≠ .loadManagerPartReset ∧ y ≠ .loadManagerSystemOffClear) : isLoadReset y = false := by
  cases y <;> first
    | rfl
    | exact absurd rfl h.1
    | exact absurd rfl h.2

theorem atLoadManager_of_front {d : Instr} {front back : List Instr} {s : State} (hs : s.handed = front ++ d :: back)
    (hd : isLoadReset d = true) (hfront : ∀ y ∈ front, isLoadReset y = false) :
    atLoadManager s = (back.filter isLoadReset).foldl (taken loadResetTakes) (taken loadResetTakes s d) := by
  rw [atLoadManager, hs, List.filter_append, filter_resets hfront, List.nil_append, List.filter_cons_of_pos hd, List.foldl_cons]

/-- R57, R203: a load request behind a reset handed to the Load Manager, once that has been taken. -/
theorem request_behind_reset {c d : Instr} {front back : List Instr} {s : State} (hs : s.handed = front ++ d :: back)
    (hc : isLoadRequest c = true) (hd : isLoadReset d = true) (hfront : ∀ y ∈ front, isLoadReset y = false) :
    ∃ t, exec d s = .next t ∧ exec c s = exec c t := by
  have hroute := route_of_isLoadReset hd
  have hother : ∀ y ∈ front, route y ≠ some ⟨.systemPower, .loadManager⟩ := fun y hy he => by
    have := hfront y hy
    unfold isLoadReset at this
    rw [he] at this
    simp at this
  have hexec : exec d s = .next (taken loadResetTakes s d) := by
    rw [exec_claim hroute, handover, inOrder_of_foremost (foremost_of_front hs hroute hother), taken_eq_claimChange hroute, taken_reset hd]
  refine ⟨_, hexec, ?_⟩
  by_cases ha : Alive s
  · obtain ⟨new, hnew, hsent⟩ := handed_taken ha hs hroute hother
    rw [taken_eq_claimChange hroute, ← taken_reset hd] at hnew
    have hwaits : (taken loadResetTakes s d).handed.filter isLoadReset = back.filter isLoadReset := by
      have hnone : new.filter isLoadReset = [] := List.filter_eq_nil_iff.mpr fun y hy he => hsent y hy (route_of_isLoadReset he)
      rw [hnew, List.filter_append, List.filter_append, filter_resets hfront, hnone, List.nil_append, List.append_nil]
    have hboth : atLoadManager s = atLoadManager (taken loadResetTakes s d) := by
      rw [atLoadManager_of_front hs hd hfront, atLoadManager, hwaits]
    rw [exec_loadRequest hc, exec_loadRequest hc, loadRequest, loadRequest, hboth]
  · have hstop : taken loadResetTakes s d = s := if_pos (Classical.not_not.mp ha)
    rw [hstop]

/-- Settles O4: a claim behind a claim of its route, a load request behind a reset. -/
theorem claimsAreTakenInTheOrderHanded : Obligations.ClaimsAreTakenInTheOrderHanded := fun _ _ _ _ _ hs =>
  ⟨fun _ hc hd hne hfront => claim_in_order hs hc hd hne hfront,
    fun hc hd hfront => request_behind_reset hs hc (isLoadReset_of_reset hd) fun y hy => not_isLoadReset (hfront y hy)⟩

end Sys2Proof.Machine
end

section
/-!
PROOFS. What every operation of the Load Manager does to the Draft List and to the slot 0 grant last handed over, and what it tells of its results.
-/
namespace Sys2Proof.Machine

/-! ### Inside an event -/

/-- What an event of the Load Manager leaves of the table beside its entries before it hands its results over. -/
structure Inner (s t : State) : Prop where
  grantHanded : t.load.grantHanded = s.load.grantHanded
  draft : t.load.draft = s.load.draft ∨ t.load.draft = []

variable {s t u : State}

theorem Inner.refl (s : State) : Inner s s := ⟨rfl, .inl rfl⟩

theorem Inner.trans (h : Inner s t) (k : Inner t u) : Inner s u :=
  ⟨k.grantHanded.trans h.grantHanded, k.draft.elim (fun hd => hd ▸ h.draft) .inr⟩

theorem Inner.ite {q : Prop} [Decidable q] (h : Inner s t) (k : Inner s u) : Inner s (if q then t else u) := by
  split
  · exact h
  · exact k

/-- A table that differs in its entries, its order or its counter. -/
theorem Inner.load {L : LoadRec} (hg : L.grantHanded = s.load.grantHanded) (hd : L.draft = s.load.draft) : Inner s { s with load := L } :=
  ⟨hg, .inl hd⟩

/-- A table whose Draft List is emptied. -/
theorem Inner.emptied {L : LoadRec} (hg : L.grantHanded = s.load.grantHanded) (hd : L.draft = []) : Inner s { s with load := L } :=
  ⟨hg, .inr hd⟩

theorem Inner.raise (a : Attention) (s : State) : Inner s (s.raise a) := ⟨rfl, .inl rfl⟩

theorem Inner.attention (r : AttentionRec) (s : State) : Inner s { s with attention := r } := ⟨rfl, .inl rfl⟩

theorem Inner.load_raise {L : LoadRec} (hg : L.grantHanded = s.load.grantHanded) (hd : L.draft = s.load.draft) (a : Attention) :
    Inner s (({ s with load := L }).raise a) := ⟨hg, .inl hd⟩

theorem Inner.raiseAll (as : List Attention) (s : State) : Inner s (s.raiseAll as) := by
  constructor
  · rw [State.raiseAll_load]
  · rw [State.raiseAll_load]
    exact .inl rfl

theorem grantHanded_modifyEntry (L : LoadRec) (i : Slot) (f : Entry → Entry) : (L.modifyEntry i f).grantHanded = L.grantHanded := by
  unfold LoadRec.modifyEntry
  split <;> rfl

theorem inner_runWalk (s : State) : Inner s (runWalk s) := by
  obtain ⟨-, -, -, hdraft, -, hhanded⟩ := LoadRec.walked_keeps s.profile s.load
  exact ⟨(congrArg LoadRec.grantHanded (load_runWalk s)).trans hhanded, .inl ((congrArg LoadRec.draft (load_runWalk s)).trans hdraft)⟩

theorem Inner.walked (h : Inner s t) : Inner s (runWalk t) := h.trans (inner_runWalk t)

theorem inner_walkWhenAny (is : List Slot) (s : State) : Inner s (walkWhenAny is s) := .ite (.refl s) (inner_runWalk s)

theorem inner_cutSlots (is : List Slot) (s : State) : Inner s (cutSlots is s) := by
  induction is generalizing s with
  | nil => exact .refl s
  | cons i is ih =>
    exact ((Inner.load (L := (s.load.modifyEntry i heldEntry).leave i) (grantHanded_modifyEntry _ _ _) (draft_modifyEntry _ _ _)).trans
      (.raise _ _)).trans (ih _)

theorem inner_returnSlots (is : List Slot) (s : State) : Inner s (returnSlots is s) := by
  induction is generalizing s with
  | nil => exact .refl s
  | cons i is ih =>
    refine Inner.trans ?_ (ih (returnSlot s i))
    unfold returnSlot
    split
    · exact .load rfl rfl
    · exact .refl s

theorem inner_releaseSlot (i : Slot) (s : State) : Inner s (releaseSlot i s) := ⟨rfl, .inl rfl⟩

theorem inner_releaseHostSlots (s : State) : Inner s (releaseHostSlots s) := by
  unfold releaseHostSlots
  generalize (s.load.slotsWhere fun _ => true).filter (fun i => i != 0) = is
  induction is generalizing s with
  | nil => exact .refl s
  | cons i is ih => exact (inner_releaseSlot i s).trans (ih _)

theorem mapEntries_keeps (L : LoadRec) (f : Slot → Entry → Entry) :
    (L.mapEntries f).grantHanded = L.grantHanded ∧ (L.mapEntries f).draft = L.draft := by
  constructor <;> simp only [LoadRec.mapEntries]

theorem inner_mapEntries (f : Slot → Entry → Entry) (s : State) : Inner s { s with load := s.load.mapEntries f } :=
  .load (mapEntries_keeps _ f).1 (mapEntries_keeps _ f).2

theorem inner_protect (s : State) : Inner s (protect s) := by
  have hmark : Inner s { s with load := ({ s.load with freeze := true }).mapEntries fun _ e => markParking e } :=
    .load (mapEntries_keeps { s.load with freeze := true } _).1 (mapEntries_keeps { s.load with freeze := true } _).2
  exact (hmark.trans (inner_cutSlots _ _)).trans (inner_walkWhenAny _ _)

theorem inner_lineFailed (n : Line) (s : State) : Inner s (lineFailed n s) :=
  (((inner_mapEntries _ s).trans (.raiseAll _ _)).trans (inner_cutSlots _ _)).trans (inner_walkWhenAny _ _)

theorem inner_cutReturn (s : State) : Inner s (cutReturn s) := (inner_returnSlots _ s).trans (inner_walkWhenAny _ _)

theorem inner_lineReturn (n : Line) (s : State) : Inner s (lineReturn n s) :=
  ((inner_mapEntries _ s).trans (inner_returnSlots _ _)).trans (inner_walkWhenAny _ _)

theorem inner_lift (s : State) : Inner s (lift s) := .ite (Inner.walked (.load rfl rfl)) (.refl s)

theorem inner_claimSlot0 (r m : Nat) (s : State) : Inner s (claimSlot0 r m s) := by
  unfold claimSlot0
  split
  · exact .ite (.refl s) (.ite (.load rfl rfl) (Inner.walked (.load rfl rfl)))
  · exact .refl s

/-! ### What an event tells -/

/-- R4, R37, R130: a changed total and a changed slot 0 grant are told. -/
structure LoadTold (s t : State) : Prop where
  total : t.load.countedTotal = s.load.countedTotal ∨ .countedTotalHandover t.load.countedTotal ∈ t.handed
  grant : s.load.grantHanded = s.load.slot0Grant → t.load.grantHanded = t.load.slot0Grant ∧
    (t.load.slot0Grant = s.load.slot0Grant ∨ ∃ answer, .slot0GrantHandoff t.load.slot0Grant answer ∈ t.handed)

/-- The records count and are granted what they were. -/
theorem LoadTold.still (hc : ∀ i, t.load.countedAt i = s.load.countedAt i) (hg : t.load.slot0Grant = s.load.slot0Grant)
    (hh : t.load.grantHanded = s.load.grantHanded) : LoadTold s t :=
  ⟨.inl (countedTotal_congr hc), fun h => ⟨hh.trans (h.trans hg.symm), .inl hg⟩⟩

theorem LoadTold.of_load (h : t.load = s.load) : LoadTold s t := .still (fun _ => by rw [h]) (by rw [h]) (by rw [h])

theorem LoadTold.of_entries (he : ∀ i, t.load.entry i = s.load.entry i) (hh : t.load.grantHanded = s.load.grantHanded) : LoadTold s t :=
  .still (fun i => by unfold LoadRec.countedAt; rw [he]) (by unfold LoadRec.slot0Grant; rw [he]) hh

/-- The claims before them stand, the results handed over come behind. -/
theorem LoadTold.handed_mem (h : LoadTold s t) (hl : u.load = t.load) (hm : ∀ c ∈ t.handed, c ∈ u.handed) : LoadTold s u := by
  obtain ⟨htotal, hgrant⟩ := h
  refine ⟨by rw [hl]; exact htotal.imp_right (hm _), fun hx => ?_⟩
  obtain ⟨hh, hg⟩ := hgrant hx
  rw [hl]
  exact ⟨hh, hg.imp_right fun ⟨answer, ha⟩ => ⟨answer, hm _ ha⟩⟩

theorem slot0Grant_handLoadResults (before : LoadRec) (answer : Bool) (s : State) :
    (handLoadResults before answer s).load.slot0Grant = s.load.slot0Grant := by
  unfold LoadRec.slot0Grant
  rw [entry_handLoadResults]

/-- R37, R130: the grant handed over is the grant of slot 0, told where it was another. -/
theorem grantHanded_handLoadResults (before : LoadRec) (answer : Bool) (s : State) :
    (handLoadResults before answer s).load.grantHanded = s.load.slot0Grant ∧
      (s.load.slot0Grant = s.load.grantHanded ∨ .slot0GrantHandoff s.load.slot0Grant answer ∈ (handLoadResults before answer s).handed) := by
  have hsame : ∀ v : State, v.load = s.load →
      (if answer || v.load.slot0Grant != v.load.grantHanded then
        { v with load := { v.load with grantHanded := v.load.slot0Grant } }.hand (.slot0GrantHandoff v.load.slot0Grant answer)
      else v).load.grantHanded = s.load.slot0Grant ∧ (s.load.slot0Grant = s.load.grantHanded ∨ .slot0GrantHandoff s.load.slot0Grant answer ∈
        (if answer || v.load.slot0Grant != v.load.grantHanded then
          { v with load := { v.load with grantHanded := v.load.slot0Grant } }.hand (.slot0GrantHandoff v.load.slot0Grant answer)
        else v).handed) := fun v hv => by
    rw [hv]
    split
    · exact ⟨rfl, .inr (List.mem_append_right _ (List.mem_singleton.mpr rfl))⟩
    next hx =>
      simp only [Bool.or_eq_true, bne_iff_ne, ne_eq, not_or, Classical.not_not] at hx
      exact ⟨(congrArg LoadRec.grantHanded hv).trans hx.2.symm, .inl hx.2⟩
  exact hsame _ (by split <;> rfl)

/-- R4, R37, R130: what an event hands over at its end. -/
theorem told_handLoadResults_of_grant {answer : Bool} (h : u.load.grantHanded = s.load.grantHanded) : LoadTold s (handLoadResults s.load answer u) := by
  obtain ⟨hhanded, htold⟩ := grantHanded_handLoadResults s.load answer u
  refine ⟨?_, fun hx => ?_⟩
  · by_cases hc : u.load.countedTotal = s.load.countedTotal
    · exact .inl ((countedTotal_handLoadResults _ _ _).trans hc)
    · rw [countedTotal_handLoadResults]
      exact .inr (told_countedTotal hc)
  · rw [slot0Grant_handLoadResults]
    exact ⟨hhanded, htold.imp (fun he => he.trans (h.trans hx)) fun hm => ⟨answer, hm⟩⟩

theorem told_handLoadResults {answer : Bool} (h : Inner s u) : LoadTold s (handLoadResults s.load answer u) :=
  told_handLoadResults_of_grant h.grantHanded

theorem told_loadChange {f : State → State} (h : Inner s (f s)) : LoadTold s (loadChange f s) := told_handLoadResults h

theorem LoadTold.require {g : Bool} {st : Status} {x : State × Reply} (h : LoadTold s x.1) : LoadTold s (Machine.require g st s x).1 :=
  require_cases (.of_load rfl) fun _ => h

/-! ### The events and the claims -/

theorem told_expireGrace (i : Slot) (s : State) : LoadTold s (expireGrace i s) := by
  unfold expireGrace
  repeat' split
  · exact told_loadChange (Inner.walked (Inner.load_raise (by rfl) (by rfl) _))
  · exact .of_load rfl
  · exact .of_load rfl
  · exact .of_load rfl

theorem told_expireHoldoff (i : Slot) (s : State) : LoadTold s (expireHoldoff i s) := by
  unfold expireHoldoff
  repeat' split
  · exact told_loadChange (Inner.walked (.load rfl rfl))
  · exact .of_load rfl
  · exact .of_load rfl

theorem told_lapseEntry (i : Slot) (s : State) : LoadTold s (lapseEntry i s) := by
  unfold lapseEntry
  repeat' split
  · exact .of_load rfl
  · exact told_loadChange (Inner.walked (Inner.load_raise (by rfl) (by rfl) _))
  · exact .of_load rfl
  · exact .of_load rfl

theorem inner_drop (s : State) : Inner s { s with load := { s.load with draft := [] } } := .emptied rfl rfl

theorem told_loadPartReset (s : State) : LoadTold s (loadPartReset s) :=
  told_loadChange (((inner_releaseHostSlots s).trans (inner_drop _)).walked)

theorem told_loadSystemOffClear (s : State) : LoadTold s (loadSystemOffClear s) := by
  have hclear : Inner s { releaseHostSlots s with load := ({ (releaseHostSlots s).load with draft := [] }).modifyEntry 0 clearSlot0 } :=
    (inner_releaseHostSlots s).trans (.emptied (grantHanded_modifyEntry { (releaseHostSlots s).load with draft := [] } _ _)
      (draft_modifyEntry { (releaseHostSlots s).load with draft := [] } _ _))
  exact told_loadChange (hclear.walked.trans (.attention _ _))

/-- A change of a mark leaves what the records count and are granted. -/
theorem told_mapEntries {f : Slot → Entry → Entry} (h : ∀ i e, (f i e).counted = e.counted ∧ (f i e).granted = e.granted) (s : State) :
    LoadTold s { s with load := s.load.mapEntries f } := by
  have hentry : ∀ i, (s.load.mapEntries f).entry i = (s.load.entry i).map (f i) := fun i => by simp [LoadRec.mapEntries, LoadRec.entry]
  refine .still (fun i => ?_) ?_ (mapEntries_keeps _ f).1
  · show (s.load.mapEntries f).countedAt i = _
    unfold LoadRec.countedAt
    rw [hentry]
    cases s.load.entry i with
    | none => rfl
    | some e => exact (h i e).1
  · show (s.load.mapEntries f).slot0Grant = _
    unfold LoadRec.slot0Grant
    rw [hentry]
    cases s.load.entry 0 with
    | none => rfl
    | some e => exact (h 0 e).2

theorem told_lineDone (n : Line) (s : State) : LoadTold s (lineDone n s) :=
  told_mapEntries (fun _ e => by split <;> exact ⟨rfl, rfl⟩) s

theorem told_loadTakes (c : Instr) (s : State) : LoadTold s (loadTakes c s) := by
  unfold loadTakes
  split
  · unfold takeCeiling
    split
    · exact .of_load rfl
    · exact told_loadChange (Inner.walked (.load rfl rfl))
  · exact told_handLoadResults (inner_claimSlot0 _ _ s)
  · exact (told_loadChange (inner_protect s)).handed_mem (State.hand_load _ _) fun c hc => List.mem_append_left _ hc
  · exact told_lineDone _ s
  · exact told_loadChange (inner_lineFailed _ s)
  · exact .of_load (State.raiseAll_load _ s)
  · exact told_loadChange (inner_cutReturn s)
  · exact told_loadChange (inner_lineReturn _ s)
  · exact told_loadChange (inner_lift s)
  · unfold loadResetTakes
    split
    · exact told_loadPartReset s
    · exact told_loadSystemOffClear s
    · exact .of_load rfl

/-! ### The load requests -/

theorem inner_place (i : Slot) (e : Entry) (s : State) : Inner s { s with load := s.load.place i e } := by
  have hready : s.load.readyCounter.grantHanded = s.load.grantHanded ∧ s.load.readyCounter.draft = s.load.draft := by
    unfold LoadRec.readyCounter
    split
    · exact ⟨by simp only [LoadRec.renumber, LoadRec.mapEntries], s.load.draft_renumber⟩
    · exact ⟨rfl, rfl⟩
  exact .load hready.1 hready.2

theorem inner_revise (i : Slot) (a : ReviseArgs) (e : Entry) (s : State) : Inner s { s with load := s.load.revise i a e } := by
  unfold LoadRec.revise
  dsimp only
  split <;> exact .load rfl rfl

theorem inner_applyAdmit {a : AdmitArgs} {h : Handle} (ha : applyAdmit a s = .ok (u, h)) : Inner s u := by
  unfold applyAdmit at ha
  repeat' split at ha
  all_goals first
    | cases ha; done
    | injection ha with ha
      injection ha with hu _
      exact hu ▸ inner_place _ _ s

theorem inner_applyRevise {a : ReviseArgs} {w : Bool} (ha : applyRevise a s = .ok (u, w)) : Inner s u := by
  unfold applyRevise at ha
  repeat' split at ha
  all_goals first
    | cases ha; done
    | injection ha with ha
      injection ha with hu _
      exact hu ▸ inner_revise _ _ _ s

theorem inner_applyRelease {h : Handle} (ha : applyRelease h s = .ok u) : Inner s u := by
  unfold applyRelease at ha
  repeat' split at ha
  all_goals first
    | cases ha; done
    | injection ha with hu
      exact hu ▸ inner_releaseSlot _ s

theorem inner_applyChange {c : Change} {hs : List Handle} (ha : applyChange c s = .ok (u, hs)) : Inner s u := by
  unfold applyChange at ha
  cases c with
  | admitEntry a =>
    dsimp only at ha
    split at ha
    next h => injection ha with ha; injection ha with hu _; exact hu ▸ inner_applyAdmit h
    · cases ha
  | revise a =>
    dsimp only at ha
    split at ha
    next h => injection ha with ha; injection ha with hu _; exact hu ▸ inner_applyRevise h
    · cases ha
  | release h =>
    dsimp only at ha
    split at ha
    next h => injection ha with ha; injection ha with hu _; exact hu ▸ inner_applyRelease h
    · cases ha

theorem inner_commitChanges (cs : List Change) (s : State) : Inner s (commitChanges cs s).state := by
  induction cs generalizing s with
  | nil => exact .refl s
  | cons c cs ih =>
    unfold commitChanges
    split
    · exact .refl s
    next h => exact (inner_applyChange h).trans (ih _)

theorem told_admitRequest (a : AdmitArgs) (s : State) : LoadTold s (admitRequest a s).1 := by
  unfold admitRequest
  refine .require ?_
  split
  · exact .of_load rfl
  next h =>
    dsimp only
    exact told_handLoadResults (inner_applyAdmit h).walked

theorem told_reviseRequest (a : ReviseArgs) (s : State) : LoadTold s (reviseRequest a s).1 := by
  unfold reviseRequest
  refine .require ?_
  split
  · exact .of_load rfl
  next u w h =>
    have hu := inner_applyRevise h
    dsimp only
    exact told_handLoadResults (.ite hu.walked hu)

theorem told_releaseRequest (h : Handle) (s : State) : LoadTold s (releaseRequest h s).1 := by
  unfold releaseRequest
  refine .require ?_
  split
  · exact .of_load rfl
  next h =>
    dsimp only
    exact told_handLoadResults (inner_applyRelease h).walked

theorem told_confirmRequest (h : Handle) (s : State) : LoadTold s (confirmRequest h s).1 := by
  unfold confirmRequest
  repeat' split
  · exact .of_load rfl
  · exact .of_load rfl
  · dsimp only
    exact told_loadChange (Inner.walked (.load rfl rfl))

/-- A change of one record that leaves what it counts and is granted. -/
theorem told_setEntry {i : Slot} {e d : Entry} (he : s.load.entry i = some e) (hc : d.counted = e.counted) (hg : d.granted = e.granted) :
    LoadTold s { s with load := s.load.setEntry i (some d) } := by
  have hentry : ∀ j, (s.load.setEntry i (some d)).entry j = if j = i then some d else s.load.entry j := fun j =>
    LoadRec.entry_setEntry s.load i j (some d)
  refine .still (fun j => ?_) ?_ rfl
  · show (s.load.setEntry i (some d)).countedAt j = _
    unfold LoadRec.countedAt
    rw [hentry]
    by_cases hij : j = i
    · subst hij
      rw [if_pos rfl, he]
      exact hc
    · rw [if_neg hij]
  · show (s.load.setEntry i (some d)).slot0Grant = _
    unfold LoadRec.slot0Grant
    rw [hentry]
    by_cases hij : 0 = i
    · subst hij
      rw [if_pos rfl, he]
      exact hg
    · rw [if_neg hij]

theorem told_renewRequest (h : Handle) (s : State) : LoadTold s (renewRequest h s).1 := by
  unfold renewRequest
  refine .require ?_
  split
  · exact .of_load rfl
  next i e hl =>
    have he := entry_of_lookup hl
    split
    · exact .of_load rfl
    · split
      · dsimp only
        exact told_loadChange (Inner.walked (.load rfl rfl))
      · exact told_setEntry he rfl rfl

theorem told_commitRequest (s : State) : LoadTold s (commitRequest s).1 := by
  unfold commitRequest
  refine .require (.require ?_)
  dsimp only
  split
  next h0 =>
    unfold committed
    rw [if_pos h0, commitChanges_of_none_applied h0]
    exact .of_entries (fun _ => rfl) rfl
  next h0 =>
    obtain ⟨hhanded, -⟩ := inner_commitChanges s.load.draft s
    have hwalk : (committed (commitChanges s.load.draft s)).load.grantHanded = s.load.grantHanded := by
      unfold committed
      rw [if_neg h0]
      exact (inner_runWalk _).grantHanded.trans hhanded
    exact told_handLoadResults_of_grant hwalk

theorem told_loadRequest {c : Instr} (h : isLoadRequest c = true) (s : State) : LoadTold s (requestChange c s).1 := by
  have hstage : ∀ ok x, LoadTold s (stage ok x s).1 := fun ok x => .require (.require (.require (.of_entries (fun _ => rfl) rfl)))
  cases c <;> (try cases h)
  case admitEntry a => exact told_admitRequest a s
  case stagedAdmit a => exact hstage _ _
  case revise a => exact told_reviseRequest a s
  case stagedRevise a => exact hstage _ _
  case release h => exact told_releaseRequest h s
  case stagedRelease h => exact hstage _ _
  case query h => exact .of_load (congrArg State.load (queryRequest_state h s))
  case findTag tag => exact .of_load rfl
  case findRail rail => exact .of_load (congrArg State.load (findRailRequest_state rail s))
  case order => exact .of_load rfl
  case confirm h => exact told_confirmRequest h s
  case renew h => exact told_renewRequest h s
  case commit => exact told_commitRequest s
  case discard => exact .of_entries (fun _ => rfl) rfl
  case draftRead => exact .of_load rfl

end Sys2Proof.Machine
end

section
/-!
PROOFS. A changed total, a changed slot 0 grant and a changed ceiling are handed over: O12.
-/
namespace Sys2Proof.Machine

variable {s t u : State}

/-! ### The load side -/

/-- What waits for another party than the Load Manager waits on. -/
def OthersWait (s t : State) : Prop := ∀ y ∈ s.handed, (∀ p, route y ≠ some ⟨p, .loadManager⟩) → y ∈ t.handed

theorem LoadTold.trans (h : LoadTold s t) (k : LoadTold t u) (hw : OthersWait t u) : LoadTold s u := by
  refine ⟨?_, fun hx => ?_⟩
  · rcases k.total with hk | hk
    · rw [hk]
      exact h.total.imp_right fun hm => hw _ hm fun p hp => by cases hp
    · exact .inr hk
  · obtain ⟨hh, hg⟩ := h.grant hx
    obtain ⟨kh, kg⟩ := k.grant hh
    refine ⟨kh, ?_⟩
    rcases kg with kg | kg
    · rw [kg]
      exact hg.imp_right fun ⟨answer, hm⟩ => ⟨answer, hw _ hm fun p hp => by cases hp⟩
    · exact .inr kg

theorem LoadTold.before (hl : s.load = u.load) (h : LoadTold s t) : LoadTold u t := by
  obtain ⟨htotal, hgrant⟩ := h
  rw [hl] at htotal hgrant
  exact ⟨htotal, hgrant⟩

theorem OthersWait.take {c : Instr} {r : Route} (hc : route c = some r) (hr : r.receiver = .loadManager) (s : State) :
    OthersWait s (s.take c) := by
  obtain ⟨sender, receiver⟩ := r
  subst hr
  exact fun y hy hn => (List.mem_erase_of_ne (fun hyc : y = c => hn sender (hyc ▸ hc))).mpr hy

/-- R180: no request drops what was handed over. -/
theorem mem_handed_request (c : Instr) (s : State) {y : Instr} (hy : y ∈ s.handed) : y ∈ (requestChange c s).1.handed := by
  by_cases hr : c = .partReset
  · subst hr
    exact require_cases (p := fun x => y ∈ x.handed) hy fun _ => List.mem_append_left _ hy
  by_cases hm : ∃ m, c = .mask m
  · obtain ⟨m, rfl⟩ := hm
    cases m with
    | none => exact hy
    | some m => exact require_cases (p := fun x => y ∈ x.handed) hy fun _ => hy
  obtain ⟨p, -, hp⟩ := acts_request hr (fun m hc => hm ⟨m, hc⟩) s
  exact hp.mem hy

theorem told_request (c : Instr) (s : State) : LoadTold s (requestChange c s).1 := by
  by_cases h : isLoadRequest c = true
  · exact told_loadRequest h s
  · exact .of_load (load_requestChange (by simpa using h) s)

theorem told_event (c : Instr) (s : State) : LoadTold s (eventChange c s) := by
  by_cases h : isLoadEvent c = true
  · cases c <;> simp only [isLoadEvent, Bool.false_eq_true] at h
    case graceExpiry i => exact told_expireGrace i s
    case holdoffExpiry i => exact told_expireHoldoff i s
    case lapse i => exact told_lapseEntry i s
    all_goals exact .of_load rfl
  · exact .of_load (load_eventChange (by simpa using h) s)

theorem told_claim {c : Instr} {r : Route} (hc : route c = some r) (hr : r.receiver = .loadManager) (s : State) :
    LoadTold s (claimChange c s) ∧ OthersWait s (claimChange c s) := by
  rw [claimChange_of_route hc, hr]
  exact ⟨LoadTold.before (s := s.take c) rfl (told_loadTakes c _), fun y hy hn => (acts_loadTakes c (s.take c)).mem (OthersWait.take hc hr s y hy hn)⟩

/-- An event of a command that is no claim on another party. -/
theorem told_part {c : Instr} {f : State → State} (hf : PartOf c f) (hc : ∀ r, route c = some r → r.receiver = .loadManager) (s : State) :
    LoadTold s (f s) ∧ OthersWait s (f s) := by
  induction hf with
  | port _ p => exact ⟨.of_load rfl, fun y hy _ => hy⟩
  | @framed bytes d f h _ ih =>
    refine ih fun r hr => ?_
    rcases h with h | h <;> cases d <;> first
      | (cases hr; done)
      | cases h
  | @request c _ => exact ⟨(told_request c s).handed_mem rfl fun _ => id, fun y hy _ => mem_handed_request c s hy⟩
  | @reset c d _ hd => exact told_claim (route_of_isLoadReset hd) rfl s
  | @claim c d r h hd => exact told_claim hd (hc r h) s
  | @own c _ => exact ⟨told_event c s, fun y hy _ => (acts_eventChange c s).mem hy⟩

/-- The load table is changed by a load request or an event of the Load Manager only. -/
theorem load_of_exec {c : Instr} (h : exec c s = .next t) (hc : isAnyRecord c = false) (hl : isLoadRequest c = false)
    (he : isLoadEvent c = false) : t.load = s.load := by
  refine changes_exec h hc .load ?_
  have hw := load_not_mem_workFields hl he
  unfold footprint
  split <;> simp [hw]

theorem not_loadEvent_of_route {c : Instr} {r : Route} (hc : route c = some r) (hr : r.receiver ≠ .loadManager) :
    isAnyRecord c = false ∧ isLoadRequest c = false ∧ isLoadEvent c = false := by
  cases c <;> simp only [route, reduceCtorEq, Option.some.injEq] at hc <;> subst hc <;> first
    | exact absurd rfl hr
    | exact ⟨rfl, rfl, rfl⟩

/-- R4, R37: what every command tells of the load table. -/
theorem loadTold_of_exec {c : Instr} (hp : ∀ x, c ≠ .powerOnReset x) (h : exec c s = .next t) : LoadTold s t := by
  by_cases hc : ∀ r, route c = some r → r.receiver = .loadManager
  · have hboth : LoadTold s t ∧ OthersWait s t := by
      refine Chain.within (R := fun s t => LoadTold s t ∧ OthersWait s t) (fun s => ⟨.of_load rfl, fun y hy _ => hy⟩)
        (fun s t u h k => ⟨h.1.trans k.1 k.2, fun y hy hn => k.2 y (h.2 y hy hn) hn⟩) (fun f hf s => ?_) (chain_of_exec hp h)
      unfold eventState
      split
      · exact ⟨.of_load rfl, fun y hy _ => hy⟩
      · obtain ⟨htold, hwait⟩ := told_part hf hc s
        exact ⟨htold.handed_mem (finish_load _) fun _ => id, hwait⟩
    exact hboth.1
  · simp only [Classical.not_forall] at hc
    obtain ⟨r, hr, hn⟩ := hc
    obtain ⟨hany, hreq, hev⟩ := not_loadEvent_of_route hr hn
    exact .of_load (load_of_exec h hany hreq hev)

/-! ### The supply side -/

/-- R92: a changed ceiling is told, and what was told of it stands. -/
structure CeilingTells (s t : State) : Prop where
  told : CeilingTold s t
  waits : ∀ x, .ceilingHandover x ∈ s.handed → .ceilingHandover x ∈ t.handed
  raised : Pending (.supply .ceiling) s → Pending (.supply .ceiling) t

theorem CeilingTells.refl (s : State) : CeilingTells s s := ⟨.inl rfl, fun _ => id, id⟩

theorem CeilingTells.trans (h : CeilingTells s t) (k : CeilingTells t u) : CeilingTells s u := by
  refine ⟨?_, fun x hx => k.waits x (h.waits x hx), fun hp => k.raised (h.raised hp)⟩
  rcases k.told with hk | hk
  · unfold CeilingTold
    rw [hk]
    exact h.told.imp_right fun ⟨hm, hp⟩ => ⟨k.waits _ hm, k.raised hp⟩
  · exact .inr hk

theorem SupplySide.tells (h : SupplySide s t) : CeilingTells s t := ⟨h.told, fun _ hx => h.grows.mem hx, fun hp => h.grows.pending hp⟩

theorem CeilingTells.take {c : Instr} (h : ∀ x, c ≠ .ceilingHandover x) (s : State) : CeilingTells s (s.take c) :=
  ⟨.inl rfl, fun x hx => (List.mem_erase_of_ne (h x).symm).mpr hx, id⟩

theorem CeilingTells.finish (s : State) : CeilingTells s (finish s) := ⟨.inl rfl, fun _ => id, id⟩

/-- A claim on a route of the supply side is taken there. -/
theorem supplyTakes_of_route {c d : Instr} {r : Route} (hs : isSupplyCommand c = true) (hc : route c = some r) (hd : route d = some r)
    (s : State) : SupplySide s (receives r.receiver d s) ∧ ∀ x, d ≠ .ceilingHandover x := by
  have hne : ∀ x, d ≠ .ceilingHandover x := by
    rintro x rfl
    injection hd with hd
    rcases receiver_of_supplyCommand hs hc with hr | ⟨b, hr⟩ <;> rw [← hd] at hr <;> cases hr
  rcases receiver_of_supplyCommand hs hc with hr | ⟨b, hr⟩ <;> rw [hr]
  · exact ⟨side_supplyTakes d s, hne⟩
  · exact ⟨side_bayTakes d s, hne⟩

theorem tells_part {c : Instr} {f : State → State} (hf : PartOf c f) (hs : isSupplyCommand c = true) (s : State) : CeilingTells s (f s) := by
  induction hf with
  | @port c h _ => cases c <;> first | (cases hs; done) | cases h
  | framed _ _ => cases hs
  | request _ => exact (side_supplyRequest hs s).tells.trans ⟨.inl rfl, fun _ => id, id⟩
  | @reset c d h _ => cases c <;> first | (cases hs; done) | cases h
  | @claim c d r h hd =>
    obtain ⟨hside, hne⟩ := supplyTakes_of_route hs h hd (s.take d)
    rw [claimChange_of_route hd]
    exact (CeilingTells.take hne s).trans hside.tells
  | own _ => exact (side_supplyEvent hs s).tells

theorem supply_not_mem_footprint {c : Instr} (h : isSupplyCommand c = false) (hc : isAnyRecord c = false) :
    Field.supply ∉ footprint c ∧ Field.bays ∉ footprint c := by
  cases c <;> simp only [isSupplyCommand, isAnyRecord, Bool.true_eq_false] at h hc <;>
    simp [footprint, workFields, isRequest, isLoadRequest, isLoadEvent, isSupplyCommand, isLightCommand, isMotionCommand, isEpisodeCommand,
      isSystemCommand, isStoreCommand]

/-- The supply record is changed by a command of the supply side only, its mode by the outputs. -/
theorem supply_of_exec {c : Instr} (h : exec c s = .next t) (hc : isAnyRecord c = false) (hs : isSupplyCommand c = false) :
    t.supply = s.supply ∨ t.supply = (finish s).supply := by
  have hone : ∀ s t : State, t.supply = s.supply ∨ t.supply = (finish s).supply → ∀ u : State, u.supply = t.supply ∨ u.supply = (finish t).supply →
      u.supply = s.supply ∨ u.supply = (finish s).supply := by
    rintro s t (h | h) u (k | k)
    · exact .inl (k.trans h)
    · exact .inr (by rw [k, finish_supply, h, finish_supply])
    · exact .inr (k.trans h)
    · exact .inr (by rw [k, finish_supply, h, finish_supply]; rfl)
  refine Chain.within (R := fun s t => t.supply = s.supply ∨ t.supply = (finish s).supply) (fun s => .inl rfl)
    (fun s t u h k => hone s t h u k) (fun f hf s => ?_) (chain_of_exec (fun x hx => by subst hx; cases hc) h)
  have hsame : (f s).supply = s.supply := changes_part hf hc s .supply (supply_not_mem_footprint hs hc).1
  unfold eventState
  split
  · exact .inl rfl
  · exact .inr (by rw [finish_supply, hsame, finish_supply])

theorem ceiling_of_exec {c : Instr} (h : exec c s = .next t) (hc : isAnyRecord c = false) (hs : isSupplyCommand c = false) :
    t.supply.ceiling = s.supply.ceiling := by
  rcases supply_of_exec h hc hs with he | he
  · rw [he]
  · rw [he, finish_supply]

theorem ceilingTold_of_named {c : Instr} (hc : isAnyRecord c = false) (h : exec c s = .next t) : CeilingTold s t := by
  cases hs : isSupplyCommand c with
  | false => exact .inl (ceiling_of_exec h hc hs)
  | true =>
    have htells : CeilingTells s t := by
      refine Chain.within CeilingTells.refl (fun _ _ _ => .trans) (fun f hf s => ?_) (chain_of_exec (fun x hx => by subst hx; cases hc) h)
      unfold eventState
      split
      · exact .refl s
      · exact (tells_part hf hs s).trans (.finish _)
    exact htells.told

theorem not_anyRecord_of_request {d : Instr} (h : isPlainRequest d = true ∨ isLoadRequest d = true) : isAnyRecord d = false := by
  rcases h with h | h <;> cases d <;> first | rfl | cases h

/-- R92: what every command tells of the planning ceiling. -/
theorem ceilingTold_of_exec {c : Instr} (hp : ∀ x, c ≠ .powerOnReset x) (h : exec c s = .next t) : CeilingTold s t := by
  cases hany : isAnyRecord c with
  | false => exact ceilingTold_of_named hany h
  | true =>
    cases c <;> simp only [isAnyRecord, Bool.false_eq_true] at hany
    case powerOnReset x => exact absurd rfl (hp x)
    case frame bytes =>
      rcases frameTaken_exec bytes s with hf | ⟨p, hf⟩ | ⟨d, hd, hf⟩
      · rw [hf] at h
        injection h with h
        exact .inl (by rw [← h])
      · rw [hf] at h
        injection h with h
        refine .inl ?_
        rw [← h, eventState]
        split <;> rfl
      · exact ceilingTold_of_named (not_anyRecord_of_request hd) (hf ▸ h)

/-- Settles O12: the load side by what its events hand over at their end, the supply side by what the recomputation tells. -/
theorem changedTotalsAreHandedOver : Obligations.ChangedTotalsAreHandedOver := by
  intro c s t hp h
  obtain ⟨htotal, hgrant⟩ := loadTold_of_exec hp h
  refine ⟨fun hne => htotal.resolve_left hne, fun hx => ?_, fun hne => (ceilingTold_of_exec hp h).resolve_left hne⟩
  obtain ⟨hh, hg⟩ := hgrant hx
  exact ⟨hh, fun hne => hg.resolve_left hne⟩

end Sys2Proof.Machine
end

section
/-!
PROOFS. What each command leaves as it was, the supply of the part among it: O11.
-/
namespace Sys2Proof.Machine

variable {s t u : State}

/-! ### The records -/

/-- R177: each record belongs to the commands of its own block. -/
theorem own_fields {c : Instr} (hc : isAnyRecord c = false) :
    (isLightCommand c = false → Field.light ∉ footprint c ++ eventFields) ∧
    (isMotionCommand c = false → Field.motion ∉ footprint c ++ eventFields) ∧
    (isEpisodeCommand c = false → Field.episode ∉ footprint c ++ eventFields) ∧
    (isSystemCommand c = false → Field.system ∉ footprint c ++ eventFields) ∧
    (isStoreCommand c = false → Field.store ∉ footprint c ++ eventFields ∧
      (c ≠ .supplyProfileChange → Field.bridgeTests ∉ footprint c ++ eventFields)) ∧
    (isRequest c = false → Field.port ∉ footprint c ++ eventFields) := by
  cases c <;> simp only [isAnyRecord, Bool.true_eq_false] at hc <;>
    simp [footprint, workFields, isRequest, isLoadRequest, isLoadEvent, isSupplyCommand, isLightCommand, isMotionCommand, isEpisodeCommand,
      isSystemCommand, isStoreCommand]

theorem bays_of_exec {c : Instr} (h : exec c s = .next t) (hc : isAnyRecord c = false) (hs : isSupplyCommand c = false) :
    t.bayA = s.bayA ∧ t.bayB = s.bayB :=
  changes_exec h hc .bays (by simp [(supply_not_mem_footprint hs hc).2])

theorem finish_supply_of_follows (h : OutputsFollow s) : (finish s).supply = s.supply := by
  have hmode : s.supply.modeNow = s.supply.mode := by
    rw [h.mode]
    unfold SupplyRec.modeNow
    cases s.supply.slot <;> rfl
  rw [finish_supply, hmode]

/-! ### The masks -/

theorem masks_part {c : Instr} {f : State → State} (hf : PartOf c f) (hc : isAnyRecord c = false) (hr : c ≠ .partReset)
    (hm : ∀ m, c ≠ .mask m) (s : State) : (f s).attention.masks = s.attention.masks := by
  cases hf with
  | port _ _ => rfl
  | framed _ _ => cases hc
  | request _ =>
    obtain ⟨p, -, hp⟩ := acts_request hr hm s
    exact hp.masks
  | reset _ hd =>
    rw [claimChange_of_route (route_of_isLoadReset hd)]
    exact (acts_receives _ _ _).masks
  | claim _ hd =>
    rw [claimChange_of_route hd]
    exact (acts_receives _ _ _).masks
  | own _ => exact (acts_eventChange _ s).masks

theorem masks_of_exec {c : Instr} (h : exec c s = .next t) (hc : isAnyRecord c = false) (hr : c ≠ .partReset) (hm : ∀ m, c ≠ .mask m) :
    t.attention.masks = s.attention.masks := by
  refine Chain.within (R := fun s t => t.attention.masks = s.attention.masks) (fun s => rfl) (fun s t u h k => k.trans h) (fun f hf s => ?_)
    (chain_of_exec (fun x hx => by subst hx; cases hc) h)
  unfold eventState
  split
  · rfl
  · exact masks_part hf hc hr hm s

/-! ### What a power-on reset found -/

/-- A contact or an inlet, which no party of the part hands over (R199). -/
def FromInputs (y : Instr) : Prop := ∃ x, route y = some ⟨.inputs, x⟩

theorem not_fromInputs {p : Party} {y : Instr} (hy : FromInputs y) (hp : p ≠ .inputs) : ¬SentBy p y := by
  rintro ⟨r, hr, rfl⟩
  obtain ⟨x, hx⟩ := hy
  rw [hr] at hx
  injection hx with hx
  exact hp (congrArg Route.sender hx)

theorem Acts.inputs {p : Party} (h : Acts p s t) (hp : p ≠ .inputs) {y : Instr} (hy : FromInputs y) : y ∈ t.handed ↔ y ∈ s.handed :=
  ⟨fun hm => (h.mem_new hm).resolve_right (not_fromInputs hy hp), h.mem⟩

theorem inputs_request (c : Instr) (s : State) {y : Instr} (hy : FromInputs y) : y ∈ (requestChange c s).1.handed ↔ y ∈ s.handed := by
  refine ⟨fun h => ?_, mem_handed_request c s⟩
  by_cases hr : c = .partReset
  · subst hr
    have hkeep : ∀ v : State, v.handed = s.handed → y ∈ (v.handAll (partResetClaims (reloadedProfile s.store))).handed → y ∈ s.handed :=
      fun v hv hm => (List.mem_append.mp hm).elim (fun hm => hv ▸ hm) fun hm => by
        obtain ⟨x, hx⟩ := hy
        simp only [partResetClaims, List.mem_cons, List.not_mem_nil, or_false] at hm
        rcases hm with rfl | rfl | rfl | rfl | rfl | rfl | rfl <;> cases hx
    exact require_cases (p := fun x => y ∈ x.handed → y ∈ s.handed) id (fun _ => hkeep _ rfl) h
  by_cases hm : ∃ m, c = .mask m
  · obtain ⟨m, rfl⟩ := hm
    cases m with
    | none => exact h
    | some m => exact require_cases (p := fun x => y ∈ x.handed → y ∈ s.handed) id (fun _ => id) h
  obtain ⟨p, hp, hact⟩ := acts_request hr (fun m hc => hm ⟨m, hc⟩) s
  exact (hact.inputs hp hy).mp h

theorem speaker_ne_inputs {c : Instr} {r : Route} (h : route c = some r) : r.receiver.speaker ≠ .inputs := by
  cases c <;> simp only [route, reduceCtorEq, Option.some.injEq] at h <;> subst h <;> simp [Party.speaker]

theorem inputs_claim {c y : Instr} {r : Route} (h : route c = some r) (hs : r.sender ≠ .inputs) (s : State) (hy : FromInputs y) :
    y ∈ (claimChange c s).handed ↔ y ∈ s.handed := by
  have hne : y ≠ c := fun hyc => by
    obtain ⟨x, hx⟩ := hy
    rw [hyc, h] at hx
    injection hx with hx
    exact hs (congrArg Route.sender hx)
  rw [claimChange_of_route h]
  exact ((acts_receives _ _ _).inputs (speaker_ne_inputs h) hy).trans (List.mem_erase_of_ne hne)

theorem eventBlock_ne_inputs (c : Instr) : eventBlock c ≠ .inputs := by
  unfold eventBlock
  repeat' split
  all_goals decide

/-- R177: the supply side alone takes what the inputs hand over. -/
theorem sender_of_not_supply {c : Instr} {r : Route} (hs : isSupplyCommand c = false) (h : route c = some r) : r.sender ≠ .inputs := by
  cases c <;> simp only [route, isSupplyCommand, reduceCtorEq, Option.some.injEq, Bool.true_eq_false] at h hs <;> subst h <;> simp

theorem inputs_part {c y : Instr} {f : State → State} (hf : PartOf c f) (hc : isAnyRecord c = false) (hs : isSupplyCommand c = false)
    (s : State) (hy : FromInputs y) : y ∈ (f s).handed ↔ y ∈ s.handed := by
  cases hf with
  | port _ _ => exact Iff.rfl
  | framed _ _ => cases hc
  | request _ => exact inputs_request c s hy
  | reset _ hd => exact inputs_claim (route_of_isLoadReset hd) (by simp) s hy
  | claim h hd => exact inputs_claim hd (sender_of_not_supply hs h) s hy
  | own _ => exact (acts_eventChange c s).inputs (eventBlock_ne_inputs c) hy

/-! ### The supply of the part -/

/-- The part has lost its supply: it takes what waits, and has stopped when nothing did. -/
def LostSupply (t : State) : Prop := t.power = .failing ∨ (t.power = .stopped ∧ t.handed = [])

/-- R112: how the supply of a part goes while nothing that feeds it changes. -/
structure PowerPath (s t : State) : Prop where
  fed : Fed t ↔ Fed s
  waits : SourceWaits t ↔ SourceWaits s
  supplied : s.power = .supplied → t.power = .supplied ∨ (¬Fed s ∧ LostSupply t)
  failing : s.power = .failing → LostSupply t
  gained : s.power = .gained → t.power = .gained ∨ (t.power = .supplied ∧ Fed s ∧ ¬SourceWaits s)
  stopped : s.power = .stopped → t = s

theorem PowerPath.refl (s : State) : PowerPath s s := ⟨Iff.rfl, Iff.rfl, .inl, .inl, .inl, fun _ => rfl⟩

theorem PowerPath.lost (k : PowerPath t u) (h : LostSupply t) : LostSupply u := by
  rcases h with h | ⟨h, hh⟩
  · exact k.failing h
  · rw [k.stopped h]
    exact .inr ⟨h, hh⟩

theorem PowerPath.trans (h : PowerPath s t) (k : PowerPath t u) : PowerPath s u := by
  refine ⟨k.fed.trans h.fed, k.waits.trans h.waits, fun hp => ?_, fun hp => k.lost (h.failing hp), fun hp => ?_, fun hp => ?_⟩
  · rcases h.supplied hp with hx | ⟨hn, hx⟩
    · exact (k.supplied hx).imp_right fun ⟨hn, hl⟩ => ⟨fun hf => hn (h.fed.mpr hf), hl⟩
    · exact .inr ⟨hn, k.lost hx⟩
  · rcases h.gained hp with hx | ⟨hx, hf, hw⟩
    · exact (k.gained hx).imp_right fun ⟨hy, hf, hw⟩ => ⟨hy, h.fed.mp hf, fun hs => hw (h.waits.mpr hs)⟩
    · rcases k.supplied hx with hy | ⟨hn, -⟩
      · exact .inr ⟨hy, hf, hw⟩
      · exact absurd (h.fed.mpr hf) hn
  · have ht := h.stopped hp
    exact (k.stopped (ht ▸ hp)).trans ht

theorem lostSupply_finish {v : State} (h : powerNow v = unfedPower v) : LostSupply (finish v) := by
  unfold LostSupply
  rw [show (finish v).power = unfedPower v from h, finish_handed]
  unfold unfedPower
  by_cases hh : v.handed = []
  · rw [if_pos hh]; exact .inr ⟨rfl, hh⟩
  · rw [if_neg hh]; exact .inl rfl

/-- R112: one event that changes nothing that feeds the part. -/
theorem powerPath_event {f : State → State} (hp : (f s).power = s.power) (hf : Fed (f s) ↔ Fed s) (hw : SourceWaits (f s) ↔ SourceWaits s) :
    PowerPath s (eventState f s) := by
  unfold eventState
  split
  · exact .refl s
  next ha =>
    have hfed : fed (f s) = true ↔ Fed s := (fed_iff _).trans hf
    have hwaits : sourceWaits (f s) = true ↔ SourceWaits s := (sourceWaits_iff _).trans hw
    refine ⟨((fed_iff _).symm.trans (by rw [fed_finish])).trans hfed, ((sourceWaits_iff _).symm.trans (by rw [sourceWaits_finish])).trans hwaits,
      fun hs => ?_, fun hs => lostSupply_finish ?_, fun hs => ?_, fun hs => absurd hs ha⟩
    · by_cases hx : Fed s
      · left
        show powerNow (f s) = _
        rw [powerNow, hp, hs]
        exact if_pos (hfed.mpr hx)
      · refine .inr ⟨hx, lostSupply_finish ?_⟩
        rw [powerNow, hp, hs]
        exact if_neg (mt hfed.mp hx)
    · rw [powerNow, hp, hs]
    · show powerNow (f s) = _ ∨ (powerNow (f s) = _ ∧ _)
      rw [powerNow, hp, hs]
      dsimp only
      by_cases hx : (fed (f s) && !sourceWaits (f s)) = true
      · rw [if_pos hx]
        simp only [Bool.and_eq_true, Bool.not_eq_true'] at hx
        exact .inr ⟨rfl, hfed.mp hx.1, fun hy => by rw [hwaits.mpr hy] at hx; cases hx.2⟩
      · rw [if_neg hx]
        exact .inl rfl

theorem fed_congr (hA : t.bayA = s.bayA) (hB : t.bayB = s.bayB) (hs : t.supply = s.supply) : Fed t ↔ Fed s := by
  unfold Fed
  rw [hA, hB, hs]

theorem power_not_mem_footprint {c : Instr} (h : isSupplyCommand c = false) (hc : isAnyRecord c = false) : Field.power ∉ footprint c := by
  cases c <;> simp only [isSupplyCommand, isAnyRecord, Bool.true_eq_false] at h hc <;>
    simp [footprint, workFields, isRequest, isLoadRequest, isLoadEvent, isSupplyCommand, isLightCommand, isMotionCommand, isEpisodeCommand,
      isSystemCommand, isStoreCommand]

theorem powerPath_of_exec {c : Instr} (h : exec c s = .next t) (hc : isAnyRecord c = false) (hs : isSupplyCommand c = false) :
    PowerPath s t := by
  refine Chain.within PowerPath.refl (fun _ _ _ => .trans) (fun f hf s => ?_) (chain_of_exec (fun x hx => by subst hx; cases hc) h)
  have hchange := changes_part hf hc s
  obtain ⟨hsupply, hbays⟩ := supply_not_mem_footprint hs hc
  have hpower := power_not_mem_footprint hs hc
  obtain ⟨hA, hB⟩ := hchange .bays hbays
  refine powerPath_event (hchange .power hpower) (fed_congr hA hB (hchange .supply hsupply)) ?_
  unfold SourceWaits
  rw [inputs_part hf hc hs s ⟨_, rfl⟩, inputs_part hf hc hs s ⟨_, rfl⟩, inputs_part hf hc hs s ⟨_, rfl⟩]

/-- A command that is no frame has stopped with the part, or has written the outputs behind its last event. -/
theorem stopped_or_finished {c : Instr} (h : exec c s = .next t) (hc : isAnyRecord c = false) : t.power = .stopped ∨ ∃ v, t = finish v := by
  have hlast : ∀ f u, (.next (eventState f u) : Result) = .next t → t.power = .stopped ∨ ∃ v, t = finish v := fun f u he => by
    injection he with he
    rw [← he]
    unfold eventState
    split
    next hp => exact .inl hp
    · exact .inr ⟨_, rfl⟩
  rcases command_cases c with hx | hx | hx | ⟨r, hx⟩ | hx | ⟨x, rfl⟩
  · cases c <;> simp only [isFrame, isAnyRecord, Bool.false_eq_true, Bool.true_eq_false] at hx hc
    case moreFollowsFrame code args =>
      obtain ⟨p, hp⟩ := exec_moreFollowsFrame_eq code args s
      exact hlast _ _ (hp ▸ h)
  · exact hlast _ _ (exec_plainRequest hx s ▸ h)
  · exact hlast _ _ (exec_loadRequest hx s ▸ h)
  · exact hlast _ _ (exec_claim hx s ▸ h)
  · exact hlast _ _ (exec_ownEvent hx s ▸ h)
  · cases hc

/-- R112: the supply of a part whose power its records and what waits give. -/
theorem PowerPath.judged (h : PowerPath s t) (ks : t.power = .supplied → Fed t) (kf : t.power = .failing → t.handed ≠ [])
    (kg : t.power = .gained → ¬Fed t ∨ SourceWaits t) : PowerJudged s.power t := by
  have hlost : LostSupply t → WithoutSupply t := fun hl => by
    unfold WithoutSupply
    rcases hl with hl | ⟨hl, hh⟩
    · rw [if_neg (kf hl), hl]
    · rw [if_pos hh, hl]
  refine ⟨fun hp => ⟨fun hf => ?_, fun hn => ?_⟩, fun hp => hlost (h.failing hp), fun hp => ⟨fun hf hw => ?_, fun hx _ => ?_⟩⟩
  · exact (h.supplied hp).resolve_right fun ⟨hn, _⟩ => hn (h.fed.mp hf)
  · rcases h.supplied hp with hx | ⟨-, hx⟩
    · exact absurd (ks hx) hn
    · exact hlost hx
  · rcases h.gained hp with hx | ⟨hx, -, -⟩
    · exact ((kg hx).elim (fun hn => hn hf) hw).elim
    · exact hx
  · rcases h.gained hp with hy | ⟨-, hf, hw⟩
    · exact hy
    · exact (hx.elim (fun hn => hn (h.fed.mpr hf)) fun hs => hw (h.waits.mp hs)).elim

theorem judged_of_exec {c : Instr} (h : exec c s = .next t) (hc : isAnyRecord c = false) (hs : isSupplyCommand c = false) :
    PowerJudged s.power t := by
  have hpath := powerPath_of_exec h hc hs
  rcases stopped_or_finished h hc with hp | ⟨v, rfl⟩
  · refine hpath.judged ?_ ?_ ?_ <;> (intro hx; rw [hp] at hx; cases hx)
  · have hfollow := outputsFollow_finish v
    exact hpath.judged hfollow.supplied hfollow.failing hfollow.gained

/-- Settles O11: the records by the footprints of the commands, the supply of the part by what feeds it. -/
theorem recordsKeptByOtherCommands : Obligations.RecordsKeptByOtherCommands := by
  refine ⟨fun c s t h hc => ⟨load_of_exec h hc, fun hs => ?_⟩, fun c s t h hc => ?_⟩
  · obtain ⟨hA, hB⟩ := bays_of_exec h hc hs
    refine ⟨hA, hB, fun hfollow => ?_⟩
    rcases supply_of_exec h hc hs with he | he
    · exact he
    · rw [he, finish_supply_of_follows hfollow]
  · obtain ⟨hlight, hmotion, hepisode, hsystem, hstore, hport⟩ := own_fields hc
    have hkeep := changes_exec h hc
    refine ⟨fun hx => hkeep .light (hlight hx), fun hx => hkeep .motion (hmotion hx), fun hx => hkeep .episode (hepisode hx),
      fun hx => hkeep .system (hsystem hx), fun hx => ⟨hkeep .store (hstore hx).1, fun hn => hkeep .bridgeTests ((hstore hx).2 hn)⟩,
      fun hx => hkeep .port (hport hx), fun hs => ?_, fun hr hm => masks_of_exec h hc hr hm⟩
    have hpath := powerPath_of_exec h hc hs
    exact ⟨hpath.fed, judged_of_exec h hc hs, fun hg hx => (hpath.gained hg).resolve_right fun ⟨_, hf, hw⟩ => hx.elim (fun hn => hn hf) hw⟩

end Sys2Proof.Machine
end

section
/-!
PROOFS. The constraints of the profiles, the curve, the power map and the masks: the first part of O10.
-/
namespace Sys2Proof.Machine

variable {s t u : State}

/-! ### The settings of the backlight -/

/-- An operation that leaves the curve and the settings of the Backlight Controller. -/
structure SameSettings (s t : State) : Prop where
  curve : t.light.curve = s.light.curve
  settings : t.light.settings = s.light.settings

theorem SameSettings.of_light (h : t.light = s.light) : SameSettings s t := ⟨by rw [h], by rw [h]⟩

theorem SameSettings.refl (s : State) : SameSettings s s := ⟨rfl, rfl⟩

theorem SameSettings.trans (h : SameSettings s t) (k : SameSettings t u) : SameSettings s u :=
  ⟨k.curve.trans h.curve, k.settings.trans h.settings⟩

theorem SameSettings.ite {q : Prop} [Decidable q] (h : SameSettings s t) (k : SameSettings s u) : SameSettings s (if q then t else u) := by
  split
  · exact h
  · exact k

theorem SameSettings.record {r : LightRec} (hc : r.curve = s.light.curve) (hs : r.settings = s.light.settings) :
    SameSettings s { s with light := r } := ⟨hc, hs⟩

theorem sameSettings_sendClaim (c : Claim) (s : State) : SameSettings s (sendClaim c s) := ⟨rfl, rfl⟩

theorem sameSettings_formPair (s : State) : SameSettings s (formPair s) :=
  .ite (.record (by rfl) (by rfl)) (.ite (.refl s) (sameSettings_sendClaim _ s))

theorem sameSettings_capTest (s : State) : SameSettings s (capTest s) := .ite (.refl s) (.ite (.ite (.refl s) ⟨rfl, rfl⟩) (.record (by rfl) (by rfl)))

theorem sameSettings_refreshTarget (s : State) : SameSettings s (refreshTarget s) :=
  (SameSettings.trans (.record (by rfl) (by rfl)) (sameSettings_formPair _)).trans (sameSettings_capTest _)

theorem sameSettings_retarget (s : State) : SameSettings s (retarget s) := .ite (.record (by rfl) (by rfl)) (sameSettings_refreshTarget s)

theorem sameSettings_remap (s : State) : SameSettings s (remap s) :=
  (SameSettings.trans (.record (by rfl) (by rfl)) (sameSettings_formPair _)).trans (sameSettings_capTest _)

theorem takeReading_settings (p : Profile) (front rear : Option Nat) (r : LightRec) :
    (takeReading p front rear r).curve = r.curve ∧ (takeReading p front rear r).settings = r.settings := by
  unfold takeReading
  repeat' split
  all_goals exact ⟨rfl, rfl⟩

theorem readLight_settings (p : Profile) (front rear : Option Nat) (r : LightRec) :
    (readLight p front rear r).curve = r.curve ∧ (readLight p front rear r).settings = r.settings := by
  unfold readLight
  dsimp only
  split
  · exact ⟨rfl, rfl⟩
  · exact takeReading_settings _ _ _ _

theorem sameSettings_readSensors (front rear : Option Nat) (s : State) : SameSettings s (readSensors front rear s) := by
  obtain ⟨hc, hs⟩ := readLight_settings s.profile front rear s.light
  have hread : SameSettings s { s with light := readLight s.profile front rear s.light } := .record hc hs
  have hraise : ∀ a, SameSettings s (({ s with light := readLight s.profile front rear s.light } : State).raise a) := fun _ => ⟨hc, hs⟩
  exact .ite (.ite (hraise _) hread) ((SameSettings.ite (hraise _) hread).trans (sameSettings_retarget _))

theorem sameSettings_expirePin (s : State) : SameSettings s (expirePin s) := by
  have hpin : SameSettings s (({ s with light := { s.light with pin := none } }).raise (.light .pinExpired)) := ⟨rfl, rfl⟩
  exact hpin.trans (sameSettings_retarget _)

theorem sameSettings_takeAnswer (s : State) : SameSettings s (takeAnswerToClaim s) := by
  unfold takeAnswerToClaim
  dsimp only
  split
  · exact .ite (.record (by rfl) (by rfl)) (SameSettings.trans (.record (by rfl) (by rfl)) (sameSettings_sendClaim _ _))
  · exact .record (by rfl) (by rfl)

theorem sameSettings_takeGrant (grant : Nat) (answer : Bool) (s : State) : SameSettings s (takeGrant grant answer s) := by
  have hcap : SameSettings s { s with light := recap { s.light with grantTaken := grant } } := .record (by rfl) (by rfl)
  have hboth := SameSettings.ite (q := answer = true) (hcap.trans (sameSettings_takeAnswer _)) hcap
  exact .ite (hboth.trans (sameSettings_capTest _)) hboth

theorem sameSettings_endFreeze (s : State) : SameSettings s (endFreeze s) :=
  .ite (SameSettings.trans (.record (by rfl) (by rfl)) (sameSettings_retarget _)) (.record (by rfl) (by rfl))

theorem sameSettings_lightNotice (st : SystemState) (s : State) : SameSettings s (lightNotice st s) := by
  cases st with
  | starting => exact SameSettings.trans (.record (by rfl) (by rfl)) (sameSettings_refreshTarget _)
  | run => exact .refl s
  | stopping => exact .refl s
  | dark =>
    have hclear : SameSettings s { s with light := clearedLight s.light, attention := s.attention.empty lightSource } := ⟨rfl, rfl⟩
    exact hclear.trans (sameSettings_formPair _)

theorem not_anyRecord_of_ownEvent {c : Instr} (h : isOwnEvent c = true) : isAnyRecord c = false := by
  cases c <;> first | rfl | cases h

theorem sameSettings_eventChange (c : Instr) (s : State) : SameSettings s (eventChange c s) := by
  by_cases ho : isOwnEvent c = true
  · by_cases hl : isLightCommand c = true
    · cases c <;> simp only [isOwnEvent, isLightCommand, Bool.false_eq_true] at ho hl
      case readEvent front rear => exact .ite (sameSettings_readSensors front rear s) (.refl s)
      case rampStep => exact .ite (.record (by rfl) (by rfl)) (.refl s)
      case pinExpiry => exact .ite (sameSettings_expirePin s) (.refl s)
    · exact .of_light (changes_ownEvent ho s .light (light_not_mem_workFields (by simpa using hl)))
  · rw [eventChange_of_not_own (by simpa using ho)]
    exact .refl s

/-! ### The curve and the power map -/

/-- R121, R129: the curve table and the power map of the Backlight Controller keep their constraints. -/
structure LightSettingsOk (s : State) : Prop where
  curve : curveOk s.light.curve = true
  map : s.light.settings.p0 ≤ s.light.settings.pfull

theorem SameSettings.ok (h : SameSettings s t) (hs : LightSettingsOk s) : LightSettingsOk t :=
  ⟨h.curve ▸ hs.curve, h.settings ▸ hs.map⟩

theorem curveOk_iff (ps : List Point) : curveOk ps = true ↔ curveOrdered ps = true ∧ ps.all pointInRange = true ∧ ps.length ≤ curveLimit := by
  simp [curveOk, and_assoc]

theorem profileOk_iff (p : Profile) : profileOk p = true ↔ p.consistent = true ∧ curveOk p.defaultCurve = true ∧ masksValid p.masks = true := by
  simp [profileOk, and_assoc]

theorem map_of_consistent {p : Profile} (h : p.consistent = true) : p.p0 ≤ p.pfull := by
  simp only [Profile.consistent, Bool.and_eq_true, decide_eq_true_eq] at h
  exact h.1.1.1.1

theorem ok_replaceCurve {ps : List Point} (h : curveOk ps = true) (hs : LightSettingsOk s) : LightSettingsOk (replaceCurve ps s) :=
  (sameSettings_retarget { s with light := { s.light with curve := ps } }).ok ⟨h, hs.map⟩

theorem curveOk_insertPoint {p : Point} {ps : List Point} (h : curveOk ps = true) (hp : pointInRange p = true) (hn : ps.length < curveLimit)
    (ho : curveOrdered (insertPoint p ps) = true) : curveOk (insertPoint p ps) = true := by
  obtain ⟨-, hall, -⟩ := (curveOk_iff ps).mp h
  rw [List.all_eq_true] at hall
  refine (curveOk_iff _).mpr ⟨ho, List.all_eq_true.mpr fun q hq => ?_, ?_⟩
  · rcases List.mem_append.mp hq with hq | hq
    · exact hall q (List.takeWhile_subset _ hq)
    · rcases List.mem_cons.mp hq with rfl | hq
      · exact hp
      · exact hall q (List.dropWhile_subset _ hq)
  · have hlen := congrArg List.length (List.takeWhile_append_dropWhile (p := fun q : Point => decide (q.lux < p.lux)) (l := ps))
    rw [List.length_append] at hlen
    rw [insertPoint, List.length_append, List.length_cons]
    omega

theorem curveOk_filter {ps : List Point} (h : curveOk ps = true) (f : Point → Bool) : curveOk (ps.filter f) = true := by
  obtain ⟨ho, hall, hn⟩ := (curveOk_iff ps).mp h
  rw [List.all_eq_true] at hall
  exact (curveOk_iff _).mpr ⟨(curveOrdered_iff _).mpr (((curveOrdered_iff ps).mp ho).filter f),
    List.all_eq_true.mpr fun q hq => hall q ((List.mem_filter.mp hq).1), Nat.le_trans (List.length_filter_le f ps) hn⟩

theorem ok_curveSet (ps : List Point) (hs : LightSettingsOk s) : LightSettingsOk (curveSetRequest ps s).1 :=
  require_cases hs fun hall => require_cases hs fun hn => require_cases hs fun ho =>
    ok_replaceCurve ((curveOk_iff ps).mpr ⟨ho, hall, of_decide_eq_true hn⟩) hs

theorem ok_curveAdd (p : Point) (hs : LightSettingsOk s) : LightSettingsOk (curveAddRequest p s).1 :=
  require_cases hs fun hp => require_cases hs fun hn => require_cases hs fun ho =>
    ok_replaceCurve (curveOk_insertPoint hs.curve hp (of_decide_eq_true hn) ho) hs

theorem ok_curveRemove (lux : Nat) (hs : LightSettingsOk s) : LightSettingsOk (curveRemoveRequest lux s).1 :=
  require_cases hs fun _ => ok_replaceCurve (curveOk_filter hs.curve _) hs

theorem ok_request (c : Instr) (hs : LightSettingsOk s) : LightSettingsOk (requestChange c s).1 := by
  by_cases hl : isLoadRequest c = true
  · exact (SameSettings.of_light (changes_loadRequestChange hl s .light (by simp))).ok hs
  by_cases hp : isPlainRequest c = true
  · by_cases hlight : isLightCommand c = true
    · have hretarget : ∀ r : LightRec, r.curve = s.light.curve → r.settings = s.light.settings → LightSettingsOk (retarget { s with light := r }) :=
        fun r hc hx => ((SameSettings.record hc hx).trans (sameSettings_retarget _)).ok hs
      cases c <;> simp [isPlainRequest, isFrame, isRequest, isLoadRequest, isLightCommand] at hl hp hlight
      case curveSet ps => exact ok_curveSet ps hs
      case curveAdd p => exact ok_curveAdd p hs
      case curveRemove lux => exact ok_curveRemove lux hs
      case panel value =>
        refine require_cases hs fun _ => ?_
        show LightSettingsOk (setPanel _ s)
        unfold setPanel
        split
        · exact hs
        · exact hretarget _ rfl rfl
      case pin level duration => exact require_cases hs fun _ => hretarget _ rfl rfl
      case unpin => exact require_cases hs fun _ => hretarget _ rfl rfl
    · exact (SameSettings.of_light (changes_plainRequest hp s .light (light_not_mem_workFields (by simpa using hlight)))).ok hs
  · rw [requestChange_of_no_request (by simpa using hp) (by simpa using hl)]
    exact hs

theorem ok_lightTakes (c : Instr) (hp : profileOk s.profile = true) (hs : LightSettingsOk s) : LightSettingsOk (lightTakes c s) := by
  obtain ⟨hcons, hcurve, -⟩ := (profileOk_iff _).mp hp
  have hmap := map_of_consistent hcons
  unfold lightTakes
  split
  · exact (sameSettings_takeGrant _ _ s).ok hs
  · exact SameSettings.ok (s := s) ⟨rfl, rfl⟩ hs
  · exact (SameSettings.ite (sameSettings_endFreeze s) (.refl s)).ok hs
  · exact (sameSettings_lightNotice _ s).ok hs
  next setting =>
    have htaken : LightSettingsOk { s with light := { s.light with settings := takenSettings setting s.profile s.light.settings } } := by
      refine ⟨hs.curve, ?_⟩
      show (takenSettings setting s.profile s.light.settings).p0 ≤ (takenSettings setting s.profile s.light.settings).pfull
      unfold takenSettings
      repeat' split
      · exact hmap
      · exact hs.map
      · exact hs.map
      · exact hs.map
    have hfollow : ∀ v, SameSettings v (followSetting setting v) := fun v =>
      .ite (sameSettings_remap v) (.ite ((sameSettings_formPair v).trans (sameSettings_capTest _)) (.ite (sameSettings_retarget v) (.refl v)))
    exact (hfollow _).ok htaken
  · have hnew : LightSettingsOk { s with light := { s.light with
      curve := s.profile.defaultCurve, pin := none, capped := false, settings := s.profile.lightSettings } } := ⟨hcurve, hmap⟩
    exact (SameSettings.trans (.record (by rfl) (by rfl)) (sameSettings_remap _)).ok hnew
  · exact hs

/-! ### The profiles -/

/-- R140, R200: every profile that the store holds keeps its constraints. -/
structure StoreOk (r : StoreRec) : Prop where
  working : profileOk r.working = true
  stored : profileOk r.stored = true
  snapshot : ∀ x, r.storing = some x → profileOk x.snapshot = true

theorem within_some {low high v : Nat} {p q : Profile} (h : within low high v p = some q) : q = p := by
  unfold within at h
  split at h
  · injection h with h
    exact h.symm
  · cases h

theorem map_some {α : Type} {o : Option α} {f : α → Profile} {q : Profile} (h : o.map f = some q) : ∃ x, q = f x := by
  cases o with
  | none => cases h
  | some x => exact ⟨x, by injection h with h; exact h.symm⟩

/-- R201: a setting of one or two bytes is neither the curve nor the masks. -/
theorem putNumber_keeps {n v : Nat} {p q : Profile} (h : putNumber n v p = some q) : q.defaultCurve = p.defaultCurve ∧ q.masks = p.masks := by
  unfold putNumber at h
  split at h
  all_goals first
    | (rw [within_some h]; exact ⟨rfl, rfl⟩)
    | (obtain ⟨x, rfl⟩ := map_some h; exact ⟨rfl, rfl⟩)
    | cases h

theorem profileOk_putSetting {n : Nat} {value : List Byte} {p q : Profile} (hp : profileOk p = true) (h : putSetting n value p = .ok q) :
    profileOk q = true := by
  obtain ⟨hcons, hcurve, hmasks⟩ := (profileOk_iff p).mp hp
  unfold putSetting at h
  split at h
  · split at h
    next ps _ =>
      unfold putCurve at h
      split at h
      · cases h
      next hall =>
        split at h
        · cases h
        next hn =>
          split at h
          · cases h
          next ho =>
            injection h with h
            subst h
            exact (profileOk_iff _).mpr ⟨hcons, (curveOk_iff ps).mpr ⟨by simpa using ho, by simpa using hall, by omega⟩, hmasks⟩
    · cases h
  · split at h
    · split at h
      next m _ =>
        unfold putMasks at h
        split at h
        next hm =>
          injection h with h
          subst h
          exact (profileOk_iff _).mpr ⟨hcons, hcurve, hm⟩
        · cases h
      · cases h
    · unfold putChecked at h
      split at h
      next r hr =>
        split at h
        next hc =>
          injection h with h
          subst h
          obtain ⟨hd, hm⟩ := putNumber_keeps hr
          exact (profileOk_iff _).mpr ⟨hc, by rw [hd]; exact hcurve, by rw [hm]; exact hmasks⟩
        · cases h
      · cases h

theorem profileOk_default : profileOk defaultProfile = true := by decide

theorem StoreOk.reloaded {r : StoreRec} (h : StoreOk r) : profileOk (reloadedProfile r) = true := by
  unfold reloadedProfile
  split
  next x hx => exact h.snapshot x hx
  · split
    · exact h.stored
    · exact profileOk_default

theorem StoreOk.afterReset {r : StoreRec} (h : StoreOk r) : StoreOk (storeAfterReset r) := by
  refine ⟨?_, h.stored, fun x hx => by cases hx⟩
  show profileOk (if copyPasses r then r.stored else defaultProfile) = true
  split
  · exact h.stored
  · exact profileOk_default

theorem StoreOk.ended {passes : Bool} (h : StoreOk s.store) : StoreOk (endStore passes s).store := by
  unfold endStore
  split
  next x hx => exact ⟨h.working, h.snapshot x hx, fun y hy => by cases hy⟩
  · exact h

theorem StoreOk.written {n : Nat} {value : List Byte} (h : StoreOk s.store) : StoreOk (profileWriteRequest n value s).1.store := by
  refine require_cases (p := fun v => StoreOk v.store) h fun _ => require_cases (p := fun v => StoreOk v.store) h fun _ =>
    require_cases (p := fun v => StoreOk v.store) h fun _ => ?_
  split
  · exact h
  next q hq =>
    show StoreOk (writeProfile n q s).store
    unfold writeProfile
    split
    · exact h
    · exact ⟨profileOk_putSetting h.working hq, h.stored, h.snapshot⟩

theorem settingsLaw_iff (s : State) : SettingsLaw s ↔ StoreOk s.store ∧ LightSettingsOk s ∧ masksValid s.attention.masks = true :=
  ⟨fun h => ⟨⟨h.working, h.stored, h.snapshot⟩, ⟨h.curve, h.map⟩, h.masks⟩,
    fun ⟨hstore, hlight, hmasks⟩ => ⟨hstore.working, hstore.stored, hstore.snapshot, hlight.curve, hlight.map, hmasks⟩⟩

/-! ### The store and the masks through every change -/

theorem store_not_mem_workFields {c : Instr} (hc : isAnyRecord c = false) (h : isStoreCommand c = false) : Field.store ∉ workFields c := fun hm => by
  obtain ⟨-, -, -, -, hstore, -⟩ := own_fields hc
  exact (hstore h).1 (List.mem_append_left _ (workFields_subset_footprint c hm))

theorem storeOk_event (c : Instr) (h : StoreOk s.store) : StoreOk (eventChange c s).store := by
  by_cases ho : isOwnEvent c = true
  · by_cases hx : isStoreCommand c = true
    · cases c <;> simp only [isOwnEvent, isStoreCommand, Bool.false_eq_true] at ho hx
      exact h.ended
    · have hsame : (eventChange c s).store = s.store :=
        changes_ownEvent ho s .store (store_not_mem_workFields (not_anyRecord_of_ownEvent ho) (by simpa using hx))
      rw [hsame]
      exact h
  · rw [eventChange_of_not_own (by simpa using ho)]
    exact h

theorem storeOk_request (c : Instr) (h : StoreOk s.store) : StoreOk (requestChange c s).1.store := by
  by_cases hl : isLoadRequest c = true
  · rw [show (requestChange c s).1.store = s.store from changes_loadRequestChange hl s .store (by simp)]
    exact h
  by_cases hp : isPlainRequest c = true
  · by_cases hx : isStoreCommand c = true
    · cases c <;> simp [isPlainRequest, isFrame, isRequest, isLoadRequest, isStoreCommand] at hl hp hx
      case partReset =>
        exact require_cases (p := fun v => StoreOk v.store) h fun _ => ⟨h.reloaded, h.stored, h.snapshot⟩
      case profileWrite n value => exact h.written
      case profileStore =>
        exact require_cases (p := fun v => StoreOk v.store) h fun _ =>
          ⟨h.working, h.stored, fun x hx => by injection hx with hx; rw [← hx]; exact h.working⟩
    · have hsame : (requestChange c s).1.store = s.store :=
        changes_plainRequest hp s .store (store_not_mem_workFields (not_anyRecord_of_request (.inl hp)) (by simpa using hx))
      rw [hsame]
      exact h
  · rw [requestChange_of_no_request (by simpa using hp) (by simpa using hl)]
    exact h

theorem store_claim (c : Instr) (s : State) : (claimChange c s).store = s.store := by
  cases hr : route c with
  | none => simp [claimChange, hr]
  | some r =>
    refine changes_claimChange hr s .store ?_
    unfold routeFields
    repeat' split
    all_goals simp

theorem ok_claim (c : Instr) (hp : profileOk s.store.working = true) (h : LightSettingsOk s) : LightSettingsOk (claimChange c s) := by
  cases hr : route c with
  | none =>
    rw [show claimChange c s = s by simp [claimChange, hr]]
    exact h
  | some r =>
    by_cases hb : r.receiver = .backlight
    · rw [claimChange_of_route hr, hb]
      exact ok_lightTakes c (s := s.take c) hp (SameSettings.ok (s := s) ⟨rfl, rfl⟩ h)
    · refine (SameSettings.of_light (changes_claimChange hr s .light ?_)).ok h
      unfold routeFields
      cases hx : r.receiver with
      | backlight => exact absurd hx hb
      | supplyController => dsimp only; repeat' split
                            all_goals simp
      | _ => simp

/-- R182: what a request makes of the masks. -/
theorem masks_request (c : Instr) (hstore : StoreOk s.store) (h : masksValid s.attention.masks = true) :
    masksValid (requestChange c s).1.attention.masks = true := by
  by_cases hr : c = .partReset
  · subst hr
    refine require_cases (p := fun v => masksValid v.attention.masks = true) h fun _ => ?_
    obtain ⟨-, -, hmasks⟩ := (profileOk_iff _).mp hstore.reloaded
    show masksValid (resetAttention (reloadDefaults s.store) (reloadedProfile s.store) s.attention).masks = true
    unfold resetAttention
    dsimp only
    split <;> exact hmasks
  by_cases hm : ∃ m, c = .mask m
  · obtain ⟨m, rfl⟩ := hm
    cases m with
    | none => exact h
    | some m => exact require_cases (p := fun v => masksValid v.attention.masks = true) h fun hv => hv
  obtain ⟨p, -, hact⟩ := acts_request hr (fun m hc => hm ⟨m, hc⟩) s
  rw [hact.masks]
  exact h

theorem masks_claim (c : Instr) (s : State) : (claimChange c s).attention.masks = s.attention.masks := by
  cases hr : route c with
  | none => simp [claimChange, hr]
  | some r =>
    rw [claimChange_of_route hr]
    exact (acts_receives _ _ _).masks

/-- R121, R129, R140, R182, R200: the constraints through every change. -/
theorem kept_settingsLaw : Kept fun s t => SettingsLaw s → SettingsLaw t where
  refl _ := id
  trans _ _ _ h k hs := k (h hs)
  finish _ h := ⟨h.working, h.stored, h.snapshot, h.curve, h.map, h.masks⟩
  port _ _ h := ⟨h.working, h.stored, h.snapshot, h.curve, h.map, h.masks⟩
  event c s h := by
    obtain ⟨hstore, hlight, hmasks⟩ := (settingsLaw_iff s).mp h
    exact (settingsLaw_iff _).mpr ⟨storeOk_event c hstore, (sameSettings_eventChange c s).ok hlight,
      by rw [(acts_eventChange c s).masks]; exact hmasks⟩
  request c s h := by
    obtain ⟨hstore, hlight, hmasks⟩ := (settingsLaw_iff s).mp h
    exact (settingsLaw_iff _).mpr ⟨storeOk_request c hstore, ok_request c hlight, masks_request c hstore hmasks⟩
  claim c s h := by
    obtain ⟨hstore, hlight, hmasks⟩ := (settingsLaw_iff s).mp h
    exact (settingsLaw_iff _).mpr ⟨by rw [store_claim]; exact hstore, ok_claim c hstore.working hlight, by rw [masks_claim]; exact hmasks⟩

theorem settingsLaw_tick (s : State) (h : SettingsLaw s) : SettingsLaw (tick s) := by
  obtain ⟨hstore, hlight, hmasks⟩ := (settingsLaw_iff s).mp h
  refine (settingsLaw_iff _).mpr ⟨?_, ⟨?_, ?_⟩, by rw [tick_attention]; exact hmasks⟩
  · rw [tick_store]
    refine ⟨hstore.working, hstore.stored, fun x hx => ?_⟩
    obtain ⟨y, hy, rfl⟩ := Option.map_eq_some_iff.mp hx
    exact hstore.snapshot y hy
  · rw [tick_light]; exact hlight.curve
  · rw [tick_light]; exact hlight.map

theorem settingsLaw_powerOn (x : ResetInputs) (s : State) (h : SettingsLaw s) : SettingsLaw (powerOnState x s) := by
  obtain ⟨hstore, -, -⟩ := (settingsLaw_iff s).mp h
  have hnew := hstore.afterReset
  obtain ⟨hcons, hcurve, hmasks⟩ := (profileOk_iff _).mp hnew.working
  refine (settingsLaw_iff _).mpr ⟨hnew, ⟨hcurve, map_of_consistent hcons⟩, ?_⟩
  show masksValid (attentionAfterReset s.store).masks = true
  unfold attentionAfterReset
  dsimp only
  split <;> exact hmasks

theorem invariant_settingsLaw : Invariant SettingsLaw where
  kept := kept_settingsLaw
  pending _ _ h := ⟨h.working, h.stored, h.snapshot, h.curve, h.map, h.masks⟩
  tick := settingsLaw_tick
  powerOn := settingsLaw_powerOn

end Sys2Proof.Machine
end

section
/-!
PROOFS. The reasons of the sources and the Draft List through every step: O10.
-/
namespace Sys2Proof.Machine

variable {s t u : State}

/-! ### The reasons -/

theorem reasonsLaw_emptyAll (a : AttentionRec) (m : MaskBytes) : ReasonsLaw { a.emptyAll with masks := m } := by
  intro i
  have hset : ({ a.emptyAll with masks := m } : AttentionRec).sets[i] = 0 := by simp [AttentionRec.emptyAll]
  rw [hset]
  exact BitVec.zero_and

theorem reasonsLaw_request (c : Instr) (h : ReasonsLaw s.attention) : ReasonsLaw (requestChange c s).1.attention := by
  by_cases hr : c = .partReset
  · subst hr
    refine require_cases (p := fun v => ReasonsLaw v.attention) h fun _ => ?_
    show ReasonsLaw (resetAttention (reloadDefaults s.store) (reloadedProfile s.store) s.attention)
    unfold resetAttention
    dsimp only
    split
    · exact (reasonsLaw_emptyAll _ _).raise _
    · exact reasonsLaw_emptyAll _ _
  by_cases hm : ∃ m, c = .mask m
  · obtain ⟨m, rfl⟩ := hm
    cases m with
    | none => exact h
    | some m => exact require_cases (p := fun v => ReasonsLaw v.attention) h fun _ => h
  obtain ⟨p, -, hact⟩ := acts_request hr (fun m hc => hm ⟨m, hc⟩) s
  exact hact.kinds h

theorem reasonsLaw_claim (c : Instr) (h : ReasonsLaw s.attention) : ReasonsLaw (claimChange c s).attention := by
  cases hr : route c with
  | none =>
    rw [show claimChange c s = s by simp [claimChange, hr]]
    exact h
  | some r =>
    rw [claimChange_of_route hr]
    exact (acts_receives _ _ _).kinds h

theorem reasonsLaw_powerOn (x : ResetInputs) (s : State) : ReasonsLaw (powerOnState x s).attention := by
  have hempty : ReasonsLaw (attentionAtReset (storeAfterReset s.store).working) := fun i => by
    have hset : (attentionAtReset (storeAfterReset s.store).working).sets[i] = 0 := by simp [attentionAtReset]
    rw [hset]
    exact BitVec.zero_and
  show ReasonsLaw (attentionAfterReset s.store)
  unfold attentionAfterReset
  dsimp only
  split
  · exact hempty
  · exact hempty.raise _

/-- R181: every source holds only reasons of its kind. -/
theorem invariant_reasonsLaw : Invariant fun s => ReasonsLaw s.attention where
  kept := {
    refl := fun _ => id
    trans := fun _ _ _ h k hs => k (h hs)
    finish := fun _ => id
    port := fun _ _ => id
    event := fun c s => (acts_eventChange c s).kinds
    request := fun c _ => reasonsLaw_request c
    claim := fun c _ => reasonsLaw_claim c }
  pending _ _ := id
  tick s h := by rw [tick_attention]; exact h
  powerOn x s _ := reasonsLaw_powerOn x s

/-! ### The Draft List -/

/-- The Draft List is as it was, or emptied. -/
def DraftKept (s t : State) : Prop := t.load.draft = s.load.draft ∨ t.load.draft = []

theorem DraftKept.of_load (h : t.load = s.load) : DraftKept s t := .inl (by rw [h])

/-- R57: the Draft List is kept or emptied, the clear that will drop it waits on, and the system state is the one before. -/
theorem DraftLaw.keep (h : DraftLaw s) (hd : DraftKept s t) (hs : t.system.state = s.system.state)
    (hm : .loadManagerSystemOffClear ∈ s.handed → .loadManagerSystemOffClear ∈ t.handed) : DraftLaw t := by
  unfold DraftLaw
  rw [hs]
  rcases hd with hd | hd
  · rw [hd]
    exact h.imp_right (Or.imp_right (Or.imp_right hm))
  · exact .inl hd

theorem draftKept_loadChange {f : State → State} (h : Inner s (f s)) : DraftKept s (loadChange f s) := by
  unfold DraftKept
  rw [draft_loadChange]
  exact h.draft

theorem draftKept_handLoadResults {before : LoadRec} {answer : Bool} (h : Inner s u) : DraftKept s (handLoadResults before answer u) := by
  unfold DraftKept
  rw [draft_handLoadResults]
  exact h.draft

theorem DraftKept.hand (h : DraftKept s t) (c : Instr) : DraftKept s (t.hand c) := by
  unfold DraftKept
  rw [State.hand_load]
  exact h

theorem draftKept_eventChange (c : Instr) (s : State) : DraftKept s (eventChange c s) := by
  by_cases h : isLoadEvent c = true
  · cases c <;> simp only [isLoadEvent, Bool.false_eq_true] at h
    case graceExpiry i =>
      show DraftKept s (expireGrace i s)
      unfold expireGrace
      repeat' split
      · exact draftKept_loadChange (Inner.walked (Inner.load_raise (by rfl) (by rfl) _))
      · exact .of_load rfl
      · exact .of_load rfl
      · exact .of_load rfl
    case holdoffExpiry i =>
      show DraftKept s (expireHoldoff i s)
      unfold expireHoldoff
      repeat' split
      · exact draftKept_loadChange (Inner.walked (.load rfl rfl))
      · exact .of_load rfl
      · exact .of_load rfl
    case lapse i =>
      show DraftKept s (lapseEntry i s)
      unfold lapseEntry
      repeat' split
      · exact .of_load rfl
      · exact draftKept_loadChange (Inner.walked (Inner.load_raise (by rfl) (by rfl) _))
      · exact .of_load rfl
      · exact .of_load rfl
    all_goals exact .of_load rfl
  · exact .of_load (load_eventChange (by simpa using h) s)

theorem draftKept_loadTakes (c : Instr) (s : State) : DraftKept s (loadTakes c s) := by
  unfold loadTakes
  split
  · unfold takeCeiling
    split
    · exact .of_load rfl
    · exact draftKept_loadChange (Inner.walked (.load rfl rfl))
  · exact draftKept_handLoadResults (inner_claimSlot0 _ _ s)
  · exact (draftKept_loadChange (inner_protect s)).hand _
  · exact .inl (mapEntries_keeps _ _).2
  · exact draftKept_loadChange (inner_lineFailed _ s)
  · exact .of_load (State.raiseAll_load _ s)
  · exact draftKept_loadChange (inner_cutReturn s)
  · exact draftKept_loadChange (inner_lineReturn _ s)
  · exact draftKept_loadChange (inner_lift s)
  · unfold loadResetTakes
    split
    · exact .inr (draft_loadPartReset s)
    · exact .inr (draft_loadSystemOffClear s)
    · exact .of_load rfl

/-- R198: an entry to DARK hands the clear over, and RUN and STOPPING let the list stand. -/
theorem draftLaw_enterState {r : SystemRec} (h : DraftLaw s)
    (hr : r.state = .dark ∨ r.state = .run ∨ r.state = .stopping ∨ s.system.state = .dark) : DraftLaw (enterState r s) := by
  rcases hr with hr | hr | hr | hr
  · refine .inr (.inr (.inr (List.mem_append_right _ ?_)))
    rw [hr]
    exact List.mem_cons_self
  · exact .inr (.inl hr)
  · exact .inr (.inr (.inl hr))
  · rcases h with h | h | h | h
    · exact .inl h
    · rw [hr] at h; cases h
    · rw [hr] at h; cases h
    · exact .inr (.inr (.inr (List.mem_append_left _ h)))

theorem draftLaw_changeButton (down : Bool) (h : DraftLaw s) : DraftLaw (changeButton down s) := by
  unfold changeButton
  split
  · exact h
  · refine h.keep (t := { s with system := if down then buttonDown s.system else buttonUp s.system }) (.of_load rfl) ?_ id
    show (if down then buttonDown s.system else buttonUp s.system).state = _
    split <;> rfl

theorem draftLaw_judgePress (h : DraftLaw s) : DraftLaw (judgePress s) := by
  unfold judgePress
  split
  next hd => exact draftLaw_enterState h (.inr (.inr (.inr hd.1)))
  · exact h.keep (.of_load rfl) rfl id

theorem draftLaw_enterDark (h : DraftLaw s) : DraftLaw (enterDark s) := draftLaw_enterState h (.inl rfl)

theorem system_not_mem_workFields {c : Instr} (hc : isAnyRecord c = false) (h : isSystemCommand c = false) : Field.system ∉ workFields c := fun hm => by
  obtain ⟨-, -, -, hsystem, -⟩ := own_fields hc
  exact hsystem h (List.mem_append_left _ (workFields_subset_footprint c hm))

theorem draftLaw_event (c : Instr) (h : DraftLaw s) : DraftLaw (eventChange c s) := by
  by_cases ho : isOwnEvent c = true
  · by_cases hx : isSystemCommand c = true
    · have hdark : ∀ q : Prop, ∀ _ : Decidable q, DraftLaw (if q then enterDark s else s) := fun q _ => by
        split
        · exact draftLaw_enterDark h
        · exact h
      cases c <;> simp only [isOwnEvent, isSystemCommand, Bool.false_eq_true] at ho hx
      case buttonChange down => exact draftLaw_changeButton down h
      case pressTimerExpiry =>
        show DraftLaw (if _ then judgePress s else s)
        split
        · exact draftLaw_judgePress h
        · exact h
      case holdTimerExpiry => exact hdark _ _
      case startTimerExpiry => exact hdark _ _
      case stopTimerExpiry => exact hdark _ _
    · refine h.keep (draftKept_eventChange c s) ?_ (acts_eventChange c s).mem
      exact congrArg SystemRec.state
        (changes_ownEvent ho s .system (system_not_mem_workFields (not_anyRecord_of_ownEvent ho) (by simpa using hx)))
  · rw [eventChange_of_not_own (by simpa using ho)]
    exact h

theorem draftKept_confirm (hd : Handle) (s : State) : DraftKept s (confirmRequest hd s).1 := by
  unfold confirmRequest
  repeat' split
  · exact .of_load rfl
  · exact .of_load rfl
  · dsimp only
    exact draftKept_loadChange (Inner.walked (.load rfl rfl))

theorem refuse_of_not_running {x : State × Reply} (h : running s = false) : (require (running s) .notRunning s x).1 = s := by
  rw [require_of_false h]
  rfl

/-- R15, R51: outside RUN no load request adds to the Draft List. -/
theorem draftKept_loadRequest {c : Instr} (hc : isLoadRequest c = true) (h : running s = false) : DraftKept s (requestChange c s).1 := by
  have hrefused : ∀ x : State × Reply, DraftKept s (require (running s) .notRunning s x).1 := fun x =>
    .of_load (congrArg State.load (refuse_of_not_running h))
  cases c <;> (try cases hc)
  case admitEntry a => exact hrefused _
  case stagedAdmit a => exact hrefused _
  case revise a => exact hrefused _
  case stagedRevise a => exact hrefused _
  case release hd => exact hrefused _
  case stagedRelease hd => exact hrefused _
  case query hd => exact .of_load (congrArg State.load (queryRequest_state hd s))
  case findTag tag => exact .of_load rfl
  case findRail rail => exact .of_load (congrArg State.load (findRailRequest_state rail s))
  case order => exact .of_load rfl
  case confirm hd => exact draftKept_confirm hd s
  case renew hd => exact hrefused _
  case commit => exact hrefused _
  case discard => exact .inr rfl
  case draftRead => exact .of_load rfl

theorem draftLaw_request (c : Instr) (h : DraftLaw s) : DraftLaw (requestChange c s).1 := by
  have hmem : ∀ {y}, y ∈ s.handed → y ∈ (requestChange c s).1.handed := mem_handed_request c s
  by_cases hl : isLoadRequest c = true
  · have hsystem : (requestChange c s).1.system = s.system := changes_loadRequestChange hl s .system (by simp)
    cases hr : running s with
    | true =>
      refine .inr (.inl ?_)
      rw [hsystem]
      simpa [running] using hr
    | false => exact h.keep (draftKept_loadRequest hl hr) (by rw [hsystem]) hmem
  by_cases hp : isPlainRequest c = true
  · by_cases hx : isSystemCommand c = true
    · cases c <;> simp [isPlainRequest, isFrame, isRequest, isLoadRequest, isSystemCommand] at hl hp hx
      case ready => exact require_cases h fun _ => draftLaw_enterState h (.inr (.inl rfl))
      case powerOff => exact require_cases h fun _ => draftLaw_enterState h (.inr (.inr (.inl rfl)))
    · refine h.keep (.of_load (load_requestChange (by simpa using hl) s)) ?_ hmem
      exact congrArg SystemRec.state
        (changes_plainRequest hp s .system (system_not_mem_workFields (not_anyRecord_of_request (.inl hp)) (by simpa using hx)))
  · rw [requestChange_of_no_request (by simpa using hp) (by simpa using hl)]
    exact h

theorem mem_handed_claim {c y : Instr} {r : Route} (hr : route c = some r) (hne : y ≠ c) (hy : y ∈ s.handed) : y ∈ (claimChange c s).handed := by
  rw [claimChange_of_route hr]
  exact (acts_receives _ _ _).mem ((List.mem_erase_of_ne hne).mpr hy)

/-- R57: taking the clear empties the list. -/
theorem draftLaw_clear (s : State) : DraftLaw (claimChange .loadManagerSystemOffClear s) := by
  rw [claimChange_of_route rfl]
  show DraftLaw (loadTakes .loadManagerSystemOffClear _)
  rw [loadTakes_systemOffClear]
  exact .inl (draft_loadSystemOffClear _)

theorem draftLaw_claim (c : Instr) (h : DraftLaw s) : DraftLaw (claimChange c s) := by
  cases hr : route c with
  | none =>
    rw [show claimChange c s = s by simp [claimChange, hr]]
    exact h
  | some r =>
    by_cases hc : c = .loadManagerSystemOffClear
    · subst hc
      exact draftLaw_clear s
    have hmem : .loadManagerSystemOffClear ∈ s.handed → .loadManagerSystemOffClear ∈ (claimChange c s).handed := mem_handed_claim hr (Ne.symm hc)
    by_cases hs : r.receiver = .systemPower
    · have htake : DraftLaw (s.take c) := h.keep (.of_load rfl) rfl fun hm => (List.mem_erase_of_ne (Ne.symm hc)).mpr hm
      rw [claimChange_of_route hr, hs]
      show DraftLaw (systemTakes c (s.take c))
      unfold systemTakes
      split
      · split
        · exact htake
        · exact draftLaw_enterDark htake
      · exact htake
    · have hsystem : (claimChange c s).system = s.system := by
        refine changes_claimChange hr s .system ?_
        unfold routeFields
        cases hx : r.receiver with
        | systemPower => exact absurd hx hs
        | supplyController => dsimp only; repeat' split
                              all_goals simp
        | _ => simp
      refine h.keep ?_ (by rw [hsystem]) hmem
      by_cases hl : isLoadEvent c = true
      · have hload : r.receiver = .loadManager := by
          cases c <;> simp only [route, isLoadEvent, reduceCtorEq, Option.some.injEq, Bool.false_eq_true] at hr hl <;> subst hr <;> rfl
        rw [claimChange_of_route hr, hload]
        exact draftKept_loadTakes c (s.take c)
      · exact .of_load (load_claimChange (by simpa using hl) s)

/-- R57: the Draft List through every step. -/
theorem invariant_draftLaw : Invariant DraftLaw where
  kept := {
    refl := fun _ => id
    trans := fun _ _ _ h k hs => k (h hs)
    finish := fun _ => id
    port := fun _ _ => id
    event := fun c _ => draftLaw_event c
    request := fun c _ => draftLaw_request c
    claim := fun c _ => draftLaw_claim c }
  pending _ _ := id
  tick s h := by
    refine h.keep (.inl ?_) (by rw [tick_system]; rfl) (by rw [tick_handed]; exact id)
    rw [tick_load]
    exact (mapEntries_keeps _ _).2
  powerOn _ _ _ := .inl rfl

/-- Settles O10: each law is kept by every change of the model, by the passing of time and by a power-on reset. -/
theorem settingsReasonsAndDraftKept : Obligations.SettingsReasonsAndDraftKept := fun _ _ h =>
  ⟨fun hs => invariant_settingsLaw.step hs h, fun hs => invariant_reasonsLaw.step hs h, fun hs => invariant_draftLaw.step hs h⟩

end Sys2Proof.Machine
end
